-- ==== Sys2Proof/Word.lean ====
section
/-! DEFINITION. Words of the Mesa processor (spec 00_scope.md R10, R13): the bit strings the manual computes with. -/

namespace Sys2Proof

/-- A word: 16 bits, the unit of addressing (R10, R13). -/
abbrev Word := BitVec 16

/-- A byte: 8 bits (R13). -/
abbrev Byte := BitVec 8

/-- A nibble: 4 bits (R13). -/
abbrev Nibble := BitVec 4

/-- A double word, and a long pointer: 32 bits (R10, R13). -/
abbrev Long := BitVec 32

/-- A double word from its two halves (R16: word 0 is the low-order half). -/
abbrev Long.ofHalves (high low : Word) : Long := high ++ low

/-- `LowHalf[u]` = u[15:0] (R16). -/
abbrev Long.low (u : Long) : Word := u.extractLsb' 0 16

/-- `HighHalf[u]` = u[31:16] (R16). -/
abbrev Long.high (u : Long) : Word := u.extractLsb' 16 16

/-- The left byte of a word, v[15:8] (R16). -/
abbrev Word.left (w : Word) : Byte := w.extractLsb' 8 8

/-- The right byte of a word, v[7:0] (R16). -/
abbrev Word.right (w : Word) : Byte := w.extractLsb' 0 8

end Sys2Proof
end

