-- ==== Sys2Proof/Machine/Bits.lean ====
section
/-! DEFINITION. Conversions, shifts and division of the manual's basic operators (spec 00_scope.md R14, R18 to R30). -/

namespace Sys2Proof.Machine

/-- A byte in word arithmetic: zero-extended (R26). -/
def byteWord (b : Byte) : Word := b.setWidth 16

/-- A nibble in word arithmetic: zero-extended (R26). -/
def nibbleWord (n : Nibble) : Word := n.setWidth 16

/-- `SignExtend` of an operand byte (R27). -/
def signExtendByte (b : Byte) : Word := b.signExtend 16

/-- `LONG` of a cardinal: zero-extended (R29). -/
def lengthen (w : Word) : Long := w.setWidth 32

/-- `LONG` of an integer: sign-extended (R29). -/
def lengthenSigned (w : Word) : Long := w.signExtend 32

/-- `LONG` of an operand byte: zero-extended (R26, R29). -/
def byteLong (b : Byte) : Long := b.setWidth 32

/-- `LONG` of a nibble: zero-extended. -/
def nibbleLong (n : Nibble) : Long := n.setWidth 32

/-- A `BOOLEAN` on the stack: FALSE is 0 and TRUE is 1 (R14; PRESUMED for TRUE, log 49). -/
def boolWord (b : Bool) : Word := if b then 1 else 0

/-- `Shift` of a word by a signed count (R19): left if positive, logical right if negative, 0 beyond 15. -/
def shiftWord (u : Word) (count : Int) : Word :=
  if 15 < count.natAbs then 0
  else if 0 ≤ count then u <<< count.toNat
  else u >>> (-count).toNat

/-- `LongShift` (R21): the 32-bit counterpart, 0 beyond 31. -/
def shiftLong (u : Long) (count : Int) : Long :=
  if 31 < count.natAbs then 0
  else if 0 ≤ count then u <<< count.toNat
  else u >>> (-count).toNat

/-- `Rotate` of a word by a signed count, taken modulo 16 (R20). -/
def rotateWord (u : Word) (count : Int) : Word := u.rotateLeft (count % 16).toNat

/-- `LongArithShift` by -4, the one use of it (R21, R572): floor division by 16. -/
def arithShiftRight4 (u : Long) : Long := u.sshiftRight 4

/-- Signed quotient, truncating toward zero (R23), narrowed to a word: -32768 / -1 gives 8000H (R292; log 30). -/
def signedQuotient (j k : Word) : Word := BitVec.ofInt 16 (j.toInt.tdiv k.toInt)

/-- Signed remainder, with the sign of the dividend (R23). -/
def signedRemainder (j k : Word) : Word := BitVec.ofInt 16 (j.toInt.tmod k.toInt)

/-- Signed double quotient (R23, R295; log 30). -/
def signedLongQuotient (j k : Long) : Long := BitVec.ofInt 32 (j.toInt.tdiv k.toInt)

/-- Signed double remainder (R23, R295). -/
def signedLongRemainder (j k : Long) : Long := BitVec.ofInt 32 (j.toInt.tmod k.toInt)

/-- The result of a compare: 1, -1 or 0 for greater, less or equal (R300, R301). -/
def compareResult (greater less : Bool) : Word := if greater then 1 else if less then 0xFFFF else 0

/-- `Checksum` of R542: end-around carry, then rotate left by one. -/
def checksumStep (chksum data : Word) : Word :=
  let sum := chksum + data
  let temp := if sum < chksum then sum + 1 else sum
  if 0x8000 ≤ temp then temp * 2 + 1 else temp * 2

end Sys2Proof.Machine
end

