-- ==== Sys2Proof/Config.lean ====
section
/-! DEFINITION. What an implementation of the architecture fixes (spec 00_scope.md R9, 92_eei_decisions.md P1 to P11), and
the values the spec leaves open. -/

namespace Sys2Proof

/-- `Direction` of a bit block transfer (R576): forward = 0, backward = 1. -/
inductive Direction where
  | forward
  | backward
  deriving DecidableEq, Repr

/-- A run of pages: the first page and how many. -/
structure PageRange where
  first : Nat
  count : Nat
  deriving DecidableEq, Repr

/-- `InterruptPending` of an implementation (R686, R687, P11, D19). -/
inductive InterruptRule where
  /-- the default of D19: `WP # 0` and `WDC = 0` (PRESUMED, log 25) -/
  | wakeupsEnabled
  /-- some other predicate of `WP`, `WDC` and `WM`, open -/
  | other
  deriving DecidableEq, Repr

/-- The format of a font's flags and raster information, private to an implementation (R9, R602, P8). -/
inductive FontFormat where
  /-- the default of D17 and the recalled layout of GK8 (log 33) -/
  | packed
  /-- some other format, open -/
  | other
  deriving DecidableEq, Repr

/-- `OpcodeAssignment` (R9, R173, P2): how the bytes of this machine differ from the recalled ones, as a list of exchanges of two
bytes for each of the three opcode spaces. `LGD1`, which R392 leaves to the assignment (N33), is no instruction of the model, so no
exchange provides it (DESIGN CHOICE, log 2). -/
structure OpcodeAssignment where
  single : List (Byte × Byte)
  esc : List (Byte × Byte)
  escl : List (Byte × Byte)
  deriving DecidableEq, Repr

/-- A set of opcodes, each named by its recalled byte in its space. -/
structure OpcodeSet where
  single : List Byte
  esc : List Byte
  escl : List Byte
  deriving DecidableEq, Repr

/-- The indexes in the system data table of the trap handlers (R9, R690, P3). -/
structure SdIndexes where
  breakTrap : Nat
  boot : Nat
  stackError : Nat
  rescheduleError : Nat
  xferTrap : Nat
  opcodeTrap : Nat
  controlTrap : Nat
  codeTrap : Nat
  hardwareError : Nat
  unboundTrap : Nat
  divZeroTrap : Nat
  divCheckTrap : Nat
  interruptError : Nat
  processTrap : Nat
  boundsTrap : Nat
  pointerTrap : Nat
  deriving DecidableEq, Repr

/-- The implementation parameters of R9. They are data of the state, and no step changes them, so a statement about every
state is a statement about every implementation. The stack depth `cSS` is the length of `State.stack`; `PID` and `WM` are
fields of the state. -/
structure Config where
  /-- `VA_BITS`: implemented virtual address bits, at most 32 (R9, R102) -/
  vaBits : Nat
  /-- `RealPages`: the runs of real pages that hold memory (R9, R117) -/
  realPages : List PageRange
  /-- the real pages that the boot process makes available at initialization; the rest of real memory, such as that of buffered devices, may
  stay unmapped (R733) -/
  availablePages : List PageRange
  /-- `MAP_RESERVED_IMPLEMENTED`: which of the reserved map flag bits exist (R9, R103) -/
  mapReserved : Word
  /-- `HAS_MP`: whether there is a maintenance panel (R9, R62) -/
  hasMp : Bool
  /-- `xPreference` of BITBLT (R9, R579) -/
  xPreference : Direction
  /-- `yPreference` of BITBLT (R9, R579) -/
  yPreference : Direction
  /-- `BLTLR_BIAS`: false for the printed code, true for index `count - 1` (R538, P9) -/
  bltlrBias : Bool
  /-- `TXTBLT_MARGIN_ALL_FUNCTIONS` (R605, P10) -/
  txtbltMarginAll : Bool
  /-- how the short string instructions add half the offset: true for a 16-bit sum that wraps and is then lengthened, as the row D8 of
  92_eei_decisions.md has it, false for a 32-bit sum with the lengthened pointer, as R481 words it (log 45) -/
  stringWraps : Bool
  /-- `IT_PULSE`: microseconds in a pulse of the interval timer, 1 to 100 (R9, R63) -/
  itPulse : Nat
  /-- `RA_BITS`: implemented real address bits, at most 32 (R9) -/
  raBits : Nat
  /-- the boot area, virtual pages from 0 on (R126, R733) -/
  bootArea : PageRange
  /-- `IOArea`: virtual pages inside the first 64K words (R9, R126) -/
  ioArea : PageRange
  /-- `mPDA`: virtual address of the process data area (R9, R127) -/
  mPDA : Long
  /-- `mAV`: short pointer to the allocation vector (R9, R135) -/
  mAV : Word
  /-- `mSD`: short pointer to the system data table (R9, R135) -/
  mSD : Word
  /-- `mETT`: short pointer to the ESC trap table (R9, R135) -/
  mETT : Word
  /-- `sBoot` and the other indexes in the system data table (R9, R690, R731) -/
  sd : SdIndexes
  /-- the pages of the structures resident in real memory, whose map flags need not be maintained (R110) -/
  residentPages : List PageRange
  /-- `InterruptPending` (R686, P11) -/
  interruptRule : InterruptRule
  /-- the font format (R9, P8) -/
  fontFormat : FontFormat
  /-- `OpcodeAssignment` (R9, P2) -/
  opcodes : OpcodeAssignment
  /-- the complement of `ImplementedOpcodes` (R9, R169): these trap -/
  unimplemented : OpcodeSet
  deriving DecidableEq, Repr

/-- The parameters at reset (log 13: DESIGN CHOICE; log 4: the recalled constants of 93 GK3, PRESUMED). -/
def Config.initial : Config where
  vaBits := 32
  realPages := [⟨0, 0x1000000⟩]
  availablePages := [⟨0, 0x1000000⟩]
  mapReserved := 0
  hasMp := true
  xPreference := .forward
  yPreference := .forward
  bltlrBias := false
  txtbltMarginAll := false
  stringWraps := true
  itPulse := 10
  raBits := 32
  bootArea := ⟨0, 1⟩
  ioArea := ⟨1, 1⟩
  mPDA := 0x10000
  mAV := 0x100
  mSD := 0x200
  mETT := 0x400
  sd := ⟨0, 1, 2, 3, 4, 5, 6, 7, 8, 9, 10, 11, 12, 13, 14, 15⟩
  residentPages := [⟨0x100, 1⟩]
  interruptRule := .wakeupsEnabled
  fontFormat := .packed
  opcodes := ⟨[], [], []⟩
  unimplemented := ⟨[], [], []⟩

/-- A run of pages holds page `p`. -/
def PageRange.holds (r : PageRange) (p : Nat) : Bool := decide (r.first ≤ p) && decide (p < r.first + r.count)

/-- `true` when virtual page `vp` is inside the implemented virtual memory (R102). -/
def Config.virtualPage (c : Config) (vp : Nat) : Bool := decide (vp < 2 ^ 24) && decide (vp * 256 < 2 ^ c.vaBits)

/-- `true` when real page `rp` holds memory, that is, lies in no gap (R117). -/
def Config.realPage (c : Config) (rp : Nat) : Bool :=
  decide (rp < 2 ^ 24) && decide (rp * 256 < 2 ^ c.raBits) && c.realPages.any (·.holds rp)

/-- `true` when real page `rp` holds memory that is made available at initialization (R733). -/
def Config.availablePage (c : Config) (rp : Nat) : Bool := c.realPage rp && c.availablePages.any (·.holds rp)

/-- `true` when page `vp` belongs to a structure resident in real memory (R110; log 47). -/
def Config.residentPage (c : Config) (vp : Nat) : Bool := c.residentPages.any (·.holds vp)

/-- Words whose value the spec leaves open; the argument is the counter `State.freeIndex` (log 20). No body: nothing can
evaluate it. -/
opaque Config.freeWord : Nat → Word

/-- Double words whose value the spec leaves open (log 20). -/
opaque Config.freeLong : Nat → Long

/-- Numbers whose value the spec leaves open (log 20). -/
opaque Config.freeNat : Nat → Nat

/-- `InterruptPending` of `WP`, `WDC` and `WM` in an implementation that does not follow the default of D19 (log 25). -/
opaque Config.interruptPendingOther : Word → Word → Word → Bool

/-- The flags byte of a character, in a font of another format: of the font, the character and the counter at the start of
the scan (P8; log 33). -/
opaque Config.fontFlagsOther : Long → Word → Nat → Byte

/-- A raster information word of another format, brought into the recalled layout (P8; log 33). -/
opaque Config.rasterLayoutOther : Word → Word

/-- Which process indexes are valid (P6; log 24). -/
opaque Config.psbIndexValid : Word → Bool

/-- `Handle` on valid indexes, and its inverse `Index` (R214, R222, P6: mutually inverse on valid values; log 24). -/
opaque Config.psbCodec : Equiv.Perm Word

/-- `Handle` of an index that is not valid: open (log 24). -/
opaque Config.psbHandleOther : Word → Word

/-- `Index` of a handle that is no valid index's: open (log 24). -/
opaque Config.psbIndexOther : Word → Word

end Sys2Proof
end

