-- ==== Sys2Proof/Machine/State.lean ====
section
/-! DEFINITION. The state of one Mesa processor (spec 10_state.md R40), the exceptions it takes, and the state after reset
(R83). -/

namespace Sys2Proof.Machine

/-- A map entry: 16 flag bits and a real page number (R85, R103). `PageNumber` is a LONG CARDINAL (40 section 1). -/
structure MapEntry where
  flags : Word
  real : Long
  deriving DecidableEq, Repr

/-- The traps of the instructions whose rules survive (60_exceptions.md R690); `StackError` is fatal and is a `Fault`. -/
inductive Trap where
  /-- an unimplemented first byte (R691) -/
  | opcodeTrap (opcode : Byte)
  /-- an unimplemented second byte after `zESC` or `zESCL` (R691) -/
  | escOpcodeTrap (opcode : Byte)
  /-- `BNDCK`, `BNDCKL` (R253, R254) -/
  | boundsTrap
  /-- `NILCKL` (R255) -/
  | pointerTrap
  /-- a divisor of 0 (R291) -/
  | divZeroTrap
  /-- `LUDIV` whose quotient does not fit (R294) -/
  | divCheckTrap
  deriving DecidableEq, Repr

/-- The three faults (R681, R688). -/
inductive FaultKind where
  /-- raised by an access to a vacant page -/
  | pageFault
  /-- raised by a store to a protected page -/
  | writeProtectFault
  /-- the frame allocation fault: only the lost frame allocation raises it (48_control_transfers.md R628) -/
  | frameFault
  deriving DecidableEq, Repr

/-- The three types of exception (R672), each with what the surviving text records of it (R689). -/
inductive Exception where
  /-- a trap and its parameter -/
  | trap (t : Trap)
  /-- a fault and the virtual address -/
  | fault (k : FaultKind) (va : Long)
  /-- an interrupt or a timeout accepted by the main loop (R687) -/
  | reschedule
  deriving DecidableEq, Repr

/-- What stops the machine with a fault: the outcomes of 48_control_transfers.md R640 at a lost primitive. -/
inductive Fault where
  /-- `StackError` (R685, R693): raised by Push, Pop, Recover, Discard, MinimalStack. It is fatal and the state after it is
  undefined. Safe: the machine stops. -/
  | stackError
  /-- `Trapped`: raised by the step after a trap, whose handler's transfer is lost (R640). Safe. -/
  | trapped (t : Trap)
  /-- `Faulted`: raised by the step after a page or write protect fault, whose fault routine is lost (R640). Safe. -/
  | faulted (k : FaultKind) (va : Long)
  /-- `Rescheduled`: raised by the step after an accepted interrupt or timeout, since the scheduler is lost (R640). Safe. -/
  | rescheduled
  deriving DecidableEq, Repr

/-- What the model refuses. -/
inductive Refusal where
  /-- an instruction with no meaning yet; raised by a refused arm of `exec`. Safe. -/
  | notModelled (mnemonic : String)
  /-- an instruction whose routine is lost (48_control_transfers.md R640, 93 U30); raised by its meaning. Safe. -/
  | lostInstruction (mnemonic : String)
  /-- a first byte of 0 or 255 (R163, 93 U13); raised by a step that fetches it. Safe. -/
  | reservedOpcode (opcode : Byte)
  /-- an operand byte the manual reserves: `ROB`, `WOB`, `SHIFTSB` (R177, 93 U14, U16); raised by their meanings. Safe. -/
  | reservedOperand
  /-- two virtual pages on one real page (R106, 93 U2); raised by `SM`. Safe. -/
  | aliasedRealPage
  /-- a forbidden change to the map entry of the page under `PC` (R125, 93 U7); raised by `SM`, `SMF`. Safe. -/
  | currentCodePage
  /-- an access to a mapped real page where no memory is (R117, 93 U3); raised by every memory access. Safe. -/
  | realMemoryGap
  /-- the `ERROR` of `ReadField` and `WriteField`, a field that leaves its word (R5, R500, R501, 93 U17); raised by the field
  instructions. Safe. -/
  | fieldSpecifier
  /-- an `ERROR` of `BITBLT`'s `Setup` (R589, 93 U18); raised by `BITBLT`. Safe. -/
  | bitBltArgument
  /-- an `ERROR` or a violated obligation of `TXTBLT` (R604 to R606, 93 U20); raised by `TXTBLT`. Safe. -/
  | txtBltArgument
  /-- the argument record of `BITBLT` or `TXTBLT` changed while it was suspended (R590, R605, 93 U25); raised by the restart.
  Safe. -/
  | changedArgument
  /-- a plain load or store of an overhead word of the current frames (R79, R744, 93 U1, U9); raised by every access but those of `ROB`
  and `WOB`. Safe. -/
  | overheadAccess
  /-- a code word whose address carries out of the code base's 64K bank (R124, 93 U11); raised by every code access. Safe. -/
  | codeCrossesBank
  /-- frames or a code base that are misplaced (R79, R81, 93 U12); raised by the step before its instruction. Safe. -/
  | misplacedContext
  /-- a control link of another type (R624, R625, 93 U1); raised by `MakeFrameLink` and `MakeIndirectLink`. Safe. -/
  | controlLinkType
  deriving DecidableEq, Repr

/-- One access of an I/O device to memory, through the map (R118, R712). -/
inductive DeviceAccess where
  | read (va : Long)
  | write (va : Long) (w : Word)
  deriving DecidableEq, Repr

/-- What happens at one point inside an instruction: before a word access of the processor, or at a block transfer's test for interrupts
(R140, R531, R712, D1; log 27). -/
structure DeviceTurn where
  /-- at a block transfer's test: the implementation does not make it, so that a pending interrupt does not suspend here (R531) -/
  noTest : Bool
  /-- bits that devices OR into `WP` -/
  wakeups : Word
  /-- their accesses to memory, in order -/
  accesses : List DeviceAccess
  deriving DecidableEq, Repr

/-- What the environment does before one step and during it (R670, R687, R712, R715; log 26). -/
structure Input where
  /-- pulses by which `IT` advances -/
  pulses : Long
  /-- bits that devices OR into `WP` -/
  wakeups : Word
  /-- what `CheckForTimeouts` answers (R687) -/
  timeout : Bool
  /-- the bookkeeping of the two checks: what they leave in `PTC` and `time`, if they change them (R687, R716; log 25) -/
  bookkeeping : Option (Word × Long)
  /-- the devices' accesses before the step -/
  accesses : List DeviceAccess
  /-- the devices' turns during the step, in order; none after the last -/
  turns : List DeviceTurn
  deriving DecidableEq, Repr

/-- The operands that `TXTBLT` updates on the stack (R605). -/
structure TxtState where
  index : Word
  bitPos : Word
  printPos : Word
  count : Word
  deriving DecidableEq, Repr

/-- A `TXTBLT` that is still scanning at the end of a step (log 40): its argument pointer and record, its operands, and the index of its
open font flags (log 33). -/
structure TxtScan where
  ptr : Word
  record : List Word
  operands : TxtState
  flagsIndex : Nat
  deriving DecidableEq, Repr

/-- A suspended `BITBLT` or `TXTBLT` (R590, R605): where it is, the stack it left, its argument pointer, and its argument record as it
was read. -/
structure Suspension where
  pc : Word
  stack : List Word
  ptr : Word
  record : List Word
  deriving DecidableEq, Repr

/-- The processor state (R40), its parameters (R9), and the model's own fields. No field is a condition code, status flag or predicate
bit, because the machine has none, and so no instruction writes one (R32, R60). -/
structure State where
  /-- the implementation parameters (R9); no step changes them -/
  cfg : Config
  /-- `stack[0..cSS)`; its length is `cSS` (R44) -/
  stack : List Word
  /-- `SP`, the index of the next word above the top (R45) -/
  sp : Nat
  /-- `PSB` (R41, R655); its width is lost, 16 bits hold every index (log 9) -/
  psb : Word
  /-- `MDS`, a virtual address whose low half is 0 (R42) -/
  mds : Long
  /-- `LF` (R53) -/
  lf : Word
  /-- `GF` (R54) -/
  gf : Word
  /-- `CB` (R55) -/
  cb : Long
  /-- `PC`, a byte offset from `CB` (R56) -/
  pc : Word
  /-- `PID[0..4)` (R61) -/
  pid : Vector Word 4
  /-- `MP` (R62) -/
  mp : Word
  /-- `IT` (R63) -/
  it : Long
  /-- `WM` (R64) -/
  wm : Word
  /-- `WP` (R65) -/
  wp : Word
  /-- `WDC` (R66) -/
  wdc : Word
  /-- `PTC` (R67); how it counts is lost, `WRPTC` and the checks' bookkeeping change it (log 25) -/
  ptc : Word
  /-- `XTS` (R68) -/
  xts : Word
  /-- `break` (R71) -/
  breakByte : Byte
  /-- `savedPC` (R71) -/
  savedPC : Word
  /-- `savedSP` (R71) -/
  savedSP : Nat
  /-- `running` (R72) -/
  running : Bool
  /-- `time` (R73) -/
  time : Long
  /-- the map (R85), by virtual page: the entries that differ from `MapEntry.initial` -/
  map : List (Nat × MapEntry)
  /-- real memory (R86), by byte: the left byte of real word `a` at `2 * a`, its right byte at `2 * a + 1` (log 12) -/
  mem : List Host.Cell
  /-- the model's: the exception the machine has just taken (log 5) -/
  exception : Option Exception
  /-- the model's: how many free values have been used (log 20) -/
  freeIndex : Nat
  /-- the model's: what the environment will do, one entry a step (log 26) -/
  inputs : List Input
  /-- the model's: the devices' turns that are still to come in the current instruction (log 27) -/
  turns : List DeviceTurn
  /-- the model's: the words of the current code segment that have been stored to, by virtual address, with what they held before (R125,
  D6; log 18) -/
  codeWrites : List (Long × Word)
  /-- the model's: the `TXTBLT` that the last step has left unfinished (log 40) -/
  scan : Option TxtScan
  /-- the model's: the last suspended `BITBLT` or `TXTBLT` (log 51) -/
  suspended : Option Suspension
  deriving DecidableEq, Repr

/-- The map entry of a page that no list names: mapped to the real page of the same number if there is one and it is available at
initialization, else vacant (70 R733; log 10). Flags of 6 are vacant (R107). -/
def MapEntry.initial (c : Config) (vp : Nat) : MapEntry :=
  if c.virtualPage vp && c.availablePage vp then ⟨0, BitVec.ofNat 32 vp⟩ else ⟨6, 0⟩

/-- The state after reset: `Initialize` without its `XFER`, which is lost (R83, R730, R735). The values R83 does not give are
DESIGN CHOICES (log 8, 9, 10, 11); the stack depth is PRESUMED (log 3). The environment does nothing of its own accord: no input
stands in the list, so `IT` does not advance and no wakeup arrives unless a state says so (log 26). -/
def State.reset : State where
  cfg := Config.initial
  stack := List.replicate 14 0
  sp := 0
  psb := 0
  mds := 0
  lf := 0x2004
  gf := 0x3004
  cb := 0x00200000
  pc := 0
  pid := #v[0, 0, 0, 0]
  mp := 0
  it := 0
  wm := 0
  wp := 0
  wdc := 1
  ptc := 0
  xts := 0
  breakByte := 0
  savedPC := 0
  savedSP := 0
  running := true
  time := 0
  map := []
  mem := []
  exception := none
  freeIndex := 0
  inputs := []
  turns := []
  codeWrites := []
  scan := none
  suspended := none

end Sys2Proof.Machine
end

