-- ==== Sys2Proof/Machine/Flags.lean ====
section
/-! DEFINITION. The flag words: the map flags (spec 20_memory.md R103, R107) and BITBLT's flags (47_bitblt_txtblt.md R576).
The processor has no condition codes, and no instruction writes one (00_scope.md R32; 10_state.md R60). -/

namespace Sys2Proof.Machine

/-- `protected`, w[2] (R103). -/
def MapEntry.isProtected (e : MapEntry) : Bool := e.flags.getLsbD 2

/-- `dirty`, w[1] (R103). -/
def MapEntry.isDirty (e : MapEntry) : Bool := e.flags.getLsbD 1

/-- `referenced`, w[0] (R103). -/
def MapEntry.isReferenced (e : MapEntry) : Bool := e.flags.getLsbD 0

/-- `Vacant` of a flags word: protected and dirty and not referenced (R107). -/
def vacantFlags (f : Word) : Bool := f.getLsbD 2 && f.getLsbD 1 && !f.getLsbD 0

/-- `Vacant` of a map entry (R107). -/
def MapEntry.isVacant (e : MapEntry) : Bool := vacantFlags e.flags

/-- The map flag bits that exist: the three architectural ones and the implemented reserved ones (R103). -/
def implementedMapFlags (c : Config) : Word := 7 ||| (c.mapReserved &&& 0xFFF8)

/-- A read or a write access. -/
inductive Access where
  | read
  | write
  deriving DecidableEq, Repr

/-- The flags after an access that succeeds: `referenced`, and for a write `dirty`, are set (R108). -/
def touchFlags (f : Word) : Access → Word
  | .read => f ||| 1
  | .write => f ||| 3

/-- The source function of BITBLT (R576). -/
inductive SrcFunc where
  | null
  | complement
  deriving DecidableEq, Repr

/-- The destination function of BITBLT (R576). -/
inductive DstFunc where
  | null
  | and
  | or
  | xor
  deriving DecidableEq, Repr

/-- BITBLT's flags word, its fields read out (R576). -/
structure BitBltFlags where
  direction : Direction
  disjoint : Bool
  disjointItems : Bool
  gray : Bool
  srcFunc : SrcFunc
  dstFunc : DstFunc
  reserved : BitVec 9
  deriving DecidableEq, Repr

/-- `BitBltFlags` of a word: direction w[15], disjoint w[14], disjointItems w[13], gray w[12], srcFunc w[11],
dstFunc w[10:9], reserved w[8:0] (R576). -/
def bitBltFlags (w : Word) : BitBltFlags where
  direction := if w.getLsbD 15 then .backward else .forward
  disjoint := w.getLsbD 14
  disjointItems := w.getLsbD 13
  gray := w.getLsbD 12
  srcFunc := if w.getLsbD 11 then .complement else .null
  dstFunc := match w.getLsbD 10, w.getLsbD 9 with
    | false, false => .null
    | false, true => .and
    | true, false => .or
    | true, true => .xor
  reserved := w.extractLsb' 0 9

/-- `Function` of R577: the new destination bit of a destination and a source bit. -/
def bitFunction (f : BitBltFlags) (dst src : Bool) : Bool :=
  let s := match f.srcFunc with
    | .null => src
    | .complement => !src
  match f.dstFunc with
  | .null => s
  | .and => s && dst
  | .or => s || dst
  | .xor => s != dst

end Sys2Proof.Machine
end

