-- ==== Sys2Proof/Machine/Memory.lean ====
section
/-! DEFINITION. Real memory and the map as lists in one canonical form, ReadMap and WriteMap
(spec 10_state.md R85, R86; 20_memory.md R102 to R106, R117, R119). -/

namespace Sys2Proof.Machine

/-- The value at key `k` of a list sorted by key, `d` where no pair has that key. -/
def sparseGet {α : Type} (d : Nat → α) (k : Nat) : List (Nat × α) → α
  | [] => d k
  | p :: ps => if p.1 = k then p.2 else sparseGet d k ps

/-- Put value `v` at key `k`: keys stay rising, and a value equal to the unlisted one `d k` is not listed. -/
def sparsePut {α : Type} [DecidableEq α] (d : Nat → α) (k : Nat) (v : α) : List (Nat × α) → List (Nat × α)
  | [] => if v = d k then [] else [(k, v)]
  | p :: ps =>
    if p.1 < k then p :: sparsePut d k v ps
    else if p.1 = k then (if v = d k then ps else (k, v) :: ps)
    else (if v = d k then p :: ps else (k, v) :: p :: ps)

/-- Every key of the list is above `k`. -/
def sparseAbove {α : Type} (k : Nat) (ps : List (Nat × α)) : Bool := ps.all fun p => decide (k < p.1)

/-- The canonical form: keys strictly rising, and no value that an unlisted key has. -/
def sparseWf {α : Type} [DecidableEq α] (d : Nat → α) : List (Nat × α) → Bool
  | [] => true
  | p :: ps => sparseAbove p.1 ps && decide (p.2 ≠ d p.1) && sparseWf d ps

/-- What a byte of real memory that nothing has written reads as: 0 (DESIGN CHOICE, unsafe; log 11). -/
def Memory.unlisted (_ : Nat) : Byte := 0

/-- The canonical form of real memory. -/
def Memory.wf (m : List Host.Cell) : Bool := sparseWf Memory.unlisted m

/-- The byte of real memory at byte address `a` (log 12). -/
def Memory.byteAt (m : List Host.Cell) (a : Nat) : Byte := sparseGet Memory.unlisted a m

/-- Real memory with byte `b` at byte address `a`. -/
def Memory.setByte (m : List Host.Cell) (a : Nat) (b : Byte) : List Host.Cell := sparsePut Memory.unlisted a b m

/-- The word at real address `a`: its left byte is the most significant (R119). -/
def Memory.wordAt (m : List Host.Cell) (a : Nat) : Word :=
  Memory.byteAt m (2 * a) ++ Memory.byteAt m (2 * a + 1)

/-- Real memory with word `w` at real address `a`. -/
def Memory.setWord (m : List Host.Cell) (a : Nat) (w : Word) : List Host.Cell :=
  Memory.setByte (Memory.setByte m (2 * a) (Word.left w)) (2 * a + 1) (Word.right w)

/-- The canonical form of the map. -/
def Map.wf (c : Config) (m : List (Nat × MapEntry)) : Bool := sparseWf (MapEntry.initial c) m

/-- `ReadMap` (R104). A page outside the implemented virtual memory reads as vacant (R102, D3; log 14). -/
def State.readMap (s : State) (vp : Nat) : MapEntry :=
  if s.cfg.virtualPage vp then sparseGet (MapEntry.initial s.cfg) vp s.map else ⟨6, 0⟩

/-- The entry that `WriteMap` stores: unimplemented reserved flag bits are dropped (R103), and of a vacant entry the real
page number is ignored (R105). A real page number of 2^24 or more is kept whole, which the spec does not say (log 14). -/
def storedMapEntry (c : Config) (flags : Word) (real : Long) : MapEntry :=
  let f := flags &&& implementedMapFlags c
  if vacantFlags f then ⟨f, 0⟩ else ⟨f, real⟩

/-- `WriteMap` (R105). For a page outside the implemented virtual memory it has no effect (D3; log 14). -/
def State.writeMap (s : State) (vp : Nat) (flags : Word) (real : Long) : State :=
  if s.cfg.virtualPage vp then
    { s with map := sparsePut (MapEntry.initial s.cfg) vp (storedMapEntry s.cfg flags real) s.map }
  else s

/-- The virtual page number of a virtual address, va[31:8] (R101). -/
def virtualPageOf (va : Long) : Nat := (va.extractLsb' 8 24).toNat

/-- The word offset in its page, va[7:0] (R101). -/
def pageOffsetOf (va : Long) : Nat := (va.extractLsb' 0 8).toNat

/-- The map entry of the page that holds a virtual address. -/
def State.entryOf (s : State) (va : Long) : MapEntry := s.readMap (virtualPageOf va)

/-- The real address that the map gives a virtual address: real page times 256 plus the offset (R108). -/
def State.realAddress (s : State) (va : Long) : Nat := (s.entryOf va).real.toNat * 256 + pageOffsetOf va

/-- The flags of a resident page after an access (R110): each bit that the access would set may or may not be set, an open value
(U4; log 47). -/
def residentFlags (f : Word) (a : Access) (choice : Word) : Word := f ||| (touchFlags 0 a &&& choice)

/-- The state after a successful access at `va`: the flags of the page's map entry updated (R108). -/
def State.touch (s : State) (va : Long) (a : Access) : State :=
  let e := s.entryOf va
  if s.cfg.residentPage (virtualPageOf va) then
    let f := residentFlags e.flags a (Config.freeWord s.freeIndex)
    let t := if f = e.flags then s else s.writeMap (virtualPageOf va) f e.real
    { t with freeIndex := s.freeIndex + 1 }
  else s.writeMap (virtualPageOf va) (touchFlags e.flags a) e.real

/-- The word at virtual address `va`, by the map as it is. -/
def State.wordAt (s : State) (va : Long) : Word := Memory.wordAt s.mem (s.realAddress va)

/-- The processor may hold the code word at `va` in its instruction buffer: `PC` can reach it in the current code segment (R81,
R125). -/
def State.mayHoldCode (s : State) (va : Long) : Bool := decide ((va - s.cb).toNat < 32768)

/-- The state after `w` is written at real address `ra`, to which `va` is mapped (R113); what a word of the current code segment held
before is remembered (D6; log 18). -/
def State.putWord (s : State) (va : Long) (ra : Nat) (w : Word) : State :=
  { s with
    mem := Memory.setWord s.mem ra w
    codeWrites := if s.mayHoldCode va then (va, Memory.wordAt s.mem ra) :: s.codeWrites else s.codeWrites }

/-- `va` is one of the four overhead words before the local or the global frame (R74, R75, R77, R78). -/
def State.isOverhead (s : State) (va : Long) : Bool :=
  decide (Long.high va = Long.high s.mds) &&
    (decide ((s.lf - 1 - Long.low va).toNat < 4) || decide ((s.gf - 1 - Long.low va).toNat < 4))

/-- The virtual page to which `PC` points (R122, R125). -/
def State.codePage (s : State) : Nat := virtualPageOf (s.cb + (s.pc >>> 1).setWidth 32)

end Sys2Proof.Machine
end

