-- ==== Sys2Proof/Machine/Ops.lean ====
section
/-! DEFINITION. The named operations of the manual's routines: the evaluation stack, memory access through the map, the
code stream, taking an exception and returning from one (spec 10_state.md R46 to R52; 20_memory.md R108 to R137;
30_encoding.md R164; 60_exceptions.md R683 to R689). -/

namespace Sys2Proof.Machine

/-- Why a routine is abandoned (R671): an exception, a `StackError`, or a point the model refuses. -/
inductive Raise where
  | exception (e : Exception)
  | stackError
  | refused (r : Refusal)
  deriving DecidableEq, Repr

/-- A routine of the manual: it changes the state and either answers a value or raises. -/
abbrev Act := EStateM Raise State

/-- `raise` of a trap. -/
def raiseTrap {α : Type} (t : Trap) : Act α := throw (.exception (.trap t))

/-- A point the model refuses (R5). -/
def refuse {α : Type} (r : Refusal) : Act α := throw (.refused r)

/-! Taking an exception, and returning from one. -/

/-- Taking an exception. A trap or a fault restores `PC` and `SP` to the start of the instruction (R683, R689); an accepted
interrupt or timeout comes between instructions and restores nothing (R670). Map flags and memory written so far stay
(R671, R684). The exception is recorded; the transfer to the handler is lost (R640, R705; log 5). -/
def takeException (e : Exception) (s : State) : State :=
  match e with
  | .trap _ => { s with pc := s.savedPC, sp := s.savedSP, exception := some e }
  | .fault _ _ => { s with pc := s.savedPC, sp := s.savedSP, exception := some e }
  | .reschedule => { s with exception := some e }

/-- Return from an exception, as far as it survives: the saved context runs again from its saved `PC`, which re-executes the
instruction (R682, R706). The instruction that returns, and how a handler is entered, are lost. -/
def returnFromException (s : State) : State := { s with exception := none }

/-- The fault that a machine with exception `e` stops with, since its handler's transfer is lost (R640; log 5). -/
def exceptionOutcome : Exception → Fault
  | .trap t => .trapped t
  | .fault k va => .faulted k va
  | .reschedule => .rescheduled

/-- The outcome of an instruction. -/
abbrev StepResult := Host.Outcome State Fault Refusal

/-- Run a routine from a state and turn its end into the outcome of a step. -/
def complete (m : Act Unit) (s : State) : StepResult :=
  match m s with
  | .ok _ t => .next t
  | .error (.exception e) t => .next (takeException e t)
  | .error .stackError _ => .fault .stackError
  | .error (.refused r) _ => .refused r

/-! The evaluation stack. -/

/-- `Push` (R46). -/
def push (w : Word) : Act Unit := do
  let s ← get
  if s.sp < s.stack.length then set { s with stack := s.stack.set s.sp w, sp := s.sp + 1 }
  else throw .stackError

/-- `Pop` (R47): the popped word stays above the top. -/
def pop : Act Word := do
  let s ← get
  if s.sp = 0 then throw .stackError
  else
    set { s with sp := s.sp - 1 }
    return s.stack.getD (s.sp - 1) 0

/-- `PushLong` (R48): the low half first. -/
def pushLong (u : Long) : Act Unit := do
  push (Long.low u)
  push (Long.high u)

/-- `PopLong` (R49): the high half first. -/
def popLong : Act Long := do
  let high ← pop
  let low ← pop
  return Long.ofHalves high low

/-- `Recover` (R51). -/
def recover : Act Unit := do
  let s ← get
  if s.sp < s.stack.length then set { s with sp := s.sp + 1 } else throw .stackError

/-- `Discard` (R52). -/
def discard : Act Unit := do
  let s ← get
  if s.sp = 0 then throw .stackError else set { s with sp := s.sp - 1 }

/-- `MinimalStack` (R50). -/
def minimalStack : Act Unit := do
  let s ← get
  if s.sp = 0 then return () else throw .stackError

/-! Memory. -/

/-- A device reads or writes one word through the map (R118, R712). Where the page is vacant, for a write protected, or without
memory, nothing happens (log 52). -/
def State.deviceAccess (s : State) (d : DeviceAccess) : State :=
  let real (va : Long) : Bool := !(s.entryOf va).isVacant && s.cfg.realPage (s.realAddress va / 256)
  match d with
  | .read va => if real va then s.touch va .read else s
  | .write va w =>
    if real va && !(s.entryOf va).isProtected then (s.touch va .write).putWord va (s.realAddress va) w else s

/-- The state after device accesses in order. -/
def State.deviceAccesses (s : State) (ds : List DeviceAccess) : State := ds.foldl State.deviceAccess s

/-- The devices' next turn in the current instruction (R140, R712, D1; log 27). -/
def State.takeTurn (s : State) : State :=
  match s.turns with
  | [] => s
  | d :: rest => State.deviceAccesses { s with turns := rest, wp := s.wp ||| d.wakeups } d.accesses

/-- The devices take their turn. -/
def deviceTurn : Act Unit := modify State.takeTurn

/-- `Map` (R108): the vacancy test first, then protection for a write; then the flags. It answers the real address. -/
def translate (va : Long) (a : Access) : Act Nat := do
  let s ← get
  let e := s.entryOf va
  if e.isVacant then throw (.exception (.fault .pageFault va))
  else if a = .write ∧ e.isProtected then throw (.exception (.fault .writeProtectFault va))
  else
    set (s.touch va a)
    return s.realAddress va

/-- Refuse an access to a real page where no memory is (R117, U3; log 15). -/
def checkReal (ra : Nat) : Act Unit := do
  let s ← get
  if s.cfg.realPage (ra / 256) then return () else refuse .realMemoryGap

/-- Refuse a plain access to an overhead word of the current frames (R79, R744, U1, U9; log 18, 58). -/
def checkOverhead (va : Long) : Act Unit := do
  let s ← get
  if s.isOverhead va then refuse .overheadAccess else return ()

/-- `Fetch[va]^`: read one word (R112, R114). The devices may act before it; the access itself is one (R121, R140, D5). -/
def fetch (va : Long) : Act Word := do
  deviceTurn
  let ra ← translate va .read
  checkReal ra
  checkOverhead va
  let s ← get
  return Memory.wordAt s.mem ra

/-- The read of the overhead instruction `ROB`, which alone may load overhead words (R79, R205). -/
def fetchOverhead (va : Long) : Act Word := do
  deviceTurn
  let ra ← translate va .read
  checkReal ra
  let s ← get
  return Memory.wordAt s.mem ra

/-- `Store[va]^ <- w`: write one word (R113, R114). -/
def store (va : Long) (w : Word) : Act Unit := do
  deviceTurn
  let ra ← translate va .write
  checkReal ra
  checkOverhead va
  modify fun s => s.putWord va ra w

/-- `Store[va]^ <- Pop[]`: the destination is mapped for writing, then the data word is popped (R206, R695; log 46). -/
def storePop (va : Long) : Act Unit := do
  deviceTurn
  let ra ← translate va .write
  checkReal ra
  checkOverhead va
  let w ← pop
  modify fun s => s.putWord va ra w

/-- `Store[va]^ <- Pop[]` of the overhead instruction `WOB`, which alone may store to overhead words (R79, R206). -/
def storeOverheadPop (va : Long) : Act Unit := do
  deviceTurn
  let ra ← translate va .write
  checkReal ra
  let w ← pop
  modify fun s => s.putWord va ra w

/-- `LengthenPointer`: `MDS` plus the short pointer (R131). -/
def State.lengthenPointer (s : State) (ptr : Word) : Long := s.mds + lengthen ptr

/-- `FetchMds[ptr]^` (R134). -/
def fetchMds (ptr : Word) : Act Word := do
  let s ← get
  fetch (s.lengthenPointer ptr)

/-- `StoreMds[ptr]^ <- w` (R134). -/
def storeMds (ptr w : Word) : Act Unit := do
  let s ← get
  store (s.lengthenPointer ptr) w

/-- `StoreMds[ptr]^ <- Pop[]` (R134, R206). -/
def storeMdsPop (ptr : Word) : Act Unit := do
  let s ← get
  storePop (s.lengthenPointer ptr)

/-- `ReadDbl` (R115): the low word first; the second address is a 32-bit sum (D4; log 45). -/
def readDbl (va : Long) : Act Long := do
  let low ← fetch va
  let high ← fetch (va + 1)
  return Long.ofHalves high low

/-- `ReadDblMds` (R134). -/
def readDblMds (ptr : Word) : Act Long := do
  let s ← get
  readDbl (s.lengthenPointer ptr)

/-- The word address of a byte offset: `ptr + offset div 2` (R136). -/
def byteAddress (ptr offset : Long) : Long := ptr + (offset >>> 1)

/-- The byte of a word that an offset selects: even the left one, odd the right one (R136). -/
def selectByte (w : Word) (offset : Long) : Byte := if offset.getLsbD 0 then Word.right w else Word.left w

/-- A word with the byte that an offset selects replaced (R137). -/
def replaceByte (w : Word) (offset : Long) (b : Byte) : Word :=
  if offset.getLsbD 0 then Word.left w ++ b else b ++ Word.right w

/-- `FetchByte` (R136). -/
def fetchByte (ptr offset : Long) : Act Byte := do
  let w ← fetch (byteAddress ptr offset)
  return selectByte w offset

/-- `StoreByte` (R137): the word is read and then written. -/
def storeByte (ptr offset : Long) (b : Byte) : Act Unit := do
  let w ← fetch (byteAddress ptr offset)
  store (byteAddress ptr offset) (replaceByte w offset b)

/-- The virtual address of code word `offset` (R123). -/
def State.codeAddress (s : State) (offset : Word) : Long := s.cb + lengthen offset

/-- The sum of the code base and a word offset stays in the code base's 64K bank (R81, R124). -/
def State.codeInBank (s : State) (offset : Word) : Bool := decide ((Long.low s.cb).toNat + offset.toNat < 65536)

/-- `ReadCode` (R123); an address that carries out of the bank is refused (R124, U11; log 53). -/
def readCode (offset : Word) : Act Word := do
  let s ← get
  if s.codeInBank offset then fetch (s.codeAddress offset) else refuse .codeCrossesBank

/-- The word that an instruction fetch gets at `va`, where memory holds `w` (R125, R741): if the word was stored to while the segment is
current, it may be any of those it has held, an open value (D6; log 18). Where `SM` has given the page another real page since, what is
fetched is left open by the spec (D6, R743): the words held in the former page stay possible beside the one in the new (DESIGN CHOICE,
log 18). -/
def fetchedCode (va : Long) (w : Word) : Act Word := do
  let s ← get
  let held := (s.codeWrites.filter fun p => decide (p.1 = va)).map Prod.snd
  if held = [] then return w
  else
    set { s with freeIndex := s.freeIndex + 1 }
    return (w :: held).getD (Config.freeNat s.freeIndex % (held.length + 1)) w

/-- `GetCodeByte` (R164): the word is read, then `PC` advances. -/
def getCodeByte : Act Byte := do
  let s ← get
  let w ← readCode (s.pc >>> 1)
  let w ← fetchedCode (s.codeAddress (s.pc >>> 1)) w
  modify fun t => { t with pc := t.pc + 1 }
  return if s.pc.getLsbD 0 then Word.right w else Word.left w

/-! Free values, interrupts and jumps. -/

/-- A word whose value the spec leaves open (log 20). -/
def freeWord : Act Word := do
  let s ← get
  set { s with freeIndex := s.freeIndex + 1 }
  return Config.freeWord s.freeIndex

/-- A double word whose value the spec leaves open (log 20). -/
def freeLong : Act Long := do
  let s ← get
  set { s with freeIndex := s.freeIndex + 1 }
  return Config.freeLong s.freeIndex

/-- `InterruptPending`, a parameter: by default `WP # 0 AND WDC = 0` (R686, P11, D19; log 25). -/
def interruptPending (s : State) : Bool :=
  match s.cfg.interruptRule with
  | .wakeupsEnabled => decide (s.wp ≠ 0) && decide (s.wdc = 0)
  | .other => Config.interruptPendingOther s.wp s.wdc s.wm

/-- The test for interrupts that comes next is one that the implementation does not make (R531; log 27). -/
def State.testOmitted (s : State) : Bool :=
  match s.turns with
  | [] => false
  | d :: _ => d.noTest

/-- A block transfer's test for interrupts, after the devices' turn: whether to suspend. It never answers so when none is pending, and
when one is, it is allowed to, not required (R531, R712; log 27). -/
def pollInterrupt : Act Bool := do
  let s ← get
  deviceTurn
  let t ← get
  return !s.testOmitted && interruptPending t

/-- End the instruction so that it runs again: `PC <- savedPC` (R532). -/
def suspend : Act Unit := modify fun s => { s with pc := s.savedPC }

/-- `PC <- savedPC + disp`, modulo 2^16 (R311). -/
def jumpBy (disp : Word) : Act Unit := modify fun s => { s with pc := s.savedPC + disp }

/-- Run `body` until it answers false, at most `fuel` times; it answers whether `body` ended the loop. -/
def loop (body : Act Bool) : Nat → Act Bool
  | 0 => return false
  | fuel + 1 => do
    let more ← body
    if more then loop body fuel else return true

end Sys2Proof.Machine
end

