-- ==== Sys2Proof/Syntax.lean ====
section
/-! DEFINITION. The instructions of the Mesa processor: one constructor per row of spec/opcode_table.json, with the
operands its bytes carry (spec 30_encoding.md R160, R161, R170 to R174). -/

namespace Sys2Proof

/-- `NibblePair`: the two nibbles of an operand byte, `left` = b[7:4], `right` = b[3:0] (R16, R170). -/
structure NibblePair where
  left : Nibble
  right : Nibble
  deriving DecidableEq, Repr

/-- `FieldSpec`: a bit field of a word; `pos` is its most significant bit, counted from the most significant bit of the
word, and `size` one less than its width (R171). -/
structure FieldSpec where
  pos : Nibble
  size : Nibble
  deriving DecidableEq, Repr

/-- `FieldDesc`: a word offset and a field specifier (R172). -/
structure FieldDesc where
  offset : Byte
  field : FieldSpec
  deriving DecidableEq, Repr

/-- The instructions. A family member such as `LL3` is a constructor of its own, since it is an opcode of its own (R170).
The constructors with
operands stand first. `esc` and `escl` are the two escape bytes followed by a second byte that no extended instruction has (R162, R167). -/
inductive Instr where
  /-- `LLB`, R374. -/
  | llb (alpha : Byte)
  /-- `LLDB`, R376. -/
  | lldb (alpha : Byte)
  /-- `SLB`, R378. -/
  | slb (alpha : Byte)
  /-- `PLB`, R382. -/
  | plb (alpha : Byte)
  /-- `PLDB`, R384. -/
  | pldb (alpha : Byte)
  /-- `LGB`, R391. -/
  | lgb (alpha : Byte)
  /-- `LGDB`, R393. -/
  | lgdb (alpha : Byte)
  /-- `SGB`, R394. -/
  | sgb (alpha : Byte)
  /-- `RB`, R423. -/
  | rb (alpha : Byte)
  /-- `RLB`, R425. -/
  | rlb (alpha : Byte)
  /-- `RDB`, R427. -/
  | rdb (alpha : Byte)
  /-- `RDLB`, R429. -/
  | rdlb (alpha : Byte)
  /-- `WB`, R433. -/
  | wb (alpha : Byte)
  /-- `PSB`, R440. -/
  | psb (alpha : Byte)
  /-- `WLB`, R434. -/
  | wlb (alpha : Byte)
  /-- `PSLB`, R443. -/
  | pslb (alpha : Byte)
  /-- `WDB`, R435. -/
  | wdb (alpha : Byte)
  /-- `PSDB`, R442. -/
  | psdb (alpha : Byte)
  /-- `WDLB`, R436. -/
  | wdlb (alpha : Byte)
  /-- `PSDLB`, R444. -/
  | psdlb (alpha : Byte)
  /-- `RLIP`, R451. -/
  | rlip (pair : NibblePair)
  /-- `RLILP`, R452. -/
  | rlilp (pair : NibblePair)
  /-- `RLDIP`, R456. -/
  | rldip (pair : NibblePair)
  /-- `RLDILP`, R457. -/
  | rldilp (pair : NibblePair)
  /-- `RGIP`, R453. -/
  | rgip (pair : NibblePair)
  /-- `RGILP`, R454. -/
  | rgilp (pair : NibblePair)
  /-- `WLIP`, R460. -/
  | wlip (pair : NibblePair)
  /-- `WLILP`, R461. -/
  | wlilp (pair : NibblePair)
  /-- `WLDILP`, R462. -/
  | wldilp (pair : NibblePair)
  /-- `RS`, R482. -/
  | rs (alpha : Byte)
  /-- `RLS`, R483. -/
  | rls (alpha : Byte)
  /-- `WS`, R484. -/
  | ws (alpha : Byte)
  /-- `WLS`, R485. -/
  | wls (alpha : Byte)
  /-- `R0F`, R506. -/
  | r0f (spec : FieldSpec)
  /-- `RF`, R505. -/
  | rf (desc : FieldDesc)
  /-- `RL0F`, R508. -/
  | rl0f (spec : FieldSpec)
  /-- `RLF`, R507. -/
  | rlf (desc : FieldDesc)
  /-- `RLIPF`, R511. -/
  | rlipf (pair : NibblePair) (spec : FieldSpec)
  /-- `RLILPF`, R512. -/
  | rlilpf (pair : NibblePair) (spec : FieldSpec)
  /-- `W0F`, R516. -/
  | w0f (spec : FieldSpec)
  /-- `WF`, R515. -/
  | wf (desc : FieldDesc)
  /-- `PSF`, R523. -/
  | psf (desc : FieldDesc)
  /-- `PS0F`, R522. -/
  | ps0f (spec : FieldSpec)
  /-- `WS0F`, R520. -/
  | ws0f (spec : FieldSpec)
  /-- `WL0F`, R518. -/
  | wl0f (spec : FieldSpec)
  /-- `WLF`, R517. -/
  | wlf (desc : FieldDesc)
  /-- `PSLF`, R524. -/
  | pslf (desc : FieldDesc)
  /-- `SLDB`, R380. -/
  | sldb (alpha : Byte)
  /-- `SGDB`, R395. -/
  | sgdb (alpha : Byte)
  /-- `LLKB`, R632 (lost: its routine is not in the source). -/
  | llkb (alpha : Byte)
  /-- `RKIB`, R632 (lost: its routine is not in the source). -/
  | rkib (alpha : Byte)
  /-- `RKDIB`, R632 (lost: its routine is not in the source). -/
  | rkdib (alpha : Byte)
  /-- `LKB`, R632 (lost: its routine is not in the source). -/
  | lkb (alpha : Byte)
  /-- `SHIFTSB`, R270. -/
  | shiftsb (alpha : Byte)
  /-- `CATCH`, R322. -/
  | catchPhrase (alpha : Byte)
  /-- `JB`, R319. -/
  | jb (alpha : Byte)
  /-- `JW`, R320. -/
  | jw (word : Word)
  /-- `JEP`, R333. -/
  | jep (pair : NibblePair)
  /-- `JEB`, R329. -/
  | jeb (alpha : Byte)
  /-- `JEBB`, R335. -/
  | jebb (byte : Byte) (disp : Byte)
  /-- `JNEP`, R334. -/
  | jnep (pair : NibblePair)
  /-- `JNEB`, R330. -/
  | jneb (alpha : Byte)
  /-- `JNEBB`, R336. -/
  | jnebb (byte : Byte) (disp : Byte)
  /-- `JLB`, R338. -/
  | jlb (alpha : Byte)
  /-- `JGEB`, R341. -/
  | jgeb (alpha : Byte)
  /-- `JGB`, R340. -/
  | jgb (alpha : Byte)
  /-- `JLEB`, R339. -/
  | jleb (alpha : Byte)
  /-- `JULB`, R343. -/
  | julb (alpha : Byte)
  /-- `JUGEB`, R346. -/
  | jugeb (alpha : Byte)
  /-- `JUGB`, R345. -/
  | jugb (alpha : Byte)
  /-- `JULEB`, R344. -/
  | juleb (alpha : Byte)
  /-- `JZB`, R327. -/
  | jzb (alpha : Byte)
  /-- `JNZB`, R328. -/
  | jnzb (alpha : Byte)
  /-- `JDEB`, R331. -/
  | jdeb (alpha : Byte)
  /-- `JDNEB`, R332. -/
  | jdneb (alpha : Byte)
  /-- `JIB`, R351. -/
  | jib (word : Word)
  /-- `JIW`, R352. -/
  | jiw (word : Word)
  /-- `ADDSB`, R265. -/
  | addsb (alpha : Byte)
  /-- `AL0IB`, R385. -/
  | al0ib (alpha : Byte)
  /-- `LIB`, R366. -/
  | lib (alpha : Byte)
  /-- `LIW`, R369. -/
  | liw (word : Word)
  /-- `LINB`, R367. -/
  | linb (alpha : Byte)
  /-- `LIHB`, R368. -/
  | lihb (alpha : Byte)
  /-- `LAB`, R371. -/
  | lab (alpha : Byte)
  /-- `LAW`, R372. -/
  | law (word : Word)
  /-- `GAB`, R387. -/
  | gab (alpha : Byte)
  /-- `GAW`, R388. -/
  | gaw (word : Word)
  /-- `EFCB`, R632 (lost: its routine is not in the source). -/
  | efcb (alpha : Byte)
  /-- `LFC`, R632 (lost: its routine is not in the source). -/
  | lfc (word : Word)
  /-- `KFCB`, R632 (lost: its routine is not in the source). -/
  | kfcb (alpha : Byte)
  /-- `RC`, R430. -/
  | rc (alpha : Byte)
  /-- `ROB`, R205. -/
  | rob (alpha : Byte)
  /-- `WOB`, R206. -/
  | wob (alpha : Byte)
  /-- `DSK`, R632 (lost: its routine is not in the source). -/
  | dsk (alpha : Byte)
  /-- `XE`, R632 (lost: its routine is not in the source). -/
  | xe (alpha : Byte)
  /-- `XF`, R632 (lost: its routine is not in the source). -/
  | xf (alpha : Byte)
  /-- `LSK`, R632 (lost: its routine is not in the source). -/
  | lsk (alpha : Byte)
  /-- `ESC` followed by an unassigned extended opcode, R162. -/
  | esc (second : Byte)
  /-- `ESCL` followed by an unassigned extended opcode, R162. -/
  | escl (second : Byte)
  /-- `LL0`, R373. -/
  | ll0
  /-- `LL1`, R373. -/
  | ll1
  /-- `LL2`, R373. -/
  | ll2
  /-- `LL3`, R373. -/
  | ll3
  /-- `LL4`, R373. -/
  | ll4
  /-- `LL5`, R373. -/
  | ll5
  /-- `LL6`, R373. -/
  | ll6
  /-- `LL7`, R373. -/
  | ll7
  /-- `LL8`, R373. -/
  | ll8
  /-- `LL9`, R373. -/
  | ll9
  /-- `LL10`, R373. -/
  | ll10
  /-- `LL11`, R373. -/
  | ll11
  /-- `LLD0`, R375. -/
  | lld0
  /-- `LLD1`, R375. -/
  | lld1
  /-- `LLD2`, R375. -/
  | lld2
  /-- `LLD3`, R375. -/
  | lld3
  /-- `LLD4`, R375. -/
  | lld4
  /-- `LLD5`, R375. -/
  | lld5
  /-- `LLD6`, R375. -/
  | lld6
  /-- `LLD7`, R375. -/
  | lld7
  /-- `LLD8`, R375. -/
  | lld8
  /-- `LLD10`, R375. -/
  | lld10
  /-- `SL0`, R377. -/
  | sl0
  /-- `SL1`, R377. -/
  | sl1
  /-- `SL2`, R377. -/
  | sl2
  /-- `SL3`, R377. -/
  | sl3
  /-- `SL4`, R377. -/
  | sl4
  /-- `SL5`, R377. -/
  | sl5
  /-- `SL6`, R377. -/
  | sl6
  /-- `SL7`, R377. -/
  | sl7
  /-- `SL8`, R377. -/
  | sl8
  /-- `SL9`, R377. -/
  | sl9
  /-- `SL10`, R377. -/
  | sl10
  /-- `SLD0`, R379. -/
  | sld0
  /-- `SLD1`, R379. -/
  | sld1
  /-- `SLD2`, R379. -/
  | sld2
  /-- `SLD3`, R379. -/
  | sld3
  /-- `SLD4`, R379. -/
  | sld4
  /-- `SLD5`, R379. -/
  | sld5
  /-- `SLD6`, R379. -/
  | sld6
  /-- `SLD8`, R379. -/
  | sld8
  /-- `PL0`, R381. -/
  | pl0
  /-- `PL1`, R381. -/
  | pl1
  /-- `PL2`, R381. -/
  | pl2
  /-- `PL3`, R381. -/
  | pl3
  /-- `PLD0`, R383. -/
  | pld0
  /-- `LG0`, R390. -/
  | lg0
  /-- `LG1`, R390. -/
  | lg1
  /-- `LG2`, R390. -/
  | lg2
  /-- `LGD0`, R392. -/
  | lgd0
  /-- `LGD2`, R392. -/
  | lgd2
  /-- `BNDCK`, R253. -/
  | bndck
  /-- `BRK`, R632 (lost: its routine is not in the source). -/
  | brk
  /-- `R0`, R422. -/
  | r0
  /-- `R1`, R422. -/
  | r1
  /-- `RL0`, R424. -/
  | rl0
  /-- `RD0`, R426. -/
  | rd0
  /-- `RDL0`, R428. -/
  | rdl0
  /-- `W0`, R432. -/
  | w0
  /-- `PSD0`, R441. -/
  | psd0
  /-- `RLI00`, R450. -/
  | rli00
  /-- `RLI01`, R450. -/
  | rli01
  /-- `RLI02`, R450. -/
  | rli02
  /-- `RLI03`, R450. -/
  | rli03
  /-- `RLDI00`, R455. -/
  | rldi00
  /-- `RLFS`, R509. -/
  | rlfs
  /-- `WLFS`, R519. -/
  | wlfs
  /-- `SHIFT`, R278. -/
  | shift
  /-- `J2`, R318. -/
  | j2
  /-- `J3`, R318. -/
  | j3
  /-- `J4`, R318. -/
  | j4
  /-- `J5`, R318. -/
  | j5
  /-- `J6`, R318. -/
  | j6
  /-- `J7`, R318. -/
  | j7
  /-- `J8`, R318. -/
  | j8
  /-- `JZ3`, R325. -/
  | jz3
  /-- `JZ4`, R325. -/
  | jz4
  /-- `JNZ3`, R326. -/
  | jnz3
  /-- `JNZ4`, R326. -/
  | jnz4
  /-- `REC`, R241. -/
  | recover
  /-- `REC2`, R242. -/
  | recover2
  /-- `DIS`, R243. -/
  | dis
  /-- `DIS2`, R244. -/
  | dis2
  /-- `EXCH`, R246. -/
  | exch
  /-- `DEXCH`, R247. -/
  | dexch
  /-- `DUP`, R248. -/
  | dup
  /-- `DDUP`, R249. -/
  | ddup
  /-- `EXDIS`, R250. -/
  | exdis
  /-- `NEG`, R261. -/
  | neg
  /-- `INC`, R262. -/
  | inc
  /-- `DEC`, R264. -/
  | dec
  /-- `DINC`, R263. -/
  | dinc
  /-- `DBL`, R266. -/
  | dbl
  /-- `DDBL`, R267. -/
  | ddbl
  /-- `TRPL`, R268. -/
  | trpl
  /-- `AND`, R272. -/
  | and
  /-- `IOR`, R274. -/
  | ior
  /-- `ADD`, R283. -/
  | add
  /-- `SUB`, R284. -/
  | sub
  /-- `DADD`, R285. -/
  | dadd
  /-- `DSUB`, R286. -/
  | dsub
  /-- `ADC`, R287. -/
  | adc
  /-- `ACD`, R288. -/
  | acd
  /-- `MUL`, R289. -/
  | mul
  /-- `DCMP`, R300. -/
  | dcmp
  /-- `UDCMP`, R301. -/
  | udcmp
  /-- `LI0`, R365. -/
  | li0
  /-- `LI1`, R365. -/
  | li1
  /-- `LI2`, R365. -/
  | li2
  /-- `LI3`, R365. -/
  | li3
  /-- `LI4`, R365. -/
  | li4
  /-- `LI5`, R365. -/
  | li5
  /-- `LI6`, R365. -/
  | li6
  /-- `LI7`, R365. -/
  | li7
  /-- `LI8`, R365. -/
  | li8
  /-- `LI9`, R365. -/
  | li9
  /-- `LI10`, R365. -/
  | li10
  /-- `LIN1`, R362. -/
  | lin1
  /-- `LINI`, R363. -/
  | lini
  /-- `LID0`, R364. -/
  | lid0
  /-- `LA0`, R370. -/
  | la0
  /-- `LA1`, R370. -/
  | la1
  /-- `LA2`, R370. -/
  | la2
  /-- `LA3`, R370. -/
  | la3
  /-- `LA6`, R370. -/
  | la6
  /-- `LA8`, R370. -/
  | la8
  /-- `GA0`, R386. -/
  | ga0
  /-- `GA1`, R386. -/
  | ga1
  /-- `EFC0`, R632 (lost: its routine is not in the source). -/
  | efc0
  /-- `EFC1`, R632 (lost: its routine is not in the source). -/
  | efc1
  /-- `EFC2`, R632 (lost: its routine is not in the source). -/
  | efc2
  /-- `EFC3`, R632 (lost: its routine is not in the source). -/
  | efc3
  /-- `EFC4`, R632 (lost: its routine is not in the source). -/
  | efc4
  /-- `EFC5`, R632 (lost: its routine is not in the source). -/
  | efc5
  /-- `EFC6`, R632 (lost: its routine is not in the source). -/
  | efc6
  /-- `EFC7`, R632 (lost: its routine is not in the source). -/
  | efc7
  /-- `EFC8`, R632 (lost: its routine is not in the source). -/
  | efc8
  /-- `EFC9`, R632 (lost: its routine is not in the source). -/
  | efc9
  /-- `EFC10`, R632 (lost: its routine is not in the source). -/
  | efc10
  /-- `EFC11`, R632 (lost: its routine is not in the source). -/
  | efc11
  /-- `EFC12`, R632 (lost: its routine is not in the source). -/
  | efc12
  /-- `SFC`, R632 (lost: its routine is not in the source). -/
  | sfc
  /-- `RET`, R632 (lost: its routine is not in the source). -/
  | ret
  /-- `ME`, R652 (lost: its routine is not in the source). -/
  | me
  /-- `MX`, R652 (lost: its routine is not in the source). -/
  | mx
  /-- `BLT`, R536. -/
  | blt
  /-- `BLTL`, R537. -/
  | bltl
  /-- `BLTC`, R539. -/
  | bltc
  /-- `BLTCL`, R540. -/
  | bltcl
  /-- `LP`, R204. -/
  | lp
  /-- `MW`, R652 (lost: its routine is not in the source). -/
  | mw
  /-- `MR`, R652 (lost: its routine is not in the source). -/
  | mr
  /-- `NC`, R652 (lost: its routine is not in the source). -/
  | nc
  /-- `BC`, R652 (lost: its routine is not in the source). -/
  | bc
  /-- `REQ`, R652 (lost: its routine is not in the source). -/
  | req
  /-- `SM`, R200. -/
  | sm
  /-- `SMF`, R202. -/
  | smf
  /-- `GMF`, R201. -/
  | gmf
  /-- `AF`, R632 (lost: its routine is not in the source). -/
  | af
  /-- `FF`, R632 (lost: its routine is not in the source). -/
  | ff
  /-- `PI`, R632 (lost: its routine is not in the source). -/
  | pi
  /-- `PO`, R632 (lost: its routine is not in the source). -/
  | po
  /-- `POR`, R632 (lost: its routine is not in the source). -/
  | por
  /-- `SPP`, R652 (lost: its routine is not in the source). -/
  | spp
  /-- `DI`, R652 (lost: its routine is not in the source). -/
  | di
  /-- `EI`, R652 (lost: its routine is not in the source). -/
  | ei
  /-- `XOR`, R276. -/
  | xor
  /-- `DAND`, R273. -/
  | dand
  /-- `DIOR`, R275. -/
  | dior
  /-- `DXOR`, R277. -/
  | dxor
  /-- `ROTATE`, R280. -/
  | rotate
  /-- `DSHIFT`, R279. -/
  | dshift
  /-- `LINT`, R269. -/
  | lint
  /-- `JS`, R321. -/
  | js
  /-- `RCFS`, R510. -/
  | rcfs
  /-- `UDIV`, R293. -/
  | udiv
  /-- `LUDIV`, R294. -/
  | ludiv
  /-- `BNDCKL`, R254. -/
  | bndckl
  /-- `NILCK`, R256 (no routine in the source). -/
  | nilck
  /-- `NILCKL`, R255. -/
  | nilckl
  /-- `BLTLR`, R538. -/
  | bltlr
  /-- `BLEL`, R545. -/
  | blel
  /-- `BLECL`, R546. -/
  | blecl
  /-- `CKSUM`, R542. -/
  | cksum
  /-- `BITBLT`, R583. -/
  | bitblt
  /-- `TXTBLT`, R605. -/
  | txtblt
  /-- `BYTBLT`, R550. -/
  | bytblt
  /-- `BYTBLTR`, R551. -/
  | bytbltr
  /-- `DMUL`, R290. -/
  | dmul
  /-- `SDIV`, R292. -/
  | sdiv
  /-- `SDDIV`, R295. -/
  | sddiv
  /-- `UDDIV`, R296. -/
  | uddiv
  /-- `WRPSB`, R222. -/
  | wrpsb
  /-- `WRMDS`, R220. -/
  | wrmds
  /-- `WRWP`, R225. -/
  | wrwp
  /-- `WRWDC`, R224. -/
  | wrwdc
  /-- `WRPTC`, R223. -/
  | wrptc
  /-- `WRIT`, R219. -/
  | writ
  /-- `WRXTS`, R226. -/
  | wrxts
  /-- `WRMP`, R221. -/
  | wrmp
  /-- `RRPSB`, R214. -/
  | rrpsb
  /-- `RRMDS`, R213. -/
  | rrmds
  /-- `RRWP`, R217. -/
  | rrwp
  /-- `RRWDC`, R216. -/
  | rrwdc
  /-- `RRPTC`, R215. -/
  | rrptc
  /-- `RRIT`, R212. -/
  | rrit
  /-- `RRXTS`, R218. -/
  | rrxts
  deriving DecidableEq, Repr

end Sys2Proof
end

