-- ==== Sys2Proof/Decode.lean ====
section
/-! DEFINITION. The decoder, total on any bytes, and the encoder (spec 30_encoding.md R160 to R177). The byte values are
the recalled assignment of spec/opcode_table.json (R173; PRESUMED, log 2); a machine with another `OpcodeAssignment` reads its
bytes through `decodeFor`. -/

namespace Sys2Proof

/-- A byte read as a `NibblePair` (R16, R170). -/
def nibblePair (b : Byte) : NibblePair := ⟨b.extractLsb' 4 4, b.extractLsb' 0 4⟩

/-- A byte read as a `FieldSpec` (R171). -/
def fieldSpec (b : Byte) : FieldSpec := ⟨b.extractLsb' 4 4, b.extractLsb' 0 4⟩

/-- A word read as a `FieldDesc` (R172): `offset` is its left byte, `field` its right byte. -/
def fieldDesc (w : Word) : FieldDesc := ⟨w.extractLsb' 8 8, fieldSpec (w.extractLsb' 0 8)⟩

/-- The byte of a `NibblePair`. -/
def NibblePair.toByte (p : NibblePair) : Byte := p.left ++ p.right

/-- The byte of a `FieldSpec`. -/
def FieldSpec.toByte (f : FieldSpec) : Byte := f.pos ++ f.size

/-- One assigned opcode: its byte value, how many operand bytes follow, and the instruction they make. -/
structure OpcodeRow where
  code : Nat
  operandBytes : Nat
  build : Byte → Byte → Instr

/-- The first row of a table with a given byte value. -/
def findRow : List OpcodeRow → Nat → Option OpcodeRow
  | [], _ => none
  | r :: rs, b => if r.code = b then some r else findRow rs b

/-- The escape byte of the two-byte opcodes, `zESC` (R162). -/
def escByte : Byte := 0xF8

/-- The escape byte of the three-byte opcodes, `zESCL` (R162). -/
def esclByte : Byte := 0xF9

/-- Single byte opcodes, 0x01 to 0x10. -/
def singleRows0 : List OpcodeRow :=
  [ ⟨0x01, 0, fun _ _ => .ll0⟩
  , ⟨0x02, 0, fun _ _ => .ll1⟩
  , ⟨0x03, 0, fun _ _ => .ll2⟩
  , ⟨0x04, 0, fun _ _ => .ll3⟩
  , ⟨0x05, 0, fun _ _ => .ll4⟩
  , ⟨0x06, 0, fun _ _ => .ll5⟩
  , ⟨0x07, 0, fun _ _ => .ll6⟩
  , ⟨0x08, 0, fun _ _ => .ll7⟩
  , ⟨0x09, 0, fun _ _ => .ll8⟩
  , ⟨0x0A, 0, fun _ _ => .ll9⟩
  , ⟨0x0B, 0, fun _ _ => .ll10⟩
  , ⟨0x0C, 0, fun _ _ => .ll11⟩
  , ⟨0x0D, 1, fun a _ => .llb a⟩
  , ⟨0x0E, 0, fun _ _ => .lld0⟩
  , ⟨0x0F, 0, fun _ _ => .lld1⟩
  , ⟨0x10, 0, fun _ _ => .lld2⟩ ]

/-- Single byte opcodes, 0x11 to 0x20. -/
def singleRows1 : List OpcodeRow :=
  [ ⟨0x11, 0, fun _ _ => .lld3⟩
  , ⟨0x12, 0, fun _ _ => .lld4⟩
  , ⟨0x13, 0, fun _ _ => .lld5⟩
  , ⟨0x14, 0, fun _ _ => .lld6⟩
  , ⟨0x15, 0, fun _ _ => .lld7⟩
  , ⟨0x16, 0, fun _ _ => .lld8⟩
  , ⟨0x17, 0, fun _ _ => .lld10⟩
  , ⟨0x18, 1, fun a _ => .lldb a⟩
  , ⟨0x19, 0, fun _ _ => .sl0⟩
  , ⟨0x1A, 0, fun _ _ => .sl1⟩
  , ⟨0x1B, 0, fun _ _ => .sl2⟩
  , ⟨0x1C, 0, fun _ _ => .sl3⟩
  , ⟨0x1D, 0, fun _ _ => .sl4⟩
  , ⟨0x1E, 0, fun _ _ => .sl5⟩
  , ⟨0x1F, 0, fun _ _ => .sl6⟩
  , ⟨0x20, 0, fun _ _ => .sl7⟩ ]

/-- Single byte opcodes, 0x21 to 0x30. -/
def singleRows2 : List OpcodeRow :=
  [ ⟨0x21, 0, fun _ _ => .sl8⟩
  , ⟨0x22, 0, fun _ _ => .sl9⟩
  , ⟨0x23, 0, fun _ _ => .sl10⟩
  , ⟨0x24, 1, fun a _ => .slb a⟩
  , ⟨0x25, 0, fun _ _ => .sld0⟩
  , ⟨0x26, 0, fun _ _ => .sld1⟩
  , ⟨0x27, 0, fun _ _ => .sld2⟩
  , ⟨0x28, 0, fun _ _ => .sld3⟩
  , ⟨0x29, 0, fun _ _ => .sld4⟩
  , ⟨0x2A, 0, fun _ _ => .sld5⟩
  , ⟨0x2B, 0, fun _ _ => .sld6⟩
  , ⟨0x2C, 0, fun _ _ => .sld8⟩
  , ⟨0x2D, 0, fun _ _ => .pl0⟩
  , ⟨0x2E, 0, fun _ _ => .pl1⟩
  , ⟨0x2F, 0, fun _ _ => .pl2⟩
  , ⟨0x30, 0, fun _ _ => .pl3⟩ ]

/-- Single byte opcodes, 0x31 to 0x42. -/
def singleRows3 : List OpcodeRow :=
  [ ⟨0x31, 1, fun a _ => .plb a⟩
  , ⟨0x32, 0, fun _ _ => .pld0⟩
  , ⟨0x33, 1, fun a _ => .pldb a⟩
  , ⟨0x34, 0, fun _ _ => .lg0⟩
  , ⟨0x35, 0, fun _ _ => .lg1⟩
  , ⟨0x36, 0, fun _ _ => .lg2⟩
  , ⟨0x37, 1, fun a _ => .lgb a⟩
  , ⟨0x38, 0, fun _ _ => .lgd0⟩
  , ⟨0x39, 0, fun _ _ => .lgd2⟩
  , ⟨0x3A, 1, fun a _ => .lgdb a⟩
  , ⟨0x3B, 1, fun a _ => .sgb a⟩
  , ⟨0x3C, 0, fun _ _ => .bndck⟩
  , ⟨0x3D, 0, fun _ _ => .brk⟩
  , ⟨0x40, 0, fun _ _ => .r0⟩
  , ⟨0x41, 0, fun _ _ => .r1⟩
  , ⟨0x42, 1, fun a _ => .rb a⟩ ]

/-- Single byte opcodes, 0x43 to 0x52. -/
def singleRows4 : List OpcodeRow :=
  [ ⟨0x43, 0, fun _ _ => .rl0⟩
  , ⟨0x44, 1, fun a _ => .rlb a⟩
  , ⟨0x45, 0, fun _ _ => .rd0⟩
  , ⟨0x46, 1, fun a _ => .rdb a⟩
  , ⟨0x47, 0, fun _ _ => .rdl0⟩
  , ⟨0x48, 1, fun a _ => .rdlb a⟩
  , ⟨0x49, 0, fun _ _ => .w0⟩
  , ⟨0x4A, 1, fun a _ => .wb a⟩
  , ⟨0x4B, 1, fun a _ => .psb a⟩
  , ⟨0x4C, 1, fun a _ => .wlb a⟩
  , ⟨0x4D, 1, fun a _ => .pslb a⟩
  , ⟨0x4E, 1, fun a _ => .wdb a⟩
  , ⟨0x4F, 0, fun _ _ => .psd0⟩
  , ⟨0x50, 1, fun a _ => .psdb a⟩
  , ⟨0x51, 1, fun a _ => .wdlb a⟩
  , ⟨0x52, 1, fun a _ => .psdlb a⟩ ]

/-- Single byte opcodes, 0x53 to 0x62. -/
def singleRows5 : List OpcodeRow :=
  [ ⟨0x53, 0, fun _ _ => .rli00⟩
  , ⟨0x54, 0, fun _ _ => .rli01⟩
  , ⟨0x55, 0, fun _ _ => .rli02⟩
  , ⟨0x56, 0, fun _ _ => .rli03⟩
  , ⟨0x57, 1, fun a _ => .rlip (nibblePair a)⟩
  , ⟨0x58, 1, fun a _ => .rlilp (nibblePair a)⟩
  , ⟨0x59, 0, fun _ _ => .rldi00⟩
  , ⟨0x5A, 1, fun a _ => .rldip (nibblePair a)⟩
  , ⟨0x5B, 1, fun a _ => .rldilp (nibblePair a)⟩
  , ⟨0x5C, 1, fun a _ => .rgip (nibblePair a)⟩
  , ⟨0x5D, 1, fun a _ => .rgilp (nibblePair a)⟩
  , ⟨0x5E, 1, fun a _ => .wlip (nibblePair a)⟩
  , ⟨0x5F, 1, fun a _ => .wlilp (nibblePair a)⟩
  , ⟨0x60, 1, fun a _ => .wldilp (nibblePair a)⟩
  , ⟨0x61, 1, fun a _ => .rs a⟩
  , ⟨0x62, 1, fun a _ => .rls a⟩ ]

/-- Single byte opcodes, 0x63 to 0x72. -/
def singleRows6 : List OpcodeRow :=
  [ ⟨0x63, 1, fun a _ => .ws a⟩
  , ⟨0x64, 1, fun a _ => .wls a⟩
  , ⟨0x65, 1, fun a _ => .r0f (fieldSpec a)⟩
  , ⟨0x66, 2, fun a b => .rf (fieldDesc (a ++ b))⟩
  , ⟨0x67, 1, fun a _ => .rl0f (fieldSpec a)⟩
  , ⟨0x68, 2, fun a b => .rlf (fieldDesc (a ++ b))⟩
  , ⟨0x69, 0, fun _ _ => .rlfs⟩
  , ⟨0x6A, 2, fun a b => .rlipf (nibblePair a) (fieldSpec b)⟩
  , ⟨0x6B, 2, fun a b => .rlilpf (nibblePair a) (fieldSpec b)⟩
  , ⟨0x6C, 1, fun a _ => .w0f (fieldSpec a)⟩
  , ⟨0x6D, 2, fun a b => .wf (fieldDesc (a ++ b))⟩
  , ⟨0x6E, 2, fun a b => .psf (fieldDesc (a ++ b))⟩
  , ⟨0x6F, 1, fun a _ => .ps0f (fieldSpec a)⟩
  , ⟨0x70, 1, fun a _ => .ws0f (fieldSpec a)⟩
  , ⟨0x71, 1, fun a _ => .wl0f (fieldSpec a)⟩
  , ⟨0x72, 2, fun a b => .wlf (fieldDesc (a ++ b))⟩ ]

/-- Single byte opcodes, 0x73 to 0x85. -/
def singleRows7 : List OpcodeRow :=
  [ ⟨0x73, 2, fun a b => .pslf (fieldDesc (a ++ b))⟩
  , ⟨0x74, 0, fun _ _ => .wlfs⟩
  , ⟨0x75, 1, fun a _ => .sldb a⟩
  , ⟨0x76, 1, fun a _ => .sgdb a⟩
  , ⟨0x77, 1, fun a _ => .llkb a⟩
  , ⟨0x78, 1, fun a _ => .rkib a⟩
  , ⟨0x79, 1, fun a _ => .rkdib a⟩
  , ⟨0x7A, 1, fun a _ => .lkb a⟩
  , ⟨0x7B, 0, fun _ _ => .shift⟩
  , ⟨0x7C, 1, fun a _ => .shiftsb a⟩
  , ⟨0x80, 1, fun a _ => .catchPhrase a⟩
  , ⟨0x81, 0, fun _ _ => .j2⟩
  , ⟨0x82, 0, fun _ _ => .j3⟩
  , ⟨0x83, 0, fun _ _ => .j4⟩
  , ⟨0x84, 0, fun _ _ => .j5⟩
  , ⟨0x85, 0, fun _ _ => .j6⟩ ]

/-- Single byte opcodes, 0x86 to 0x95. -/
def singleRows8 : List OpcodeRow :=
  [ ⟨0x86, 0, fun _ _ => .j7⟩
  , ⟨0x87, 0, fun _ _ => .j8⟩
  , ⟨0x88, 1, fun a _ => .jb a⟩
  , ⟨0x89, 2, fun a b => .jw (a ++ b)⟩
  , ⟨0x8A, 1, fun a _ => .jep (nibblePair a)⟩
  , ⟨0x8B, 1, fun a _ => .jeb a⟩
  , ⟨0x8C, 2, fun a b => .jebb a b⟩
  , ⟨0x8D, 1, fun a _ => .jnep (nibblePair a)⟩
  , ⟨0x8E, 1, fun a _ => .jneb a⟩
  , ⟨0x8F, 2, fun a b => .jnebb a b⟩
  , ⟨0x90, 1, fun a _ => .jlb a⟩
  , ⟨0x91, 1, fun a _ => .jgeb a⟩
  , ⟨0x92, 1, fun a _ => .jgb a⟩
  , ⟨0x93, 1, fun a _ => .jleb a⟩
  , ⟨0x94, 1, fun a _ => .julb a⟩
  , ⟨0x95, 1, fun a _ => .jugeb a⟩ ]

/-- Single byte opcodes, 0x96 to 0xA5. -/
def singleRows9 : List OpcodeRow :=
  [ ⟨0x96, 1, fun a _ => .jugb a⟩
  , ⟨0x97, 1, fun a _ => .juleb a⟩
  , ⟨0x98, 0, fun _ _ => .jz3⟩
  , ⟨0x99, 0, fun _ _ => .jz4⟩
  , ⟨0x9A, 1, fun a _ => .jzb a⟩
  , ⟨0x9B, 0, fun _ _ => .jnz3⟩
  , ⟨0x9C, 0, fun _ _ => .jnz4⟩
  , ⟨0x9D, 1, fun a _ => .jnzb a⟩
  , ⟨0x9E, 1, fun a _ => .jdeb a⟩
  , ⟨0x9F, 1, fun a _ => .jdneb a⟩
  , ⟨0xA0, 2, fun a b => .jib (a ++ b)⟩
  , ⟨0xA1, 2, fun a b => .jiw (a ++ b)⟩
  , ⟨0xA2, 0, fun _ _ => .recover⟩
  , ⟨0xA3, 0, fun _ _ => .recover2⟩
  , ⟨0xA4, 0, fun _ _ => .dis⟩
  , ⟨0xA5, 0, fun _ _ => .dis2⟩ ]

/-- Single byte opcodes, 0xA6 to 0xB5. -/
def singleRows10 : List OpcodeRow :=
  [ ⟨0xA6, 0, fun _ _ => .exch⟩
  , ⟨0xA7, 0, fun _ _ => .dexch⟩
  , ⟨0xA8, 0, fun _ _ => .dup⟩
  , ⟨0xA9, 0, fun _ _ => .ddup⟩
  , ⟨0xAA, 0, fun _ _ => .exdis⟩
  , ⟨0xAB, 0, fun _ _ => .neg⟩
  , ⟨0xAC, 0, fun _ _ => .inc⟩
  , ⟨0xAD, 0, fun _ _ => .dec⟩
  , ⟨0xAE, 0, fun _ _ => .dinc⟩
  , ⟨0xAF, 0, fun _ _ => .dbl⟩
  , ⟨0xB0, 0, fun _ _ => .ddbl⟩
  , ⟨0xB1, 0, fun _ _ => .trpl⟩
  , ⟨0xB2, 0, fun _ _ => .and⟩
  , ⟨0xB3, 0, fun _ _ => .ior⟩
  , ⟨0xB4, 1, fun a _ => .addsb a⟩
  , ⟨0xB5, 0, fun _ _ => .add⟩ ]

/-- Single byte opcodes, 0xB6 to 0xC6. -/
def singleRows11 : List OpcodeRow :=
  [ ⟨0xB6, 0, fun _ _ => .sub⟩
  , ⟨0xB7, 0, fun _ _ => .dadd⟩
  , ⟨0xB8, 0, fun _ _ => .dsub⟩
  , ⟨0xB9, 0, fun _ _ => .adc⟩
  , ⟨0xBA, 0, fun _ _ => .acd⟩
  , ⟨0xBB, 1, fun a _ => .al0ib a⟩
  , ⟨0xBC, 0, fun _ _ => .mul⟩
  , ⟨0xBD, 0, fun _ _ => .dcmp⟩
  , ⟨0xBE, 0, fun _ _ => .udcmp⟩
  , ⟨0xC0, 0, fun _ _ => .li0⟩
  , ⟨0xC1, 0, fun _ _ => .li1⟩
  , ⟨0xC2, 0, fun _ _ => .li2⟩
  , ⟨0xC3, 0, fun _ _ => .li3⟩
  , ⟨0xC4, 0, fun _ _ => .li4⟩
  , ⟨0xC5, 0, fun _ _ => .li5⟩
  , ⟨0xC6, 0, fun _ _ => .li6⟩ ]

/-- Single byte opcodes, 0xC7 to 0xD6. -/
def singleRows12 : List OpcodeRow :=
  [ ⟨0xC7, 0, fun _ _ => .li7⟩
  , ⟨0xC8, 0, fun _ _ => .li8⟩
  , ⟨0xC9, 0, fun _ _ => .li9⟩
  , ⟨0xCA, 0, fun _ _ => .li10⟩
  , ⟨0xCB, 0, fun _ _ => .lin1⟩
  , ⟨0xCC, 0, fun _ _ => .lini⟩
  , ⟨0xCD, 1, fun a _ => .lib a⟩
  , ⟨0xCE, 2, fun a b => .liw (a ++ b)⟩
  , ⟨0xCF, 1, fun a _ => .linb a⟩
  , ⟨0xD0, 1, fun a _ => .lihb a⟩
  , ⟨0xD1, 0, fun _ _ => .lid0⟩
  , ⟨0xD2, 0, fun _ _ => .la0⟩
  , ⟨0xD3, 0, fun _ _ => .la1⟩
  , ⟨0xD4, 0, fun _ _ => .la2⟩
  , ⟨0xD5, 0, fun _ _ => .la3⟩
  , ⟨0xD6, 0, fun _ _ => .la6⟩ ]

/-- Single byte opcodes, 0xD7 to 0xE7. -/
def singleRows13 : List OpcodeRow :=
  [ ⟨0xD7, 0, fun _ _ => .la8⟩
  , ⟨0xD8, 1, fun a _ => .lab a⟩
  , ⟨0xD9, 2, fun a b => .law (a ++ b)⟩
  , ⟨0xDA, 0, fun _ _ => .ga0⟩
  , ⟨0xDB, 0, fun _ _ => .ga1⟩
  , ⟨0xDC, 1, fun a _ => .gab a⟩
  , ⟨0xDD, 2, fun a b => .gaw (a ++ b)⟩
  , ⟨0xDF, 0, fun _ _ => .efc0⟩
  , ⟨0xE0, 0, fun _ _ => .efc1⟩
  , ⟨0xE1, 0, fun _ _ => .efc2⟩
  , ⟨0xE2, 0, fun _ _ => .efc3⟩
  , ⟨0xE3, 0, fun _ _ => .efc4⟩
  , ⟨0xE4, 0, fun _ _ => .efc5⟩
  , ⟨0xE5, 0, fun _ _ => .efc6⟩
  , ⟨0xE6, 0, fun _ _ => .efc7⟩
  , ⟨0xE7, 0, fun _ _ => .efc8⟩ ]

/-- Single byte opcodes, 0xE8 to 0xF7. -/
def singleRows14 : List OpcodeRow :=
  [ ⟨0xE8, 0, fun _ _ => .efc9⟩
  , ⟨0xE9, 0, fun _ _ => .efc10⟩
  , ⟨0xEA, 0, fun _ _ => .efc11⟩
  , ⟨0xEB, 0, fun _ _ => .efc12⟩
  , ⟨0xEC, 1, fun a _ => .efcb a⟩
  , ⟨0xED, 2, fun a b => .lfc (a ++ b)⟩
  , ⟨0xEE, 0, fun _ _ => .sfc⟩
  , ⟨0xEF, 0, fun _ _ => .ret⟩
  , ⟨0xF0, 1, fun a _ => .kfcb a⟩
  , ⟨0xF1, 0, fun _ _ => .me⟩
  , ⟨0xF2, 0, fun _ _ => .mx⟩
  , ⟨0xF3, 0, fun _ _ => .blt⟩
  , ⟨0xF4, 0, fun _ _ => .bltl⟩
  , ⟨0xF5, 0, fun _ _ => .bltc⟩
  , ⟨0xF6, 0, fun _ _ => .bltcl⟩
  , ⟨0xF7, 0, fun _ _ => .lp⟩ ]

/-- The single byte opcodes (the `z` values, R167, R174). -/
def singleRows : List OpcodeRow :=
  singleRows0 ++ singleRows1 ++ singleRows2 ++ singleRows3 ++ singleRows4 ++ singleRows5 ++ singleRows6 ++ singleRows7 ++ singleRows8 ++ singleRows9 ++ singleRows10 ++ singleRows11 ++ singleRows12 ++ singleRows13 ++ singleRows14

/-- Opcodes after `zESC`, 0x02 to 0x11. -/
def escRows0 : List OpcodeRow :=
  [ ⟨0x02, 0, fun _ _ => .mw⟩
  , ⟨0x03, 0, fun _ _ => .mr⟩
  , ⟨0x04, 0, fun _ _ => .nc⟩
  , ⟨0x05, 0, fun _ _ => .bc⟩
  , ⟨0x06, 0, fun _ _ => .req⟩
  , ⟨0x07, 0, fun _ _ => .sm⟩
  , ⟨0x08, 0, fun _ _ => .smf⟩
  , ⟨0x09, 0, fun _ _ => .gmf⟩
  , ⟨0x0A, 0, fun _ _ => .af⟩
  , ⟨0x0B, 0, fun _ _ => .ff⟩
  , ⟨0x0C, 0, fun _ _ => .pi⟩
  , ⟨0x0D, 0, fun _ _ => .po⟩
  , ⟨0x0E, 0, fun _ _ => .por⟩
  , ⟨0x0F, 0, fun _ _ => .spp⟩
  , ⟨0x10, 0, fun _ _ => .di⟩
  , ⟨0x11, 0, fun _ _ => .ei⟩ ]

/-- Opcodes after `zESC`, 0x12 to 0x28. -/
def escRows1 : List OpcodeRow :=
  [ ⟨0x12, 0, fun _ _ => .xor⟩
  , ⟨0x13, 0, fun _ _ => .dand⟩
  , ⟨0x14, 0, fun _ _ => .dior⟩
  , ⟨0x15, 0, fun _ _ => .dxor⟩
  , ⟨0x16, 0, fun _ _ => .rotate⟩
  , ⟨0x17, 0, fun _ _ => .dshift⟩
  , ⟨0x18, 0, fun _ _ => .lint⟩
  , ⟨0x19, 0, fun _ _ => .js⟩
  , ⟨0x1A, 0, fun _ _ => .rcfs⟩
  , ⟨0x1C, 0, fun _ _ => .udiv⟩
  , ⟨0x1D, 0, fun _ _ => .ludiv⟩
  , ⟨0x24, 0, fun _ _ => .bndckl⟩
  , ⟨0x25, 0, fun _ _ => .nilck⟩
  , ⟨0x26, 0, fun _ _ => .nilckl⟩
  , ⟨0x27, 0, fun _ _ => .bltlr⟩
  , ⟨0x28, 0, fun _ _ => .blel⟩ ]

/-- Opcodes after `zESC`, 0x29 to 0x75. -/
def escRows2 : List OpcodeRow :=
  [ ⟨0x29, 0, fun _ _ => .blecl⟩
  , ⟨0x2A, 0, fun _ _ => .cksum⟩
  , ⟨0x2B, 0, fun _ _ => .bitblt⟩
  , ⟨0x2C, 0, fun _ _ => .txtblt⟩
  , ⟨0x2D, 0, fun _ _ => .bytblt⟩
  , ⟨0x2E, 0, fun _ _ => .bytbltr⟩
  , ⟨0x30, 0, fun _ _ => .dmul⟩
  , ⟨0x31, 0, fun _ _ => .sdiv⟩
  , ⟨0x32, 0, fun _ _ => .sddiv⟩
  , ⟨0x33, 0, fun _ _ => .uddiv⟩
  , ⟨0x70, 0, fun _ _ => .wrpsb⟩
  , ⟨0x71, 0, fun _ _ => .wrmds⟩
  , ⟨0x72, 0, fun _ _ => .wrwp⟩
  , ⟨0x73, 0, fun _ _ => .wrwdc⟩
  , ⟨0x74, 0, fun _ _ => .wrptc⟩
  , ⟨0x75, 0, fun _ _ => .writ⟩ ]

/-- Opcodes after `zESC`, 0x76 to 0x7E. -/
def escRows3 : List OpcodeRow :=
  [ ⟨0x76, 0, fun _ _ => .wrxts⟩
  , ⟨0x77, 0, fun _ _ => .wrmp⟩
  , ⟨0x78, 0, fun _ _ => .rrpsb⟩
  , ⟨0x79, 0, fun _ _ => .rrmds⟩
  , ⟨0x7A, 0, fun _ _ => .rrwp⟩
  , ⟨0x7B, 0, fun _ _ => .rrwdc⟩
  , ⟨0x7C, 0, fun _ _ => .rrptc⟩
  , ⟨0x7D, 0, fun _ _ => .rrit⟩
  , ⟨0x7E, 0, fun _ _ => .rrxts⟩ ]

/-- The opcodes after `zESC` (the `a` values). -/
def escRows : List OpcodeRow :=
  escRows0 ++ escRows1 ++ escRows2 ++ escRows3

/-- Opcodes after `zESCL`, 0x1B to 0x23. -/
def esclRows0 : List OpcodeRow :=
  [ ⟨0x1B, 1, fun a _ => .rc a⟩
  , ⟨0x1E, 1, fun a _ => .rob a⟩
  , ⟨0x1F, 1, fun a _ => .wob a⟩
  , ⟨0x20, 1, fun a _ => .dsk a⟩
  , ⟨0x21, 1, fun a _ => .xe a⟩
  , ⟨0x22, 1, fun a _ => .xf a⟩
  , ⟨0x23, 1, fun a _ => .lsk a⟩ ]

/-- The opcodes after `zESCL` (the `b` values). -/
def esclRows : List OpcodeRow :=
  esclRows0

/-- What a byte sequence stands for: an instruction, a first byte with no single byte opcode (it raises OpcodeTrap), or a
first byte that is reserved for the implementation (R163, R169, R176). -/
inductive Decoded where
  /-- an instruction -/
  | instr (i : Instr)
  /-- no single byte opcode has this first byte -/
  | unassigned (opcode : Byte)
  /-- a first byte of 0 or 255 -/
  | reserved (opcode : Byte)
  deriving DecidableEq, Repr

/-- The instruction of the second byte `b1` after `zESC` (R167); an unassigned one is `Instr.esc`. -/
def decodeEsc (b1 : Byte) : Instr :=
  match findRow escRows b1.toNat with
  | some r => r.build 0 0
  | none => .esc b1

/-- The instruction of the second byte `b1` after `zESCL` and its operand byte `b2` (R167). -/
def decodeEscl (b1 b2 : Byte) : Instr :=
  match findRow esclRows b1.toNat with
  | some r => r.build b2 0
  | none => .escl b1

/-- `Dispatch` as a function of the bytes (R167, R176): the bytes after the instruction's own do not matter. -/
def decode (b0 b1 b2 : Byte) : Decoded :=
  if b0 = 0 ∨ b0 = 0xFF then .reserved b0
  else if b0 = escByte then .instr (decodeEsc b1)
  else if b0 = esclByte then .instr (decodeEscl b1 b2)
  else match findRow singleRows b0.toNat with
    | some r => .instr (r.build b1 b2)
    | none => .unassigned b0

/-- The length that the first byte alone fixes (R162): 2 after `zESC`, 3 after `zESCL`, else that of the opcode. -/
def lengthByFirstByte (b0 : Byte) : Nat :=
  if b0 = escByte then 2
  else if b0 = esclByte then 3
  else match findRow singleRows b0.toNat with
    | some r => r.operandBytes + 1
    | none => 1

/-- How many bytes the processor fetches (R164, R167): no operand byte of an unassigned extended opcode is fetched. -/
def fetchLength (b0 b1 : Byte) : Nat :=
  if b0 = esclByte then (if (findRow esclRows b1.toNat).isSome then 3 else 2) else lengthByFirstByte b0

/-- The bytes of an instruction, the first at the lowest `PC` (R161, R170). -/
def encode : Instr → List Byte
  | .ll0 => [0x01]
  | .ll1 => [0x02]
  | .ll2 => [0x03]
  | .ll3 => [0x04]
  | .ll4 => [0x05]
  | .ll5 => [0x06]
  | .ll6 => [0x07]
  | .ll7 => [0x08]
  | .ll8 => [0x09]
  | .ll9 => [0x0A]
  | .ll10 => [0x0B]
  | .ll11 => [0x0C]
  | .llb alpha => [0x0D, alpha]
  | .lld0 => [0x0E]
  | .lld1 => [0x0F]
  | .lld2 => [0x10]
  | .lld3 => [0x11]
  | .lld4 => [0x12]
  | .lld5 => [0x13]
  | .lld6 => [0x14]
  | .lld7 => [0x15]
  | .lld8 => [0x16]
  | .lld10 => [0x17]
  | .lldb alpha => [0x18, alpha]
  | .sl0 => [0x19]
  | .sl1 => [0x1A]
  | .sl2 => [0x1B]
  | .sl3 => [0x1C]
  | .sl4 => [0x1D]
  | .sl5 => [0x1E]
  | .sl6 => [0x1F]
  | .sl7 => [0x20]
  | .sl8 => [0x21]
  | .sl9 => [0x22]
  | .sl10 => [0x23]
  | .slb alpha => [0x24, alpha]
  | .sld0 => [0x25]
  | .sld1 => [0x26]
  | .sld2 => [0x27]
  | .sld3 => [0x28]
  | .sld4 => [0x29]
  | .sld5 => [0x2A]
  | .sld6 => [0x2B]
  | .sld8 => [0x2C]
  | .pl0 => [0x2D]
  | .pl1 => [0x2E]
  | .pl2 => [0x2F]
  | .pl3 => [0x30]
  | .plb alpha => [0x31, alpha]
  | .pld0 => [0x32]
  | .pldb alpha => [0x33, alpha]
  | .lg0 => [0x34]
  | .lg1 => [0x35]
  | .lg2 => [0x36]
  | .lgb alpha => [0x37, alpha]
  | .lgd0 => [0x38]
  | .lgd2 => [0x39]
  | .lgdb alpha => [0x3A, alpha]
  | .sgb alpha => [0x3B, alpha]
  | .bndck => [0x3C]
  | .brk => [0x3D]
  | .r0 => [0x40]
  | .r1 => [0x41]
  | .rb alpha => [0x42, alpha]
  | .rl0 => [0x43]
  | .rlb alpha => [0x44, alpha]
  | .rd0 => [0x45]
  | .rdb alpha => [0x46, alpha]
  | .rdl0 => [0x47]
  | .rdlb alpha => [0x48, alpha]
  | .w0 => [0x49]
  | .wb alpha => [0x4A, alpha]
  | .psb alpha => [0x4B, alpha]
  | .wlb alpha => [0x4C, alpha]
  | .pslb alpha => [0x4D, alpha]
  | .wdb alpha => [0x4E, alpha]
  | .psd0 => [0x4F]
  | .psdb alpha => [0x50, alpha]
  | .wdlb alpha => [0x51, alpha]
  | .psdlb alpha => [0x52, alpha]
  | .rli00 => [0x53]
  | .rli01 => [0x54]
  | .rli02 => [0x55]
  | .rli03 => [0x56]
  | .rlip pair => [0x57, pair.toByte]
  | .rlilp pair => [0x58, pair.toByte]
  | .rldi00 => [0x59]
  | .rldip pair => [0x5A, pair.toByte]
  | .rldilp pair => [0x5B, pair.toByte]
  | .rgip pair => [0x5C, pair.toByte]
  | .rgilp pair => [0x5D, pair.toByte]
  | .wlip pair => [0x5E, pair.toByte]
  | .wlilp pair => [0x5F, pair.toByte]
  | .wldilp pair => [0x60, pair.toByte]
  | .rs alpha => [0x61, alpha]
  | .rls alpha => [0x62, alpha]
  | .ws alpha => [0x63, alpha]
  | .wls alpha => [0x64, alpha]
  | .r0f spec => [0x65, spec.toByte]
  | .rf desc => [0x66, desc.offset, desc.field.toByte]
  | .rl0f spec => [0x67, spec.toByte]
  | .rlf desc => [0x68, desc.offset, desc.field.toByte]
  | .rlfs => [0x69]
  | .rlipf pair spec => [0x6A, pair.toByte, spec.toByte]
  | .rlilpf pair spec => [0x6B, pair.toByte, spec.toByte]
  | .w0f spec => [0x6C, spec.toByte]
  | .wf desc => [0x6D, desc.offset, desc.field.toByte]
  | .psf desc => [0x6E, desc.offset, desc.field.toByte]
  | .ps0f spec => [0x6F, spec.toByte]
  | .ws0f spec => [0x70, spec.toByte]
  | .wl0f spec => [0x71, spec.toByte]
  | .wlf desc => [0x72, desc.offset, desc.field.toByte]
  | .pslf desc => [0x73, desc.offset, desc.field.toByte]
  | .wlfs => [0x74]
  | .sldb alpha => [0x75, alpha]
  | .sgdb alpha => [0x76, alpha]
  | .llkb alpha => [0x77, alpha]
  | .rkib alpha => [0x78, alpha]
  | .rkdib alpha => [0x79, alpha]
  | .lkb alpha => [0x7A, alpha]
  | .shift => [0x7B]
  | .shiftsb alpha => [0x7C, alpha]
  | .catchPhrase alpha => [0x80, alpha]
  | .j2 => [0x81]
  | .j3 => [0x82]
  | .j4 => [0x83]
  | .j5 => [0x84]
  | .j6 => [0x85]
  | .j7 => [0x86]
  | .j8 => [0x87]
  | .jb alpha => [0x88, alpha]
  | .jw word => [0x89, word.extractLsb' 8 8, word.extractLsb' 0 8]
  | .jep pair => [0x8A, pair.toByte]
  | .jeb alpha => [0x8B, alpha]
  | .jebb byte disp => [0x8C, byte, disp]
  | .jnep pair => [0x8D, pair.toByte]
  | .jneb alpha => [0x8E, alpha]
  | .jnebb byte disp => [0x8F, byte, disp]
  | .jlb alpha => [0x90, alpha]
  | .jgeb alpha => [0x91, alpha]
  | .jgb alpha => [0x92, alpha]
  | .jleb alpha => [0x93, alpha]
  | .julb alpha => [0x94, alpha]
  | .jugeb alpha => [0x95, alpha]
  | .jugb alpha => [0x96, alpha]
  | .juleb alpha => [0x97, alpha]
  | .jz3 => [0x98]
  | .jz4 => [0x99]
  | .jzb alpha => [0x9A, alpha]
  | .jnz3 => [0x9B]
  | .jnz4 => [0x9C]
  | .jnzb alpha => [0x9D, alpha]
  | .jdeb alpha => [0x9E, alpha]
  | .jdneb alpha => [0x9F, alpha]
  | .jib word => [0xA0, word.extractLsb' 8 8, word.extractLsb' 0 8]
  | .jiw word => [0xA1, word.extractLsb' 8 8, word.extractLsb' 0 8]
  | .recover => [0xA2]
  | .recover2 => [0xA3]
  | .dis => [0xA4]
  | .dis2 => [0xA5]
  | .exch => [0xA6]
  | .dexch => [0xA7]
  | .dup => [0xA8]
  | .ddup => [0xA9]
  | .exdis => [0xAA]
  | .neg => [0xAB]
  | .inc => [0xAC]
  | .dec => [0xAD]
  | .dinc => [0xAE]
  | .dbl => [0xAF]
  | .ddbl => [0xB0]
  | .trpl => [0xB1]
  | .and => [0xB2]
  | .ior => [0xB3]
  | .addsb alpha => [0xB4, alpha]
  | .add => [0xB5]
  | .sub => [0xB6]
  | .dadd => [0xB7]
  | .dsub => [0xB8]
  | .adc => [0xB9]
  | .acd => [0xBA]
  | .al0ib alpha => [0xBB, alpha]
  | .mul => [0xBC]
  | .dcmp => [0xBD]
  | .udcmp => [0xBE]
  | .li0 => [0xC0]
  | .li1 => [0xC1]
  | .li2 => [0xC2]
  | .li3 => [0xC3]
  | .li4 => [0xC4]
  | .li5 => [0xC5]
  | .li6 => [0xC6]
  | .li7 => [0xC7]
  | .li8 => [0xC8]
  | .li9 => [0xC9]
  | .li10 => [0xCA]
  | .lin1 => [0xCB]
  | .lini => [0xCC]
  | .lib alpha => [0xCD, alpha]
  | .liw word => [0xCE, word.extractLsb' 8 8, word.extractLsb' 0 8]
  | .linb alpha => [0xCF, alpha]
  | .lihb alpha => [0xD0, alpha]
  | .lid0 => [0xD1]
  | .la0 => [0xD2]
  | .la1 => [0xD3]
  | .la2 => [0xD4]
  | .la3 => [0xD5]
  | .la6 => [0xD6]
  | .la8 => [0xD7]
  | .lab alpha => [0xD8, alpha]
  | .law word => [0xD9, word.extractLsb' 8 8, word.extractLsb' 0 8]
  | .ga0 => [0xDA]
  | .ga1 => [0xDB]
  | .gab alpha => [0xDC, alpha]
  | .gaw word => [0xDD, word.extractLsb' 8 8, word.extractLsb' 0 8]
  | .efc0 => [0xDF]
  | .efc1 => [0xE0]
  | .efc2 => [0xE1]
  | .efc3 => [0xE2]
  | .efc4 => [0xE3]
  | .efc5 => [0xE4]
  | .efc6 => [0xE5]
  | .efc7 => [0xE6]
  | .efc8 => [0xE7]
  | .efc9 => [0xE8]
  | .efc10 => [0xE9]
  | .efc11 => [0xEA]
  | .efc12 => [0xEB]
  | .efcb alpha => [0xEC, alpha]
  | .lfc word => [0xED, word.extractLsb' 8 8, word.extractLsb' 0 8]
  | .sfc => [0xEE]
  | .ret => [0xEF]
  | .kfcb alpha => [0xF0, alpha]
  | .me => [0xF1]
  | .mx => [0xF2]
  | .blt => [0xF3]
  | .bltl => [0xF4]
  | .bltc => [0xF5]
  | .bltcl => [0xF6]
  | .lp => [0xF7]
  | .mw => [0xF8, 0x02]
  | .mr => [0xF8, 0x03]
  | .nc => [0xF8, 0x04]
  | .bc => [0xF8, 0x05]
  | .req => [0xF8, 0x06]
  | .sm => [0xF8, 0x07]
  | .smf => [0xF8, 0x08]
  | .gmf => [0xF8, 0x09]
  | .af => [0xF8, 0x0A]
  | .ff => [0xF8, 0x0B]
  | .pi => [0xF8, 0x0C]
  | .po => [0xF8, 0x0D]
  | .por => [0xF8, 0x0E]
  | .spp => [0xF8, 0x0F]
  | .di => [0xF8, 0x10]
  | .ei => [0xF8, 0x11]
  | .xor => [0xF8, 0x12]
  | .dand => [0xF8, 0x13]
  | .dior => [0xF8, 0x14]
  | .dxor => [0xF8, 0x15]
  | .rotate => [0xF8, 0x16]
  | .dshift => [0xF8, 0x17]
  | .lint => [0xF8, 0x18]
  | .js => [0xF8, 0x19]
  | .rcfs => [0xF8, 0x1A]
  | .rc alpha => [0xF9, 0x1B, alpha]
  | .udiv => [0xF8, 0x1C]
  | .ludiv => [0xF8, 0x1D]
  | .rob alpha => [0xF9, 0x1E, alpha]
  | .wob alpha => [0xF9, 0x1F, alpha]
  | .dsk alpha => [0xF9, 0x20, alpha]
  | .xe alpha => [0xF9, 0x21, alpha]
  | .xf alpha => [0xF9, 0x22, alpha]
  | .lsk alpha => [0xF9, 0x23, alpha]
  | .bndckl => [0xF8, 0x24]
  | .nilck => [0xF8, 0x25]
  | .nilckl => [0xF8, 0x26]
  | .bltlr => [0xF8, 0x27]
  | .blel => [0xF8, 0x28]
  | .blecl => [0xF8, 0x29]
  | .cksum => [0xF8, 0x2A]
  | .bitblt => [0xF8, 0x2B]
  | .txtblt => [0xF8, 0x2C]
  | .bytblt => [0xF8, 0x2D]
  | .bytbltr => [0xF8, 0x2E]
  | .dmul => [0xF8, 0x30]
  | .sdiv => [0xF8, 0x31]
  | .sddiv => [0xF8, 0x32]
  | .uddiv => [0xF8, 0x33]
  | .wrpsb => [0xF8, 0x70]
  | .wrmds => [0xF8, 0x71]
  | .wrwp => [0xF8, 0x72]
  | .wrwdc => [0xF8, 0x73]
  | .wrptc => [0xF8, 0x74]
  | .writ => [0xF8, 0x75]
  | .wrxts => [0xF8, 0x76]
  | .wrmp => [0xF8, 0x77]
  | .rrpsb => [0xF8, 0x78]
  | .rrmds => [0xF8, 0x79]
  | .rrwp => [0xF8, 0x7A]
  | .rrwdc => [0xF8, 0x7B]
  | .rrptc => [0xF8, 0x7C]
  | .rrit => [0xF8, 0x7D]
  | .rrxts => [0xF8, 0x7E]
  | .esc second => [0xF8, second]
  | .escl second => [0xF9, second]

/-- Byte `k` of a byte list, 0 past its end. -/
def byteOf (bs : List Byte) (k : Nat) : Byte := bs.getD k 0

/-- The decoder on a list of bytes, zeros past its end. -/
def decodeBytes (bs : List Byte) : Decoded := decode (byteOf bs 0) (byteOf bs 1) (byteOf bs 2)

/-! Another `OpcodeAssignment` (R9, R173), and opcodes that a processor does not implement (R169). -/

/-- A byte after exchanges of two bytes, in order. -/
def exchangeBytes : List (Byte × Byte) → Byte → Byte
  | [], b => b
  | p :: ps, b => exchangeBytes ps (if b = p.1 then p.2 else if b = p.2 then p.1 else b)

/-- The exchanges that leave the reserved bytes 0 and 255 alone (R163, R173). -/
def opcodeExchanges (ps : List (Byte × Byte)) : List (Byte × Byte) :=
  ps.filter fun p => decide (p.1 ≠ 0) && decide (p.1 ≠ 0xFF) && decide (p.2 ≠ 0) && decide (p.2 ≠ 0xFF)

/-- The recalled first byte that a first byte of the machine stands for. -/
def OpcodeAssignment.first (a : OpcodeAssignment) (b : Byte) : Byte := exchangeBytes (opcodeExchanges a.single) b

/-- The machine's first byte for a recalled first byte. -/
def OpcodeAssignment.firstBack (a : OpcodeAssignment) (b : Byte) : Byte :=
  exchangeBytes (opcodeExchanges a.single).reverse b

/-- The recalled second byte that a second byte of the machine stands for, after the recalled first byte `c0`. -/
def OpcodeAssignment.second (a : OpcodeAssignment) (c0 b : Byte) : Byte :=
  if c0 = escByte then exchangeBytes a.esc b else if c0 = esclByte then exchangeBytes a.escl b else b

/-- The machine's second byte for a recalled second byte, after the recalled first byte `c0`. -/
def OpcodeAssignment.secondBack (a : OpcodeAssignment) (c0 b : Byte) : Byte :=
  if c0 = escByte then exchangeBytes a.esc.reverse b else if c0 = esclByte then exchangeBytes a.escl.reverse b else b

/-- An instruction with the second byte of an unassigned extended opcode, if it is one, mapped. -/
def Instr.mapSecond (i : Instr) (f : Byte → Byte → Byte) : Instr :=
  match i with
  | .esc b => .esc (f escByte b)
  | .escl b => .escl (f esclByte b)
  | i => i

/-- What was decoded, with the bytes it names in the machine's assignment. -/
def Decoded.actual (a : OpcodeAssignment) : Decoded → Decoded
  | .instr i => .instr (i.mapSecond a.secondBack)
  | .unassigned b => .unassigned (a.firstBack b)
  | .reserved b => .reserved (a.firstBack b)

/-- The instructions whose routines are lost (48_control_transfers.md R632, 49_processes.md R652). -/
def Instr.isLost : Instr → Bool
  | .brk | .llkb _ | .rkib _ | .rkdib _ | .lkb _ | .efc0 | .efc1 | .efc2 | .efc3 | .efc4 | .efc5 | .efc6 | .efc7 | .efc8
  | .efc9 | .efc10 | .efc11 | .efc12 | .efcb _ | .lfc _ | .sfc | .ret | .kfcb _ | .me | .mx | .mw | .mr | .nc | .bc | .req
  | .af | .ff | .pi | .po | .por | .spp | .di | .ei | .dsk _ | .xe _ | .xf _ | .lsk _ => true
  | _ => false

/-- What was decoded is an instruction whose routine is lost. -/
def Decoded.isLost : Decoded → Bool
  | .instr i => i.isLost
  | .unassigned _ => false
  | .reserved _ => false

/-- A single byte opcode that the processor does not implement (R169): not `zESC` and `zESCL`, nor the reserved values (R163), nor an
instruction whose routine is lost, which is refused and is not `OpcodeTrap` (R640; log 54). -/
def OpcodeSet.lacksSingle (u : OpcodeSet) (c0 : Byte) : Bool :=
  decide (c0 ≠ escByte) && decide (c0 ≠ esclByte) && decide (c0 ≠ 0) && decide (c0 ≠ 0xFF) && u.single.contains c0 &&
    !(decode c0 0 0).isLost

/-- An extended opcode that the processor does not implement (R169), but for an instruction whose routine is lost (R640; log 54). -/
def OpcodeSet.lacksExtended (u : OpcodeSet) (c0 c1 : Byte) : Bool :=
  ((decide (c0 = escByte) && u.esc.contains c1) || (decide (c0 = esclByte) && u.escl.contains c1)) && !(decode c0 c1 0).isLost

/-- `Dispatch` of a machine (R167, R169, R176): by its own assignment, the opcodes it does not implement as unassigned ones. -/
def decodeFor (c : Config) (b0 b1 b2 : Byte) : Decoded :=
  let c0 := c.opcodes.first b0
  let c1 := c.opcodes.second c0 b1
  if c.unimplemented.lacksSingle c0 then .unassigned b0
  else if c.unimplemented.lacksExtended c0 c1 then .instr (if c0 = escByte then .esc b1 else .escl b1)
  else (decode c0 c1 b2).actual c.opcodes

/-- How many bytes a machine fetches (R164, R167): the opcode bytes, then the operand bytes that the instruction's routine
fetches, none where the routine is lost (R640) or the opcode is not implemented. -/
def fetchLengthFor (c : Config) (b0 b1 : Byte) : Nat :=
  let c0 := c.opcodes.first b0
  let c1 := c.opcodes.second c0 b1
  let opcodeBytes : Nat := if c0 = escByte ∨ c0 = esclByte then 2 else 1
  if c.unimplemented.lacksSingle c0 || c.unimplemented.lacksExtended c0 c1 || (decode c0 c1 0).isLost then opcodeBytes
  else fetchLength c0 c1

/-- The bytes of an instruction in a machine's assignment: those of the recalled one, its opcode bytes exchanged back. -/
def encodeFor (a : OpcodeAssignment) (i : Instr) : List Byte :=
  match encode (i.mapSecond a.second) with
  | [] => []
  | [c0] => [a.firstBack c0]
  | c0 :: c1 :: rest => a.firstBack c0 :: a.secondBack c0 c1 :: rest

/-- The decoder of a machine on a list of bytes, zeros past its end. -/
def decodeBytesFor (c : Config) (bs : List Byte) : Decoded := decodeFor c (byteOf bs 0) (byteOf bs 1) (byteOf bs 2)

/-- The bytes of a number of `n` bytes, the first byte the most significant, as spec/opcode_table.json numbers them (R173). -/
def bytesOfNumber (n w : Nat) : List Byte :=
  match n with
  | 0 => []
  | k + 1 => BitVec.ofNat 8 (w / 256 ^ k) :: bytesOfNumber k w

/-- The bytes of an instruction number of `nbits` bits. A number below 256 is a first byte alone: the rows of format PREFIX
give the match of byte 0 only (R173; log 1). -/
def tableBytes (nbits w : Nat) : List Byte :=
  if w < 256 then [BitVec.ofNat 8 w] else bytesOfNumber (nbits / 8) w

/-- The instruction the decoder reads from the bits `w`, numbered as spec/opcode_table.json numbers them. -/
def decodeTableWord (nbits w : Nat) : Option Instr :=
  match decodeBytes (tableBytes nbits w) with
  | .instr i => some i
  | .unassigned _ => none
  | .reserved _ => none

end Sys2Proof
end

