-- ==== Sys2Proof/WellFormed.lean ====
section
/-! DEFINITION. Which instructions are well formed: the operand values the manual reserves are refused
(spec 30_encoding.md R171, R177). -/

namespace Sys2Proof

/-- A field lies in one word: `pos + size + 1 <= 16` (R171, R177; 45_string_field.md R500). -/
def FieldSpec.wellFormed (f : FieldSpec) : Bool := decide (f.pos.toNat + f.size.toNat + 1 ≤ 16)

/-- The operand byte of `ROB` and `WOB` lies in [1..4] (R177; 40_map_pointer_register.md R205). -/
def overheadOffsetWellFormed (alpha : Byte) : Bool := decide (1 ≤ alpha.toNat) && decide (alpha.toNat ≤ 4)

/-- The operand byte of `SHIFTSB`, read as a signed byte, lies in [-15..15] (R177; 41_stack.md R270). -/
def shiftCountWellFormed (alpha : Byte) : Bool := decide (-15 ≤ alpha.toInt) && decide (alpha.toInt ≤ 15)

/-- The second byte after `zESC` belongs to no ESC opcode: only then is it the operand of `Instr.esc`. -/
def escUnassigned (second : Byte) : Bool := (findRow escRows second.toNat).isNone

/-- The second byte after `zESCL` belongs to no ESCL opcode. -/
def esclUnassigned (second : Byte) : Bool := (findRow esclRows second.toNat).isNone

/-- An instruction with legal operand values, and in its one form. -/
def Instr.wellFormed : Instr → Bool
  | .llb _ => true
  | .lldb _ => true
  | .slb _ => true
  | .plb _ => true
  | .pldb _ => true
  | .lgb _ => true
  | .lgdb _ => true
  | .sgb _ => true
  | .rb _ => true
  | .rlb _ => true
  | .rdb _ => true
  | .rdlb _ => true
  | .wb _ => true
  | .psb _ => true
  | .wlb _ => true
  | .pslb _ => true
  | .wdb _ => true
  | .psdb _ => true
  | .wdlb _ => true
  | .psdlb _ => true
  | .rlip _ => true
  | .rlilp _ => true
  | .rldip _ => true
  | .rldilp _ => true
  | .rgip _ => true
  | .rgilp _ => true
  | .wlip _ => true
  | .wlilp _ => true
  | .wldilp _ => true
  | .rs _ => true
  | .rls _ => true
  | .ws _ => true
  | .wls _ => true
  | .r0f spec => spec.wellFormed
  | .rf desc => desc.field.wellFormed
  | .rl0f spec => spec.wellFormed
  | .rlf desc => desc.field.wellFormed
  | .rlipf _ spec => spec.wellFormed
  | .rlilpf _ spec => spec.wellFormed
  | .w0f spec => spec.wellFormed
  | .wf desc => desc.field.wellFormed
  | .psf desc => desc.field.wellFormed
  | .ps0f spec => spec.wellFormed
  | .ws0f spec => spec.wellFormed
  | .wl0f spec => spec.wellFormed
  | .wlf desc => desc.field.wellFormed
  | .pslf desc => desc.field.wellFormed
  | .sldb _ => true
  | .sgdb _ => true
  | .llkb _ => true
  | .rkib _ => true
  | .rkdib _ => true
  | .lkb _ => true
  | .shiftsb alpha => shiftCountWellFormed alpha
  | .catchPhrase _ => true
  | .jb _ => true
  | .jw _ => true
  | .jep _ => true
  | .jeb _ => true
  | .jebb _ _ => true
  | .jnep _ => true
  | .jneb _ => true
  | .jnebb _ _ => true
  | .jlb _ => true
  | .jgeb _ => true
  | .jgb _ => true
  | .jleb _ => true
  | .julb _ => true
  | .jugeb _ => true
  | .jugb _ => true
  | .juleb _ => true
  | .jzb _ => true
  | .jnzb _ => true
  | .jdeb _ => true
  | .jdneb _ => true
  | .jib _ => true
  | .jiw _ => true
  | .addsb _ => true
  | .al0ib _ => true
  | .lib _ => true
  | .liw _ => true
  | .linb _ => true
  | .lihb _ => true
  | .lab _ => true
  | .law _ => true
  | .gab _ => true
  | .gaw _ => true
  | .efcb _ => true
  | .lfc _ => true
  | .kfcb _ => true
  | .rc _ => true
  | .rob alpha => overheadOffsetWellFormed alpha
  | .wob alpha => overheadOffsetWellFormed alpha
  | .dsk _ => true
  | .xe _ => true
  | .xf _ => true
  | .lsk _ => true
  | .esc second => escUnassigned second
  | .escl second => esclUnassigned second
  | .ll0 => true
  | .ll1 => true
  | .ll2 => true
  | .ll3 => true
  | .ll4 => true
  | .ll5 => true
  | .ll6 => true
  | .ll7 => true
  | .ll8 => true
  | .ll9 => true
  | .ll10 => true
  | .ll11 => true
  | .lld0 => true
  | .lld1 => true
  | .lld2 => true
  | .lld3 => true
  | .lld4 => true
  | .lld5 => true
  | .lld6 => true
  | .lld7 => true
  | .lld8 => true
  | .lld10 => true
  | .sl0 => true
  | .sl1 => true
  | .sl2 => true
  | .sl3 => true
  | .sl4 => true
  | .sl5 => true
  | .sl6 => true
  | .sl7 => true
  | .sl8 => true
  | .sl9 => true
  | .sl10 => true
  | .sld0 => true
  | .sld1 => true
  | .sld2 => true
  | .sld3 => true
  | .sld4 => true
  | .sld5 => true
  | .sld6 => true
  | .sld8 => true
  | .pl0 => true
  | .pl1 => true
  | .pl2 => true
  | .pl3 => true
  | .pld0 => true
  | .lg0 => true
  | .lg1 => true
  | .lg2 => true
  | .lgd0 => true
  | .lgd2 => true
  | .bndck => true
  | .brk => true
  | .r0 => true
  | .r1 => true
  | .rl0 => true
  | .rd0 => true
  | .rdl0 => true
  | .w0 => true
  | .psd0 => true
  | .rli00 => true
  | .rli01 => true
  | .rli02 => true
  | .rli03 => true
  | .rldi00 => true
  | .rlfs => true
  | .wlfs => true
  | .shift => true
  | .j2 => true
  | .j3 => true
  | .j4 => true
  | .j5 => true
  | .j6 => true
  | .j7 => true
  | .j8 => true
  | .jz3 => true
  | .jz4 => true
  | .jnz3 => true
  | .jnz4 => true
  | .recover => true
  | .recover2 => true
  | .dis => true
  | .dis2 => true
  | .exch => true
  | .dexch => true
  | .dup => true
  | .ddup => true
  | .exdis => true
  | .neg => true
  | .inc => true
  | .dec => true
  | .dinc => true
  | .dbl => true
  | .ddbl => true
  | .trpl => true
  | .and => true
  | .ior => true
  | .add => true
  | .sub => true
  | .dadd => true
  | .dsub => true
  | .adc => true
  | .acd => true
  | .mul => true
  | .dcmp => true
  | .udcmp => true
  | .li0 => true
  | .li1 => true
  | .li2 => true
  | .li3 => true
  | .li4 => true
  | .li5 => true
  | .li6 => true
  | .li7 => true
  | .li8 => true
  | .li9 => true
  | .li10 => true
  | .lin1 => true
  | .lini => true
  | .lid0 => true
  | .la0 => true
  | .la1 => true
  | .la2 => true
  | .la3 => true
  | .la6 => true
  | .la8 => true
  | .ga0 => true
  | .ga1 => true
  | .efc0 => true
  | .efc1 => true
  | .efc2 => true
  | .efc3 => true
  | .efc4 => true
  | .efc5 => true
  | .efc6 => true
  | .efc7 => true
  | .efc8 => true
  | .efc9 => true
  | .efc10 => true
  | .efc11 => true
  | .efc12 => true
  | .sfc => true
  | .ret => true
  | .me => true
  | .mx => true
  | .blt => true
  | .bltl => true
  | .bltc => true
  | .bltcl => true
  | .lp => true
  | .mw => true
  | .mr => true
  | .nc => true
  | .bc => true
  | .req => true
  | .sm => true
  | .smf => true
  | .gmf => true
  | .af => true
  | .ff => true
  | .pi => true
  | .po => true
  | .por => true
  | .spp => true
  | .di => true
  | .ei => true
  | .xor => true
  | .dand => true
  | .dior => true
  | .dxor => true
  | .rotate => true
  | .dshift => true
  | .lint => true
  | .js => true
  | .rcfs => true
  | .udiv => true
  | .ludiv => true
  | .bndckl => true
  | .nilck => true
  | .nilckl => true
  | .bltlr => true
  | .blel => true
  | .blecl => true
  | .cksum => true
  | .bitblt => true
  | .txtblt => true
  | .bytblt => true
  | .bytbltr => true
  | .dmul => true
  | .sdiv => true
  | .sddiv => true
  | .uddiv => true
  | .wrpsb => true
  | .wrmds => true
  | .wrwp => true
  | .wrwdc => true
  | .wrptc => true
  | .writ => true
  | .wrxts => true
  | .wrmp => true
  | .rrpsb => true
  | .rrmds => true
  | .rrwp => true
  | .rrwdc => true
  | .rrptc => true
  | .rrit => true
  | .rrxts => true

end Sys2Proof
end

