-- ==== Sys2Proof/Machine/Operands.lean ====
section
/-! DEFINITION. The forms of operands beyond words: bit fields, bit addresses, packed bytes, and the argument records of BITBLT and
TXTBLT (spec 45_string_field.md R491 to R503; 47_bitblt_txtblt.md R571 to R603). -/

namespace Sys2Proof.Machine

/-- `MaskTable[size]` = 2^(size+1) - 1 (R492). -/
def maskTable (size : Nibble) : Word := BitVec.ofNat 16 (2 ^ (size.toNat + 1) - 1)

/-- The distance of a field's last bit from the word's least significant bit (R500). -/
def fieldShift (f : FieldSpec) : Nat := 16 - (f.pos.toNat + f.size.toNat + 1)

/-- `ReadField` of a legal field (R500): right-justified, high-order zeros. -/
def readFieldOf (source : Word) (f : FieldSpec) : Word := (source >>> fieldShift f) &&& maskTable f.size

/-- `WriteField` into a legal field (R501): bits outside the field are kept, leftover bits of the data dropped. -/
def writeFieldOf (dest : Word) (f : FieldSpec) (data : Word) : Word :=
  let mask := maskTable f.size <<< fieldShift f
  (dest &&& ~~~mask) ||| ((data <<< fieldShift f) &&& mask)

/-- `ReadField`; its `ERROR` is refused (R5, R500, U17; log 22). -/
def readField (source : Word) (f : FieldSpec) : Act Word :=
  if f.wellFormed then pure (readFieldOf source f) else refuse .fieldSpecifier

/-- `WriteField`; its `ERROR` is refused (R5, R501, U17; log 22). -/
def writeField (dest : Word) (f : FieldSpec) (data : Word) : Act Word :=
  if f.wellFormed then pure (writeFieldOf dest f data) else refuse .fieldSpecifier

/-- Read the field of the word at `va`. -/
def fetchField (va : Long) (f : FieldSpec) : Act Word := do
  let w ← fetch va
  readField w f

/-- Write the field of the word at `va`: one read, then one write (R503). -/
def storeField (va : Long) (f : FieldSpec) (data : Word) : Act Unit := do
  let w ← fetch va
  let new ← writeField w f data
  store va new

/-- `BitAddress`: a word address and a bit of that word, 0 the most significant (R571). -/
structure BitAddress where
  word : Long
  bit : Nibble
  deriving DecidableEq, Repr

/-- `Bump`: a bit address moved by a signed number of bits (R572). -/
def bump (a : BitAddress) (offset : Long) : BitAddress :=
  let o := offset + nibbleLong a.bit
  { word := a.word + arithShiftRight4 o, bit := o.extractLsb' 0 4 }

/-- Bit `n` of a word, 0 the most significant. -/
def bitOf (w : Word) (n : Nibble) : Bool := w.getMsbD n.toNat

/-- A word with bit `n`, 0 the most significant, replaced: `WriteField` of one bit (R501, R573). -/
def setBit (w : Word) (n : Nibble) (b : Bool) : Word := writeFieldOf w ⟨n, 0⟩ (boolWord b)

/-- `ReadBit` (R573). -/
def readBit (a : BitAddress) (offset : Word) : Act Bool := do
  let at_ := bump a (lengthenSigned offset)
  let w ← fetch at_.word
  return bitOf w at_.bit

/-- `WriteBit` (R573): the word is read and then written. -/
def writeBit (a : BitAddress) (offset : Word) (b : Bool) : Act Unit := do
  let at_ := bump a (lengthenSigned offset)
  let w ← fetch at_.word
  store at_.word (setBit w at_.bit b)

/-- The `n` words of the main data space from `ptr` on, in ascending order (R586, R606). -/
def fetchRecord (ptr : Word) : Nat → Act (List Word)
  | 0 => return []
  | n + 1 => do
    let w ← fetchMds ptr
    let ws ← fetchRecord (ptr + 1) n
    return w :: ws

/-- Word `i` of a record. -/
def recordWord (ws : List Word) (i : Nat) : Word := ws.getD i 0

/-- The long value in words `i`, `i + 1` of a record, low word first. -/
def recordLong (ws : List Word) (i : Nat) : Long := Long.ofHalves (recordWord ws (i + 1)) (recordWord ws i)

/-- The bit address in words `i` to `i + 2` of a record (R571). -/
def recordBitAddress (ws : List Word) (i : Nat) : BitAddress :=
  { word := recordLong ws i, bit := (recordWord ws (i + 2)).extractLsb' 0 4 }

/-- A suspended `BITBLT` or `TXTBLT` is remembered with its argument record as it was read, once its operands are back on the stack
(R590, R605; log 51). -/
def noteSuspension (ptr : Word) (record : List Word) : Act Unit := modify fun s =>
  { s with suspended := some ⟨s.savedPC, s.stack.take s.sp, ptr, record⟩ }

/-- A restart of the instruction that `start` was about to run, with its argument record read anew: a record that is not the one it was
suspended with is refused (R590, R605, U25; log 51). -/
def checkRestart (start : State) (ptr : Word) (record : List Word) : Act Unit := do
  let s ← get
  match s.suspended with
  | none => return ()
  | some u =>
    if u.pc = start.savedPC ∧ u.stack = start.stack.take start.sp ∧ u.ptr = ptr then
      if u.record = record then set { s with suspended := none } else refuse .changedArgument
    else return ()

/-- A run of words in virtual memory. -/
structure WordRange where
  first : Long
  count : Nat
  deriving DecidableEq, Repr

/-- Two runs have a word in common. -/
def WordRange.meets (a b : WordRange) : Bool :=
  (decide (0 < a.count) && decide ((a.first - b.first).toNat < b.count)) ||
    (decide (0 < b.count) && decide ((b.first - a.first).toNat < a.count))

/-- A run leaves the 64K bank in which it begins. -/
def WordRange.crossesBank (r : WordRange) : Bool := decide (65536 < (Long.low r.first).toNat + r.count)

/-- Part of an operand in memory: where the operand begins, and a run of its words. -/
structure OperandPart where
  base : Long
  words : WordRange
  deriving DecidableEq, Repr

/-- Word `n` of the operand at `base`. -/
def wordPart (base n : Long) : OperandPart := ⟨base, ⟨base + n, 1⟩⟩

/-- A part leaves the 64K bank in which its operand begins. -/
def OperandPart.leavesBank (p : OperandPart) : Bool :=
  decide (Long.high p.words.first ≠ Long.high p.base) || p.words.crossesBank

/-- A page that an operand's part begins on is mapped. -/
def State.mapped (s : State) (p : OperandPart) : Bool := !(s.entryOf p.words.first).isVacant

/-- Some two operands of a list have a word in common. -/
def operandsMeet : List (List OperandPart) → Bool
  | [] => false
  | o :: os => os.any (fun o' => o.any fun p => o'.any fun q => p.words.meets q.words) || operandsMeet os

/-- The double word at `va` as memory stands, its low word first (R115, R119). -/
def State.longAt (s : State) (va : Long) : Long := Long.ofHalves (s.wordAt (va + 1)) (s.wordAt va)

/-- The byte of a packed byte array as memory stands, the left byte of a word first (R602, R607). -/
def State.packedByteAt (s : State) (base : Long) (i : Word) : Byte :=
  if i.getLsbD 0 then (s.wordAt (base + (i >>> 1).setWidth 32)).extractLsb' 0 8
  else (s.wordAt (base + (i >>> 1).setWidth 32)).extractLsb' 8 8

/-- Byte `char` of a packed byte array at `base`, the left byte of a word first (R602, R607). -/
def packedByte (base : Long) (index : Word) : Act Byte := do
  let w ← fetch (base + lengthen (index >>> 1))
  return if index.getLsbD 0 then Word.right w else Word.left w

/-- The flags of a character (R602). -/
structure FontFlags where
  pad : Bool
  stop : Bool
  deriving DecidableEq, Repr

/-- `FontFlags` from a byte in the default format: `pad` the most significant bit, `stop` the next (D17; log 33). -/
def fontFlags (b : Byte) : FontFlags := ⟨b.getLsbD 7, b.getLsbD 6⟩

/-- `RasterInfo` of a word: leftKern w[15], rightKern w[14], offset w[13:0] (R602, GK8; PRESUMED, log 33). -/
structure RasterInfo where
  leftKern : Bool
  rightKern : Bool
  offset : BitVec 14
  deriving DecidableEq, Repr

/-- The fields of a `RasterInfo` word in the recalled layout (R602, GK8; log 33). -/
def rasterInfo (w : Word) : RasterInfo := ⟨w.getLsbD 15, w.getLsbD 14, w.extractLsb' 0 14⟩

/-- `FontFlags(font, char)`, the open accessor of R602 and P8: in the default format a byte of the packed array at word 6 of the font
record (D17), in another format an open value, the same throughout a scan, which must not change its font (R604; log 33). -/
def characterFlags (font : Long) (char : Word) (flagsIndex : Nat) : Act FontFlags := do
  let s ← get
  match s.cfg.fontFormat with
  | .packed => do
    let base ← readDbl (font + 6)
    let b ← packedByte base char
    return fontFlags b
  | .other =>
    set { s with freeIndex := s.freeIndex + 1 }
    return fontFlags (Config.fontFlagsOther font char flagsIndex)

/-- A `RasterInfo` word of any format, in the layout of the default one (R602, P8; log 33). -/
def rasterLayout (c : Config) (w : Word) : Word :=
  match c.fontFormat with
  | .packed => w
  | .other => Config.rasterLayoutOther w

/-- `rasterInfos[char]` (R602), its layout that of the font format (P8; log 33). -/
def characterRaster (font : Long) (char : Word) : Act RasterInfo := do
  let base ← readDbl (font + 8)
  let w ← fetch (base + lengthen char)
  let s ← get
  return rasterInfo (rasterLayout s.cfg w)

end Sys2Proof.Machine
end

