-- ==== Sys2Proof/Machine/BitBlt.lean ====
section
/-! DEFINITION. BITBLT (spec 47_bitblt_txtblt.md R574 to R593). -/

namespace Sys2Proof.Machine

/-- `GrayParm`: the bits per line of the source, read as a gray brick (R580). -/
structure GrayParm where
  reserved : Nibble
  yOffset : Nibble
  widthMinusOne : Nibble
  heightMinusOne : Nibble
  deriving DecidableEq, Repr

/-- The fields of a `GrayParm` word (R580). -/
def grayParm (w : Word) : GrayParm :=
  ⟨w.extractLsb' 12 4, w.extractLsb' 8 4, w.extractLsb' 4 4, w.extractLsb' 0 4⟩

/-- The processor's copy of a `BitBltArg` (R575); `reserved` collects the reserved fields of words 2, 6 and 11. -/
structure BitBltArg where
  dst : BitAddress
  dstBpl : Word
  src : BitAddress
  srcBpl : Word
  width : Word
  height : Word
  flags : BitBltFlags
  reserved : Word
  deriving DecidableEq, Repr

/-- `BitBltArg` of its 12 words (R575). -/
def bitBltArg (ws : List Word) : BitBltArg where
  dst := recordBitAddress ws 0
  dstBpl := recordWord ws 3
  src := recordBitAddress ws 4
  srcBpl := recordWord ws 7
  width := recordWord ws 8
  height := recordWord ws 9
  flags := bitBltFlags (recordWord ws 10)
  reserved := (recordWord ws 2 >>> 4) ||| (recordWord ws 6 >>> 4) ||| recordWord ws 11

/-- The instruction-local state of BITBLT (R583). -/
structure BitBltState where
  arg : BitBltArg
  gray : GrayParm
  grayWidth : Word
  grayBump : Long
  lastGray : Nat
  xDirection : Direction
  yDirection : Direction
  line : Word
  deriving DecidableEq, Repr

/-- The height of the gray brick in lines (R580). -/
def GrayParm.lines (g : GrayParm) : Nat := g.heightMinusOne.toNat + 1

/-- The `ERROR` conditions that hold for every BITBLT (R584, R589). -/
def bitBltArgError (a : BitBltArg) : Bool :=
  decide (a.flags.reserved ≠ 0) || decide (a.reserved ≠ 0) || (!a.flags.gray && decide (a.srcBpl = 0))
    || decide (a.dstBpl = 0) || decide (32767 < a.width.toNat) || decide (32767 < a.height.toNat)

/-- The `ERROR` conditions of a gray BITBLT (R582, R584, R589). -/
def bitBltGrayError (a : BitBltArg) : Bool :=
  let g := grayParm a.srcBpl
  decide (g.widthMinusOne ≠ 0) || decide (g.reserved ≠ 0) || decide (a.flags.direction ≠ .forward)
    || !a.flags.disjoint || decide (a.dstBpl.toInt < 0) || decide (g.heightMinusOne < g.yOffset)

/-- The `ERROR` conditions on the signs of the bits per line when not gray (R584, R589). -/
def bitBltSignError (a : BitBltArg) : Bool :=
  match a.flags.direction with
  | .forward => decide (a.srcBpl.toInt < 0) || decide (a.dstBpl.toInt < 0)
  | .backward => decide (0 < a.srcBpl.toInt) || decide (0 < a.dstBpl.toInt)

/-- Any `ERROR` of `Setup` but the alignment of the pointer (R589). -/
def bitBltError (a : BitBltArg) : Bool :=
  bitBltArgError a || (if a.flags.gray then bitBltGrayError a else bitBltSignError a)

/-- The state of `Setup` before `ComputeDirection` (R584). -/
def bitBltInitial (a : BitBltArg) : BitBltState :=
  let g := grayParm a.srcBpl
  let grayWidth : Word := (nibbleWord g.widthMinusOne + 1) * 16
  { arg := a, gray := g, grayWidth := grayWidth,
    grayBump := -(lengthenSigned grayWidth) * nibbleLong g.heightMinusOne,
    lastGray := 0, xDirection := a.flags.direction, yDirection := a.flags.direction, line := 0 }

/-- The vertical direction turned round (R587): the addresses move to the other end, the bits per line change sign. -/
def reverseLines (y : Direction) (b : BitBltState) : BitBltState :=
  let a := b.arg
  let last := lengthen (a.height - 1)
  let brickLine := ((b.gray.yOffset.toNat + a.height.toNat - 1) % b.gray.lines : Nat)
  let arg' : BitBltArg :=
    if a.flags.gray then
      { a with src := bump a.src (lengthenSigned b.grayWidth * BitVec.ofInt 32 (brickLine - b.gray.yOffset.toNat)) }
    else { a with src := bump a.src (lengthenSigned a.srcBpl * last), srcBpl := -a.srcBpl }
  { b with
    yDirection := y
    grayWidth := if a.flags.gray then -b.grayWidth else b.grayWidth
    grayBump := if a.flags.gray then -b.grayBump else b.grayBump
    arg := { arg' with dst := bump a.dst (lengthenSigned a.dstBpl * last), dstBpl := -a.dstBpl } }

/-- `ComputeDirection` (R587). -/
def computeDirection (c : Config) (b : BitBltState) : BitBltState :=
  let b := if b.arg.flags.disjoint && decide (b.yDirection ≠ c.yPreference) then reverseLines c.yPreference b else b
  if b.arg.flags.disjoint || b.arg.flags.disjointItems then { b with xDirection := c.xPreference } else b

/-- The end of `Setup`: the brick line after which the brick wraps, and the first line (R584). -/
def bitBltStart (b : BitBltState) : BitBltState :=
  { b with
    lastGray := match b.yDirection with
      | .forward => b.gray.heightMinusOne.toNat - b.gray.yOffset.toNat
      | .backward => b.gray.yOffset.toNat
    line := match b.yDirection with
      | .forward => 0
      | .backward => b.arg.height - 1 }

/-- `Setup` from the argument record (R584); an `ERROR` is refused (U18; log 34). -/
def bitBltSetup (record : List Word) : Act BitBltState := do
  let a := bitBltArg record
  if bitBltError a then refuse .bitBltArgument
  else
    let s ← get
    return bitBltStart (computeDirection s.cfg (bitBltInitial a))

/-- The argument record at `ptr`, which must be aligned (R575, R586; log 34). -/
def bitBltRecord (ptr : Word) : Act (List Word) :=
  if ptr &&& 0x000F ≠ 0 then refuse .bitBltArgument else fetchRecord ptr 12

/-- The step after a line: the source and destination bit addresses and the line move on (R583). -/
def nextLine (b : BitBltState) : BitBltState :=
  let step : Long :=
    if b.arg.flags.gray then
      if b.line.toNat % b.gray.lines = b.lastGray then b.grayBump else lengthenSigned b.grayWidth
    else lengthenSigned b.arg.srcBpl
  { b with
    arg := { b.arg with src := bump b.arg.src step, dst := bump b.arg.dst (lengthenSigned b.arg.dstBpl) }
    line := match b.yDirection with
      | .forward => b.line + 1
      | .backward => b.line - 1 }

/-- `nextLine`, `n` times. -/
def skipLines : Nat → BitBltState → BitBltState
  | 0, b => b
  | n + 1, b => skipLines n (nextLine b)

/-- The offset of the source bit for a destination offset (R585). -/
def sourceOffset (b : BitBltState) (offset : Word) : Word :=
  if b.arg.flags.gray then
    let bit := b.arg.src.bit.toNat
    BitVec.ofInt 16 ((offset.toInt + bit) % b.grayWidth.toInt.natAbs - bit)
  else offset

/-- One bit of an item (R585). -/
def bitBltBit (b : BitBltState) (offset : Word) : Act Unit := do
  let d ← readBit b.arg.dst offset
  let v ← readBit b.arg.src (sourceOffset b offset)
  writeBit b.arg.dst offset (bitFunction b.arg.flags d v)

/-- The bits of an item from `offset` on, in the horizontal direction (R585). -/
def bitBltBits (b : BitBltState) : Nat → Word → Act Unit
  | 0, _ => return ()
  | n + 1, offset => do
    bitBltBit b offset
    bitBltBits b n (match b.xDirection with
      | .forward => offset + 1
      | .backward => offset - 1)

/-- `BitBltItem`: one line (R585). -/
def bitBltLine (b : BitBltState) : Act Unit :=
  bitBltBits b b.arg.width.toNat (match b.xDirection with
    | .forward => 0
    | .backward => b.arg.width - 1)

/-- `PushState`: the argument pointer, then the next line (R590, D16; log 36). -/
def bitBltPushState (ptr line : Word) (record : List Word) : Act Unit := do
  push ptr
  push line
  noteSuspension ptr record

/-- An item, with the restart of D15 (R591; log 35): it is tried first with no device acting, which finds every word it will touch; if it
cannot be completed, nothing of it happens, and when items before it are done the state is saved so that the restart begins at this
one. -/
def bitBltItem (ptr : Word) (record : List Word) (first : Bool) (b : BitBltState) : Act Unit := fun s =>
  match bitBltLine b { s with turns := [] } with
  | .ok _ _ => bitBltLine b s
  | .error (.exception e) _ =>
    if first then .error (.exception e) s
    else
      match bitBltPushState ptr b.line record s with
      | .ok _ t => .error (.exception e) { t with savedSP := t.sp }
      | .error r t => .error r t
  | .error r t => .error r t

/-- The main loop of BITBLT (R583). -/
def bitBltLines (ptr : Word) (record : List Word) : Nat → Bool → BitBltState → Act Unit
  | 0, _, _ => return ()
  | fuel + 1, first, b =>
    if b.line < b.arg.height then do
      bitBltItem ptr record first b
      let pending ← pollInterrupt
      if pending then
        bitBltPushState ptr (nextLine b).line record
        suspend
      else bitBltLines ptr record fuel false (nextLine b)
    else return ()

/-- Lines that always suffice: the height is at most 32767 (R575). -/
def bitBltFuel : Nat := 32768

/-- The state at line `line`, from the state `Setup` gives (R590, D16; log 36). -/
def bitBltResume (b : BitBltState) (line : Word) : BitBltState :=
  match b.yDirection with
  | .forward => skipLines (line - b.line).toNat b
  | .backward => skipLines (b.line - line).toNat b

/-- `BITBLT`, R583: a stack of one word is a first entry, else a restart. -/
def execBitblt (s : State) : StepResult := complete (s := s) do
  if s.sp = 1 then
    let ptr ← pop
    let record ← bitBltRecord ptr
    let b ← bitBltSetup record
    minimalStack
    bitBltLines ptr record bitBltFuel true b
  else
    let line ← pop
    let ptr ← pop
    let record ← bitBltRecord ptr
    checkRestart s ptr record
    let b ← bitBltSetup record
    minimalStack
    bitBltLines ptr record bitBltFuel true (bitBltResume b line)

end Sys2Proof.Machine
end

