-- ==== Sys2Proof/Machine/Block.lean ====
section
/-! DEFINITION. Word and byte block transfers, checksum and block compares (spec 46_block.md R530 to R552). Every routine is
one loop: pop the operands, move one unit, push the updated operands, test for interrupts (R532). The word block transfers
(R536 to R540) fetch the source word before they map its destination, an order that `Store(dest) <- Fetch(source)` leaves open (DESIGN
CHOICE, log 46). -/

namespace Sys2Proof.Machine

/-- Iterations that always suffice: a count is at most 65535 units, and one more ends the loop (R533). -/
def blockFuel : Nat := 65536

/-- The end of an iteration: suspend if an interrupt is pending (R531), else go on. It answers whether to go on. -/
def suspendOrContinue : Act Bool := do
  let pending ← pollInterrupt
  if pending then
    suspend
    return false
  else return true

/-- A block instruction: its iteration until it ends. -/
def blockLoop (iteration : Act Bool) : Act Unit := do
  let _ ← loop iteration blockFuel
  return ()

/-- One iteration of `BLT` (R536), the source first (DESIGN CHOICE, log 46). -/
def bltIteration : Act Bool := do
  let dest ← pop
  let count ← pop
  let source ← pop
  if count = 0 then return false
  else
    let w ← fetchMds source
    storeMds dest w
    push (source + 1)
    push (count - 1)
    push (dest + 1)
    suspendOrContinue

/-- `BLT`, R536. -/
def execBlt (s : State) : StepResult := complete (blockLoop bltIteration) s

/-- One iteration of `BLTL` (R537), the source first (log 46). -/
def bltlIteration : Act Bool := do
  let dest ← popLong
  let count ← pop
  let source ← popLong
  if count = 0 then return false
  else
    let w ← fetch source
    store dest w
    pushLong (source + 1)
    push (count - 1)
    pushLong (dest + 1)
    suspendOrContinue

/-- `BLTL`, R537. -/
def execBltl (s : State) : StepResult := complete (blockLoop bltlIteration) s

/-- The index of `BLTLR`: `count` as printed, `count - 1` with the bias (R538, D2; log 31). -/
def bltlrIndex (c : Config) (count : Word) : Long := lengthen (if c.bltlrBias then count - 1 else count)

/-- One iteration of `BLTLR` (R538), the source first (log 46): the pointers do not change. -/
def bltlrIteration : Act Bool := do
  let dest ← popLong
  let count ← pop
  let source ← popLong
  if count = 0 then return false
  else
    let s ← get
    let w ← fetch (source + bltlrIndex s.cfg count)
    store (dest + bltlrIndex s.cfg count) w
    pushLong source
    push (count - 1)
    pushLong dest
    suspendOrContinue

/-- `BLTLR`, R538. -/
def execBltlr (s : State) : StepResult := complete (blockLoop bltlrIteration) s

/-- One iteration of `BLTC` (R539), the source first (log 46): the source is an offset from the code base. -/
def bltcIteration : Act Bool := do
  let dest ← pop
  let count ← pop
  let source ← pop
  if count = 0 then return false
  else
    let w ← readCode source
    storeMds dest w
    push (source + 1)
    push (count - 1)
    push (dest + 1)
    suspendOrContinue

/-- `BLTC`, R539. -/
def execBltc (s : State) : StepResult := complete (blockLoop bltcIteration) s

/-- One iteration of `BLTCL` (R540), the source first (log 46). -/
def bltclIteration : Act Bool := do
  let dest ← popLong
  let count ← pop
  let source ← pop
  if count = 0 then return false
  else
    let w ← readCode source
    store dest w
    push (source + 1)
    push (count - 1)
    pushLong (dest + 1)
    suspendOrContinue

/-- `BLTCL`, R540. -/
def execBltcl (s : State) : StepResult := complete (blockLoop bltclIteration) s

/-- The final checksum: the ones' complement negative zero becomes 0 (R542). -/
def finalChecksum (cksum : Word) : Word := if cksum = 0xFFFF then 0 else cksum

/-- One iteration of `CKSUM` (R542): at the end the result is pushed. -/
def cksumIteration : Act Bool := do
  let source ← popLong
  let count ← pop
  let cksum ← pop
  if count = 0 then
    push (finalChecksum cksum)
    return false
  else
    let w ← fetch source
    push (checksumStep cksum w)
    push (count - 1)
    pushLong (source + 1)
    suspendOrContinue

/-- `CKSUM`, R542. -/
def execCksum (s : State) : StepResult := complete (blockLoop cksumIteration) s

/-- One iteration of `BLEL` (R545): it stops at the first difference. The word at `ptr1` is fetched first, which R545 leaves open
(DESIGN CHOICE, log 57). -/
def blelIteration : Act Bool := do
  let ptr1 ← popLong
  let count ← pop
  let ptr2 ← popLong
  if count = 0 then
    push (boolWord true)
    return false
  else
    let u ← fetch ptr1
    let v ← fetch ptr2
    if u = v then
      pushLong (ptr2 + 1)
      push (count - 1)
      pushLong (ptr1 + 1)
      suspendOrContinue
    else
      push (boolWord false)
      return false

/-- `BLEL`, R545. -/
def execBlel (s : State) : StepResult := complete (blockLoop blelIteration) s

/-- One iteration of `BLECL` (R546). The word at `ptr` is fetched before the code word, which R546 leaves open (DESIGN CHOICE,
log 57). -/
def bleclIteration : Act Bool := do
  let ptr ← popLong
  let count ← pop
  let offset ← pop
  if count = 0 then
    push (boolWord true)
    return false
  else
    let u ← fetch ptr
    let v ← readCode offset
    if u = v then
      push (offset + 1)
      push (count - 1)
      pushLong (ptr + 1)
      suspendOrContinue
    else
      push (boolWord false)
      return false

/-- `BLECL`, R546. -/
def execBlecl (s : State) : StepResult := complete (blockLoop bleclIteration) s

/-- A byte position: a word pointer and a byte offset from it. -/
structure BytePosition where
  base : Long
  offset : Word
  deriving DecidableEq, Repr

/-- The base takes up the whole words of the offset, which becomes 0 or 1 (R550, R552). -/
def normaliseByte (p : BytePosition) : BytePosition := ⟨p.base + lengthen (p.offset >>> 1), p.offset &&& 1⟩

/-- The next byte, for a normalised position (R550). -/
def nextByte (p : BytePosition) : BytePosition := if p.offset = 1 then ⟨p.base + 1, 0⟩ else ⟨p.base, 1⟩

/-- The byte before, for a normalised position (R551). -/
def previousByte (p : BytePosition) : BytePosition := if p.offset = 0 then ⟨p.base - 1, 1⟩ else ⟨p.base, 0⟩

/-- One iteration of a byte block transfer that goes on to the position `advance` gives (R550, R551). -/
def byteBlockIteration (advance : BytePosition → BytePosition) : Act Bool := do
  let sourceOffset ← pop
  let sourceBase ← popLong
  let count ← pop
  let destOffset ← pop
  let destBase ← popLong
  if count = 0 then return false
  else
    let source := normaliseByte ⟨sourceBase, sourceOffset⟩
    let dest := normaliseByte ⟨destBase, destOffset⟩
    let b ← fetchByte source.base (lengthen source.offset)
    storeByte dest.base (lengthen dest.offset) b
    pushLong (advance dest).base
    push (advance dest).offset
    push (count - 1)
    pushLong (advance source).base
    push (advance source).offset
    suspendOrContinue

/-- `BYTBLT`, R550. -/
def execBytblt (s : State) : StepResult := complete (blockLoop (byteBlockIteration nextByte)) s

/-- `BYTBLTR`, R551. -/
def execBytbltr (s : State) : StepResult := complete (blockLoop (byteBlockIteration previousByte)) s

end Sys2Proof.Machine
end

