-- ==== Sys2Proof/Machine/Extended.lean ====
section
/-! DEFINITION. The extended opcodes that no routine implements: they take EscOpcodeTrap
(spec 30_encoding.md R167, R169, R176; 41_stack.md R256). -/

namespace Sys2Proof.Machine

/-- `ESC` followed by an unassigned second byte (R167, R176). -/
def execEsc (second : Byte) (s : State) : StepResult := complete (raiseTrap (.escOpcodeTrap second)) s

/-- `ESCL` followed by an unassigned second byte (R167, R176); its operand byte is not fetched. -/
def execEscl (second : Byte) (s : State) : StepResult := complete (raiseTrap (.escOpcodeTrap second)) s

/-- `NILCK`: no routine in the source, so the ESC opcode of that value, 0x25, is unimplemented (R256; log 42). -/
def execNilck (s : State) : StepResult := 
  complete (raiseTrap (.escOpcodeTrap (s.cfg.opcodes.secondBack escByte 0x25))) s

end Sys2Proof.Machine
end

