-- ==== Sys2Proof/Machine/Frame.lean ====
section
/-! DEFINITION. The immediate and frame instructions (spec 43_immediate_frame.md R360 to R396). Sums of short pointers are
modulo 2^16 (20_memory.md R132). -/

namespace Sys2Proof.Machine

/-- Load the word at a short pointer (R373, R390). -/
def loadMds (ptr : Word) : Act Unit := do
  let w ← fetchMds ptr
  push w

/-- Load two words: the one at the lower address is pushed before the other is fetched (R375, R392). -/
def loadDoubleMds (ptr : Word) : Act Unit := do
  let u ← fetchMds ptr
  push u
  let v ← fetchMds (ptr + 1)
  push v

/-- Store two words: the top word goes to the higher address, first (R379, R395). -/
def storeDoubleMds (ptr : Word) : Act Unit := do
  storeMdsPop (ptr + 1)
  storeMdsPop ptr

/-- Store the top word and keep it on the stack (R381). -/
def putMds (ptr : Word) : Act Unit := do
  storeMdsPop ptr
  recover

/-- Store the top two words and keep them on the stack (R383). -/
def putDoubleMds (ptr : Word) : Act Unit := do
  storeDoubleMds ptr
  recover
  recover

/-- `LIN1`, R362. -/
def execLin1 (s : State) : StepResult := complete (push 0xFFFF) s

/-- `LINI`, R363. -/
def execLini (s : State) : StepResult := complete (push 0x8000) s

/-- `LID0`, R364. -/
def execLid0 (s : State) : StepResult := complete (pushLong 0) s

/-- `LI0`, R365. -/
def execLi0 (s : State) : StepResult := complete (push 0) s

/-- `LI1`, R365. -/
def execLi1 (s : State) : StepResult := complete (push 1) s

/-- `LI2`, R365. -/
def execLi2 (s : State) : StepResult := complete (push 2) s

/-- `LI3`, R365. -/
def execLi3 (s : State) : StepResult := complete (push 3) s

/-- `LI4`, R365. -/
def execLi4 (s : State) : StepResult := complete (push 4) s

/-- `LI5`, R365. -/
def execLi5 (s : State) : StepResult := complete (push 5) s

/-- `LI6`, R365. -/
def execLi6 (s : State) : StepResult := complete (push 6) s

/-- `LI7`, R365. -/
def execLi7 (s : State) : StepResult := complete (push 7) s

/-- `LI8`, R365. -/
def execLi8 (s : State) : StepResult := complete (push 8) s

/-- `LI9`, R365. -/
def execLi9 (s : State) : StepResult := complete (push 9) s

/-- `LI10`, R365. -/
def execLi10 (s : State) : StepResult := complete (push 10) s

/-- `LIB`, R366. -/
def execLib (alpha : Byte) (s : State) : StepResult := complete (push (byteWord alpha)) s

/-- `LINB`, R367: not sign-extended. -/
def execLinb (alpha : Byte) (s : State) : StepResult := complete (push ((0xFF : Byte) ++ alpha)) s

/-- `LIHB`, R368. -/
def execLihb (alpha : Byte) (s : State) : StepResult := complete (push (alpha ++ (0 : Byte))) s

/-- `LIW`, R369. -/
def execLiw (word : Word) (s : State) : StepResult := complete (push word) s

/-- `LA0`, R370. -/
def execLa0 (s : State) : StepResult := complete (push s.lf) s

/-- `LA1`, R370. -/
def execLa1 (s : State) : StepResult := complete (push (s.lf + 1)) s

/-- `LA2`, R370. -/
def execLa2 (s : State) : StepResult := complete (push (s.lf + 2)) s

/-- `LA3`, R370. -/
def execLa3 (s : State) : StepResult := complete (push (s.lf + 3)) s

/-- `LA6`, R370. -/
def execLa6 (s : State) : StepResult := complete (push (s.lf + 6)) s

/-- `LA8`, R370. -/
def execLa8 (s : State) : StepResult := complete (push (s.lf + 8)) s

/-- `LAB`, R371. -/
def execLab (alpha : Byte) (s : State) : StepResult := complete (push (s.lf + byteWord alpha)) s

/-- `LAW`, R372. -/
def execLaw (word : Word) (s : State) : StepResult := complete (push (s.lf + word)) s

/-- `LL0`, R373. -/
def execLl0 (s : State) : StepResult := complete (loadMds s.lf) s

/-- `LL1`, R373. -/
def execLl1 (s : State) : StepResult := complete (loadMds (s.lf + 1)) s

/-- `LL2`, R373. -/
def execLl2 (s : State) : StepResult := complete (loadMds (s.lf + 2)) s

/-- `LL3`, R373. -/
def execLl3 (s : State) : StepResult := complete (loadMds (s.lf + 3)) s

/-- `LL4`, R373. -/
def execLl4 (s : State) : StepResult := complete (loadMds (s.lf + 4)) s

/-- `LL5`, R373. -/
def execLl5 (s : State) : StepResult := complete (loadMds (s.lf + 5)) s

/-- `LL6`, R373. -/
def execLl6 (s : State) : StepResult := complete (loadMds (s.lf + 6)) s

/-- `LL7`, R373. -/
def execLl7 (s : State) : StepResult := complete (loadMds (s.lf + 7)) s

/-- `LL8`, R373. -/
def execLl8 (s : State) : StepResult := complete (loadMds (s.lf + 8)) s

/-- `LL9`, R373. -/
def execLl9 (s : State) : StepResult := complete (loadMds (s.lf + 9)) s

/-- `LL10`, R373. -/
def execLl10 (s : State) : StepResult := complete (loadMds (s.lf + 10)) s

/-- `LL11`, R373. -/
def execLl11 (s : State) : StepResult := complete (loadMds (s.lf + 11)) s

/-- `LLB`, R374. -/
def execLlb (alpha : Byte) (s : State) : StepResult := complete (loadMds (s.lf + byteWord alpha)) s

/-- `LLD0`, R375. -/
def execLld0 (s : State) : StepResult := complete (loadDoubleMds s.lf) s

/-- `LLD1`, R375. -/
def execLld1 (s : State) : StepResult := complete (loadDoubleMds (s.lf + 1)) s

/-- `LLD2`, R375. -/
def execLld2 (s : State) : StepResult := complete (loadDoubleMds (s.lf + 2)) s

/-- `LLD3`, R375. -/
def execLld3 (s : State) : StepResult := complete (loadDoubleMds (s.lf + 3)) s

/-- `LLD4`, R375. -/
def execLld4 (s : State) : StepResult := complete (loadDoubleMds (s.lf + 4)) s

/-- `LLD5`, R375. -/
def execLld5 (s : State) : StepResult := complete (loadDoubleMds (s.lf + 5)) s

/-- `LLD6`, R375. -/
def execLld6 (s : State) : StepResult := complete (loadDoubleMds (s.lf + 6)) s

/-- `LLD7`, R375. -/
def execLld7 (s : State) : StepResult := complete (loadDoubleMds (s.lf + 7)) s

/-- `LLD8`, R375. -/
def execLld8 (s : State) : StepResult := complete (loadDoubleMds (s.lf + 8)) s

/-- `LLD10`, R375. -/
def execLld10 (s : State) : StepResult := complete (loadDoubleMds (s.lf + 10)) s

/-- `LLDB`, R376. -/
def execLldb (alpha : Byte) (s : State) : StepResult := complete (loadDoubleMds (s.lf + byteWord alpha)) s

/-- `SL0`, R377. -/
def execSl0 (s : State) : StepResult := complete (storeMdsPop s.lf) s

/-- `SL1`, R377. -/
def execSl1 (s : State) : StepResult := complete (storeMdsPop (s.lf + 1)) s

/-- `SL2`, R377. -/
def execSl2 (s : State) : StepResult := complete (storeMdsPop (s.lf + 2)) s

/-- `SL3`, R377. -/
def execSl3 (s : State) : StepResult := complete (storeMdsPop (s.lf + 3)) s

/-- `SL4`, R377. -/
def execSl4 (s : State) : StepResult := complete (storeMdsPop (s.lf + 4)) s

/-- `SL5`, R377. -/
def execSl5 (s : State) : StepResult := complete (storeMdsPop (s.lf + 5)) s

/-- `SL6`, R377. -/
def execSl6 (s : State) : StepResult := complete (storeMdsPop (s.lf + 6)) s

/-- `SL7`, R377. -/
def execSl7 (s : State) : StepResult := complete (storeMdsPop (s.lf + 7)) s

/-- `SL8`, R377. -/
def execSl8 (s : State) : StepResult := complete (storeMdsPop (s.lf + 8)) s

/-- `SL9`, R377. -/
def execSl9 (s : State) : StepResult := complete (storeMdsPop (s.lf + 9)) s

/-- `SL10`, R377. -/
def execSl10 (s : State) : StepResult := complete (storeMdsPop (s.lf + 10)) s

/-- `SLB`, R378. -/
def execSlb (alpha : Byte) (s : State) : StepResult := complete (storeMdsPop (s.lf + byteWord alpha)) s

/-- `SLD0`, R379. -/
def execSld0 (s : State) : StepResult := complete (storeDoubleMds s.lf) s

/-- `SLD1`, R379. -/
def execSld1 (s : State) : StepResult := complete (storeDoubleMds (s.lf + 1)) s

/-- `SLD2`, R379. -/
def execSld2 (s : State) : StepResult := complete (storeDoubleMds (s.lf + 2)) s

/-- `SLD3`, R379. -/
def execSld3 (s : State) : StepResult := complete (storeDoubleMds (s.lf + 3)) s

/-- `SLD4`, R379. -/
def execSld4 (s : State) : StepResult := complete (storeDoubleMds (s.lf + 4)) s

/-- `SLD5`, R379. -/
def execSld5 (s : State) : StepResult := complete (storeDoubleMds (s.lf + 5)) s

/-- `SLD6`, R379. -/
def execSld6 (s : State) : StepResult := complete (storeDoubleMds (s.lf + 6)) s

/-- `SLD8`, R379. -/
def execSld8 (s : State) : StepResult := complete (storeDoubleMds (s.lf + 8)) s

/-- `SLDB`, R380. -/
def execSldb (alpha : Byte) (s : State) : StepResult := complete (storeDoubleMds (s.lf + byteWord alpha)) s

/-- `PL0`, R381. -/
def execPl0 (s : State) : StepResult := complete (putMds s.lf) s

/-- `PL1`, R381. -/
def execPl1 (s : State) : StepResult := complete (putMds (s.lf + 1)) s

/-- `PL2`, R381. -/
def execPl2 (s : State) : StepResult := complete (putMds (s.lf + 2)) s

/-- `PL3`, R381. -/
def execPl3 (s : State) : StepResult := complete (putMds (s.lf + 3)) s

/-- `PLB`, R382. -/
def execPlb (alpha : Byte) (s : State) : StepResult := complete (putMds (s.lf + byteWord alpha)) s

/-- `PLD0`, R383. -/
def execPld0 (s : State) : StepResult := complete (putDoubleMds s.lf) s

/-- `PLDB`, R384. -/
def execPldb (alpha : Byte) (s : State) : StepResult := complete (putDoubleMds (s.lf + byteWord alpha)) s

/-- `AL0IB`, R385. -/
def execAl0ib (alpha : Byte) (s : State) : StepResult := complete (s := s) do
  let w ← fetchMds s.lf
  push (w + byteWord alpha)

/-- `GA0`, R386. -/
def execGa0 (s : State) : StepResult := complete (push s.gf) s

/-- `GA1`, R386. -/
def execGa1 (s : State) : StepResult := complete (push (s.gf + 1)) s

/-- `GAB`, R387. -/
def execGab (alpha : Byte) (s : State) : StepResult := complete (push (s.gf + byteWord alpha)) s

/-- `GAW`, R388. -/
def execGaw (word : Word) (s : State) : StepResult := complete (push (s.gf + word)) s

/-- `LG0`, R390. -/
def execLg0 (s : State) : StepResult := complete (loadMds s.gf) s

/-- `LG1`, R390. -/
def execLg1 (s : State) : StepResult := complete (loadMds (s.gf + 1)) s

/-- `LG2`, R390. -/
def execLg2 (s : State) : StepResult := complete (loadMds (s.gf + 2)) s

/-- `LGB`, R391. -/
def execLgb (alpha : Byte) (s : State) : StepResult := complete (loadMds (s.gf + byteWord alpha)) s

/-- `LGD0`, R392. -/
def execLgd0 (s : State) : StepResult := complete (loadDoubleMds s.gf) s

/-- `LGD2`, R392. -/
def execLgd2 (s : State) : StepResult := complete (loadDoubleMds (s.gf + 2)) s

/-- `LGDB`, R393. -/
def execLgdb (alpha : Byte) (s : State) : StepResult := complete (loadDoubleMds (s.gf + byteWord alpha)) s

/-- `SGB`, R394. -/
def execSgb (alpha : Byte) (s : State) : StepResult := complete (storeMdsPop (s.gf + byteWord alpha)) s

/-- `SGDB`, R395. -/
def execSgdb (alpha : Byte) (s : State) : StepResult := complete (storeDoubleMds (s.gf + byteWord alpha)) s

end Sys2Proof.Machine
end

