-- ==== Sys2Proof/Machine/Jump.lean ====
section
/-! DEFINITION. The jump instructions (spec 42_jump.md R310 to R352). When a meaning runs, `PC` is already past the
instruction and `savedPC` is its first byte (R311, R312). -/

namespace Sys2Proof.Machine

/-- A jump that is taken adds the displacement to `savedPC`; one that is not leaves `PC` as it is (R311, R312). -/
def jumpIf (taken : Bool) (disp : Word) : Act Unit := if taken then jumpBy disp else return ()

/-- A jump on the top word. -/
def jumpOnWord (test : Word → Bool) (disp : Word) : Act Unit := do
  let u ← pop
  jumpIf (test u) disp

/-- A jump on the top two words `u v`; `v` is on top. -/
def jumpOnPair (test : Word → Word → Bool) (disp : Word) : Act Unit := do
  let v ← pop
  let u ← pop
  jumpIf (test u v) disp

/-- A jump on the top two double words `u v`; `v` is on top. -/
def jumpOnLongPair (test : Long → Long → Bool) (disp : Word) : Act Unit := do
  let v ← popLong
  let u ← popLong
  jumpIf (test u v) disp

/-- The displacement of `JEP` and `JNEP`: 4 to 19 (R333). -/
def pairDisplacement (p : NibblePair) : Word := nibbleWord p.right + 4

/-- `J2`, R318. -/
def execJ2 (s : State) : StepResult := complete (jumpBy 2) s

/-- `J3`, R318. -/
def execJ3 (s : State) : StepResult := complete (jumpBy 3) s

/-- `J4`, R318. -/
def execJ4 (s : State) : StepResult := complete (jumpBy 4) s

/-- `J5`, R318. -/
def execJ5 (s : State) : StepResult := complete (jumpBy 5) s

/-- `J6`, R318. -/
def execJ6 (s : State) : StepResult := complete (jumpBy 6) s

/-- `J7`, R318. -/
def execJ7 (s : State) : StepResult := complete (jumpBy 7) s

/-- `J8`, R318. -/
def execJ8 (s : State) : StepResult := complete (jumpBy 8) s

/-- `JZ3`, R325. -/
def execJz3 (s : State) : StepResult := complete (jumpOnWord (fun u => decide (u = 0)) 3) s

/-- `JZ4`, R325. -/
def execJz4 (s : State) : StepResult := complete (jumpOnWord (fun u => decide (u = 0)) 4) s

/-- `JNZ3`, R326. -/
def execJnz3 (s : State) : StepResult := complete (jumpOnWord (fun u => decide (u ≠ 0)) 3) s

/-- `JNZ4`, R326. -/
def execJnz4 (s : State) : StepResult := complete (jumpOnWord (fun u => decide (u ≠ 0)) 4) s

/-- `JB`, R319. -/
def execJb (alpha : Byte) (s : State) : StepResult := complete (jumpBy (signExtendByte alpha)) s

/-- `JW`, R320. -/
def execJw (word : Word) (s : State) : StepResult := complete (jumpBy word) s

/-- `JS`, R321: an absolute byte offset from `CB`. -/
def execJs (s : State) : StepResult := complete (s := s) do
  let target ← pop
  modify fun t => { t with pc := target }

/-- `CATCH`, R322: a no-operation; its operand byte is ignored. -/
def execCatchPhrase (_alpha : Byte) (s : State) : StepResult := complete (return ()) s

/-- `JZB`, R327. -/
def execJzb (alpha : Byte) (s : State) : StepResult :=
  complete (jumpOnWord (fun u => decide (u = 0)) (signExtendByte alpha)) s

/-- `JNZB`, R328. -/
def execJnzb (alpha : Byte) (s : State) : StepResult :=
  complete (jumpOnWord (fun u => decide (u ≠ 0)) (signExtendByte alpha)) s

/-- `JEB`, R329. -/
def execJeb (alpha : Byte) (s : State) : StepResult :=
  complete (jumpOnPair (fun u v => decide (u = v)) (signExtendByte alpha)) s

/-- `JNEB`, R330. -/
def execJneb (alpha : Byte) (s : State) : StepResult :=
  complete (jumpOnPair (fun u v => decide (u ≠ v)) (signExtendByte alpha)) s

/-- `JDEB`, R331. -/
def execJdeb (alpha : Byte) (s : State) : StepResult :=
  complete (jumpOnLongPair (fun u v => decide (u = v)) (signExtendByte alpha)) s

/-- `JDNEB`, R332. -/
def execJdneb (alpha : Byte) (s : State) : StepResult :=
  complete (jumpOnLongPair (fun u v => decide (u ≠ v)) (signExtendByte alpha)) s

/-- `JEP`, R333. -/
def execJep (pair : NibblePair) (s : State) : StepResult :=
  complete (jumpOnWord (fun u => decide (u = nibbleWord pair.left)) (pairDisplacement pair)) s

/-- `JNEP`, R334. -/
def execJnep (pair : NibblePair) (s : State) : StepResult :=
  complete (jumpOnWord (fun u => decide (u ≠ nibbleWord pair.left)) (pairDisplacement pair)) s

/-- `JEBB`, R335: the constant is zero-extended, the displacement sign-extended. -/
def execJebb (byte disp : Byte) (s : State) : StepResult :=
  complete (jumpOnWord (fun u => decide (u = byteWord byte)) (signExtendByte disp)) s

/-- `JNEBB`, R336. -/
def execJnebb (byte disp : Byte) (s : State) : StepResult :=
  complete (jumpOnWord (fun u => decide (u ≠ byteWord byte)) (signExtendByte disp)) s

/-- `JLB`, R338: signed. -/
def execJlb (alpha : Byte) (s : State) : StepResult :=
  complete (jumpOnPair (fun j k => decide (j.toInt < k.toInt)) (signExtendByte alpha)) s

/-- `JLEB`, R339: signed. -/
def execJleb (alpha : Byte) (s : State) : StepResult :=
  complete (jumpOnPair (fun j k => decide (j.toInt ≤ k.toInt)) (signExtendByte alpha)) s

/-- `JGB`, R340: signed. -/
def execJgb (alpha : Byte) (s : State) : StepResult :=
  complete (jumpOnPair (fun j k => decide (k.toInt < j.toInt)) (signExtendByte alpha)) s

/-- `JGEB`, R341: signed. -/
def execJgeb (alpha : Byte) (s : State) : StepResult :=
  complete (jumpOnPair (fun j k => decide (k.toInt ≤ j.toInt)) (signExtendByte alpha)) s

/-- `JULB`, R343: unsigned. -/
def execJulb (alpha : Byte) (s : State) : StepResult :=
  complete (jumpOnPair (fun u v => decide (u < v)) (signExtendByte alpha)) s

/-- `JULEB`, R344: unsigned. -/
def execJuleb (alpha : Byte) (s : State) : StepResult :=
  complete (jumpOnPair (fun u v => decide (u ≤ v)) (signExtendByte alpha)) s

/-- `JUGB`, R345: unsigned. -/
def execJugb (alpha : Byte) (s : State) : StepResult :=
  complete (jumpOnPair (fun u v => decide (v < u)) (signExtendByte alpha)) s

/-- `JUGEB`, R346: unsigned. -/
def execJugeb (alpha : Byte) (s : State) : StepResult :=
  complete (jumpOnPair (fun u v => decide (v ≤ u)) (signExtendByte alpha)) s

/-- `JIB`, R351: the table is in the code segment, two entries a word, zero-extended. -/
def execJib (word : Word) (s : State) : StepResult := complete (s := s) do
  let limit ← pop
  let index ← pop
  if index < limit then
    let disp ← readCode (word + (index >>> 1))
    jumpBy (byteWord (if index.getLsbD 0 then Word.right disp else Word.left disp))
  else return ()

/-- `JIW`, R352: one entry a code word. -/
def execJiw (word : Word) (s : State) : StepResult := complete (s := s) do
  let limit ← pop
  let index ← pop
  if index < limit then
    let disp ← readCode (word + index)
    jumpBy disp
  else return ()

end Sys2Proof.Machine
end

