-- ==== Sys2Proof/Machine/MapRegister.lean ====
section
/-! DEFINITION. The map, pointer, overhead and register instructions (spec 40_map_pointer_register.md R200 to R227). -/

namespace Sys2Proof.Machine

/-- Another virtual page than `vp` is mapped to real page `rp` (R106): a listed one, or the unlisted one of that number. -/
def aliased (s : State) (vp : Nat) (rp : Long) : Bool :=
  let maps (p : Nat) : Bool := decide (p ≠ vp) && !(s.readMap p).isVacant && decide ((s.readMap p).real = rp)
  maps rp.toNat || s.map.any fun p => maps p.1

/-- The flags `new` for page `vp` would unmap the page under `PC`, clear its `referenced` bit or change its `dirty` bit
(R125). -/
def codePageViolation (s : State) (vp : Nat) (new : Word) : Bool :=
  let old := s.readMap vp
  decide (vp = s.codePage) && !old.isVacant &&
    (vacantFlags new || (old.isReferenced && !new.getLsbD 0) || (old.isDirty != new.getLsbD 1))

/-- `WriteMap` by a program: refused where the change is illegal (R106, R125; log 16, 17). A page outside the implemented virtual
memory is not written, so nothing is illegal there (R102, D3; log 14). -/
def writeMap (vp : Long) (flags : Word) (real : Long) : Act Unit := do
  let s ← get
  if !s.cfg.virtualPage vp.toNat then return ()
  else if !vacantFlags flags && aliased s vp.toNat real then refuse .aliasedRealPage
  else if codePageViolation s vp.toNat flags then refuse .currentCodePage
  else set (s.writeMap vp.toNat flags real)

/-- The real page number that a program reads from a map entry: a free value for a vacant one (R201, U21; log 21). -/
def realPageResult (e : MapEntry) : Act Long := if e.isVacant then freeLong else return e.real

/-- `SM`, R200. -/
def execSm (s : State) : StepResult := complete (s := s) do
  let mf ← pop
  let rp ← popLong
  let vp ← popLong
  writeMap vp mf rp

/-- `GMF`, R201: it does not set `referenced`. -/
def execGmf (s : State) : StepResult := complete (s := s) do
  let vp ← popLong
  let t ← get
  let e := t.readMap vp.toNat
  push e.flags
  let rp ← realPageResult e
  pushLong rp

/-- `SMF`, R202: a vacant entry stays as it is. -/
def execSmf (s : State) : StepResult := complete (s := s) do
  let newMf ← pop
  let vp ← popLong
  let t ← get
  let e := t.readMap vp.toNat
  push e.flags
  let rp ← realPageResult e
  pushLong rp
  if e.isVacant then return () else writeMap vp newMf e.real

/-- `LP`, R204: short NIL becomes long NIL. -/
def execLp (s : State) : StepResult := complete (s := s) do
  let ptr ← pop
  let t ← get
  pushLong (if ptr = 0 then 0 else t.lengthenPointer ptr)

/-- `ROB`, R205; an operand byte outside [1..4] is refused (U14; log 23). -/
def execRob (alpha : Byte) (s : State) : StepResult := complete (s := s) do
  let ptr ← pop
  if overheadOffsetWellFormed alpha then
    let t ← get
    let w ← fetchOverhead (t.lengthenPointer (ptr - byteWord alpha))
    push w
  else refuse .reservedOperand

/-- `WOB`, R206: the destination is mapped for writing, then the data is popped (log 46). -/
def execWob (alpha : Byte) (s : State) : StepResult := complete (s := s) do
  let ptr ← pop
  if overheadOffsetWellFormed alpha then
    let t ← get
    storeOverheadPop (t.lengthenPointer (ptr - byteWord alpha))
  else refuse .reservedOperand

/-- `RRIT`, R212. -/
def execRrit (s : State) : StepResult := complete (pushLong s.it) s

/-- `RRMDS`, R213: the bank number of the main data space. -/
def execRrmds (s : State) : StepResult := complete (push (Long.high s.mds)) s

/-- `Handle` of R214: the open codec on valid indexes, else an open value (log 24). -/
def psbHandle (index : Word) : Word :=
  if Config.psbIndexValid index then Config.psbCodec index else Config.psbHandleOther index

/-- `Index` of R222: the inverse of `Handle` on the handles of valid indexes (log 24). -/
def psbIndex (handle : Word) : Word :=
  if Config.psbIndexValid (Config.psbCodec.symm handle) then Config.psbCodec.symm handle
  else Config.psbIndexOther handle

/-- `RRPSB`, R214. -/
def execRrpsb (s : State) : StepResult := complete (push (psbHandle s.psb)) s

/-- `RRPTC`, R215. -/
def execRrptc (s : State) : StepResult := complete (push s.ptc) s

/-- `RRWDC`, R216. -/
def execRrwdc (s : State) : StepResult := complete (push s.wdc) s

/-- `RRWP`, R217. -/
def execRrwp (s : State) : StepResult := complete (push s.wp) s

/-- `RRXTS`, R218. -/
def execRrxts (s : State) : StepResult := complete (push s.xts) s

/-- `WRIT`, R219. -/
def execWrit (s : State) : StepResult := complete (s := s) do
  let v ← popLong
  modify fun t => { t with it := v }

/-- `WRMDS`, R220: the low half of `MDS` is 0. That matching local and global frames "must exist in the new MDS" is not tested: the
model goes on in the new space with whatever stands there (DESIGN CHOICE, unsafe; R4, U1; log 61). -/
def execWrmds (s : State) : StepResult := complete (s := s) do
  let v ← pop
  modify fun t => { t with mds := Long.ofHalves v 0 }

/-- `WRMP`, R221: without a maintenance panel the word is dropped (D11; log 29). -/
def execWrmp (s : State) : StepResult := complete (s := s) do
  let v ← pop
  modify fun t => if t.cfg.hasMp then { t with mp := v } else t

/-- `WRPSB`, R222. -/
def execWrpsb (s : State) : StepResult := complete (s := s) do
  let v ← pop
  modify fun t => { t with psb := psbIndex v }

/-- `WRPTC`, R223: `time` takes the value of `IT`. -/
def execWrptc (s : State) : StepResult := complete (s := s) do
  let v ← pop
  modify fun t => { t with ptc := v, time := t.it }

/-- `WRWDC`, R224. -/
def execWrwdc (s : State) : StepResult := complete (s := s) do
  let v ← pop
  modify fun t => { t with wdc := v }

/-- `WRWP`, R225: the whole register is replaced; a wakeup that a device raises during the instruction may be kept or lost, bit by bit
an open value (R747, U15; log 28). -/
def execWrwp (s : State) : StepResult := complete (s := s) do
  let v ← pop
  let t ← get
  match t.turns with
  | [] => set { t with wp := v }
  | d :: _ =>
    deviceTurn
    let kept ← freeWord
    modify fun u => { u with wp := v ||| (d.wakeups &&& kept) }

/-- `WRXTS`, R226. -/
def execWrxts (s : State) : StepResult := complete (s := s) do
  let v ← pop
  modify fun t => { t with xts := v }

end Sys2Proof.Machine
end

