-- ==== Sys2Proof/Machine/Pointer.lean ====
section
/-! DEFINITION. The pointer instructions (spec 44_pointer.md R420 to R462). Short-pointer sums are modulo 2^16, long-pointer
sums modulo 2^32 (R421). -/

namespace Sys2Proof.Machine

/-- Load the word at a virtual address (R424). -/
def loadLong (va : Long) : Act Unit := do
  let w ← fetch va
  push w

/-- Fetch two words through short pointers, then push both (R426). -/
def readDoubleMds (ptr : Word) : Act Unit := do
  let u ← fetchMds ptr
  let v ← fetchMds (ptr + 1)
  push u
  push v

/-- Fetch two words through long pointers, then push both (R428). -/
def readDoubleLong (va : Long) : Act Unit := do
  let u ← fetch va
  let v ← fetch (va + 1)
  push u
  push v

/-- Store two words through long pointers, the top word at the higher address, first (R436). -/
def storeDoubleLong (va : Long) : Act Unit := do
  storePop (va + 1)
  storePop va

/-- The read direct forms with a short pointer (R422, R423). -/
def readDirect (offset : Word) : Act Unit := do
  let ptr ← pop
  loadMds (ptr + offset)

/-- The read direct forms with a long pointer (R424, R425). -/
def readDirectLong (offset : Long) : Act Unit := do
  let ptr ← popLong
  loadLong (ptr + offset)

/-- The double read direct forms with a short pointer (R426, R427). -/
def readDirectDouble (offset : Word) : Act Unit := do
  let ptr ← pop
  readDoubleMds (ptr + offset)

/-- The double read direct forms with a long pointer (R428, R429). -/
def readDirectDoubleLong (offset : Long) : Act Unit := do
  let ptr ← popLong
  readDoubleLong (ptr + offset)

/-- `R0`, R422. -/
def execR0 (s : State) : StepResult := complete (readDirect 0) s

/-- `R1`, R422. -/
def execR1 (s : State) : StepResult := complete (readDirect 1) s

/-- `RB`, R423. -/
def execRb (alpha : Byte) (s : State) : StepResult := complete (readDirect (byteWord alpha)) s

/-- `RL0`, R424. -/
def execRl0 (s : State) : StepResult := complete (readDirectLong 0) s

/-- `RLB`, R425. -/
def execRlb (alpha : Byte) (s : State) : StepResult := complete (readDirectLong (byteLong alpha)) s

/-- `RD0`, R426. -/
def execRd0 (s : State) : StepResult := complete (readDirectDouble 0) s

/-- `RDB`, R427. -/
def execRdb (alpha : Byte) (s : State) : StepResult := complete (readDirectDouble (byteWord alpha)) s

/-- `RDL0`, R428. -/
def execRdl0 (s : State) : StepResult := complete (readDirectDoubleLong 0) s

/-- `RDLB`, R429. -/
def execRdlb (alpha : Byte) (s : State) : StepResult := complete (readDirectDoubleLong (byteLong alpha)) s

/-- `RC`, R430: a word offset into the code segment. -/
def execRc (alpha : Byte) (s : State) : StepResult := complete (s := s) do
  let offset ← pop
  let w ← readCode (offset + byteWord alpha)
  push w

/-- The write direct forms with a short pointer (R432, R433): the pointer is on top. -/
def writeDirect (offset : Word) : Act Unit := do
  let ptr ← pop
  storeMdsPop (ptr + offset)

/-- `W0`, R432. -/
def execW0 (s : State) : StepResult := complete (writeDirect 0) s

/-- `WB`, R433. -/
def execWb (alpha : Byte) (s : State) : StepResult := complete (writeDirect (byteWord alpha)) s

/-- `WLB`, R434. -/
def execWlb (alpha : Byte) (s : State) : StepResult := complete (s := s) do
  let ptr ← popLong
  storePop (ptr + byteLong alpha)

/-- `WDB`, R435. -/
def execWdb (alpha : Byte) (s : State) : StepResult := complete (s := s) do
  let ptr ← pop
  storeDoubleMds (ptr + byteWord alpha)

/-- `WDLB`, R436. -/
def execWdlb (alpha : Byte) (s : State) : StepResult := complete (s := s) do
  let ptr ← popLong
  storeDoubleLong (ptr + byteLong alpha)

/-- The double put swapped forms with a short pointer (R441, R442): the pointer is recovered. -/
def putSwappedDouble (offset : Word) : Act Unit := do
  let v ← pop
  let u ← pop
  let ptr ← pop
  storeMds (ptr + offset + 1) v
  storeMds (ptr + offset) u
  recover

/-- `PSB`, R440. -/
def execPsb (alpha : Byte) (s : State) : StepResult := complete (s := s) do
  let u ← pop
  let ptr ← pop
  storeMds (ptr + byteWord alpha) u
  recover

/-- `PSD0`, R441. -/
def execPsd0 (s : State) : StepResult := complete (putSwappedDouble 0) s

/-- `PSDB`, R442. -/
def execPsdb (alpha : Byte) (s : State) : StepResult := complete (putSwappedDouble (byteWord alpha)) s

/-- `PSLB`, R443. -/
def execPslb (alpha : Byte) (s : State) : StepResult := complete (s := s) do
  let u ← pop
  let ptr ← popLong
  store (ptr + byteLong alpha) u
  recover
  recover

/-- `PSDLB`, R444. -/
def execPsdlb (alpha : Byte) (s : State) : StepResult := complete (s := s) do
  let v ← pop
  let u ← pop
  let ptr ← popLong
  store (ptr + byteLong alpha + 1) v
  store (ptr + byteLong alpha) u
  recover
  recover

/-- The read indirect forms with a short pointer in a frame (R450, R451, R453). -/
def readIndirect (base : Word) (offset : Word) : Act Unit := do
  let ptr ← fetchMds base
  loadMds (ptr + offset)

/-- The read indirect forms with a long pointer in a frame (R452, R454). -/
def readIndirectLong (base : Word) (offset : Long) : Act Unit := do
  let ptr ← readDblMds base
  loadLong (ptr + offset)

/-- The double read indirect forms with a short pointer in a frame (R455, R456). -/
def readIndirectDouble (base : Word) (offset : Word) : Act Unit := do
  let ptr ← fetchMds base
  readDoubleMds (ptr + offset)

/-- `RLI00`, R450. -/
def execRli00 (s : State) : StepResult := complete (readIndirect s.lf 0) s

/-- `RLI01`, R450. -/
def execRli01 (s : State) : StepResult := complete (readIndirect s.lf 1) s

/-- `RLI02`, R450. -/
def execRli02 (s : State) : StepResult := complete (readIndirect s.lf 2) s

/-- `RLI03`, R450. -/
def execRli03 (s : State) : StepResult := complete (readIndirect s.lf 3) s

/-- `RLIP`, R451. -/
def execRlip (pair : NibblePair) (s : State) : StepResult :=
  complete (readIndirect (s.lf + nibbleWord pair.left) (nibbleWord pair.right)) s

/-- `RLILP`, R452. -/
def execRlilp (pair : NibblePair) (s : State) : StepResult :=
  complete (readIndirectLong (s.lf + nibbleWord pair.left) (nibbleLong pair.right)) s

/-- `RGIP`, R453. -/
def execRgip (pair : NibblePair) (s : State) : StepResult :=
  complete (readIndirect (s.gf + nibbleWord pair.left) (nibbleWord pair.right)) s

/-- `RGILP`, R454. -/
def execRgilp (pair : NibblePair) (s : State) : StepResult :=
  complete (readIndirectLong (s.gf + nibbleWord pair.left) (nibbleLong pair.right)) s

/-- `RLDI00`, R455. -/
def execRldi00 (s : State) : StepResult := complete (readIndirectDouble s.lf 0) s

/-- `RLDIP`, R456. -/
def execRldip (pair : NibblePair) (s : State) : StepResult :=
  complete (readIndirectDouble (s.lf + nibbleWord pair.left) (nibbleWord pair.right)) s

/-- `RLDILP`, R457. -/
def execRldilp (pair : NibblePair) (s : State) : StepResult := complete (s := s) do
  let ptr ← readDblMds (s.lf + nibbleWord pair.left)
  readDoubleLong (ptr + nibbleLong pair.right)

/-- `WLIP`, R460: the pointer is read before the data is popped. -/
def execWlip (pair : NibblePair) (s : State) : StepResult := complete (s := s) do
  let ptr ← fetchMds (s.lf + nibbleWord pair.left)
  storeMdsPop (ptr + nibbleWord pair.right)

/-- `WLILP`, R461. -/
def execWlilp (pair : NibblePair) (s : State) : StepResult := complete (s := s) do
  let ptr ← readDblMds (s.lf + nibbleWord pair.left)
  storePop (ptr + nibbleLong pair.right)

/-- `WLDILP`, R462. -/
def execWldilp (pair : NibblePair) (s : State) : StepResult := complete (s := s) do
  let ptr ← readDblMds (s.lf + nibbleWord pair.left)
  storeDoubleLong (ptr + nibbleLong pair.right)

end Sys2Proof.Machine
end

