-- ==== Sys2Proof/Machine/Transfer.lean ====
section
/-! DEFINITION. The instructions of chapter 9, whose routines are lost: a model refuses them by name
(spec 48_control_transfers.md R631, R632, R640; 93 U30; log 7). -/

namespace Sys2Proof.Machine

/-- An instruction whose routine is not in the source (R640). -/
def lost (mnemonic : String) : Act Unit := refuse (.lostInstruction mnemonic)

/-- `BRK`: lost (R640). -/
def execBrk (s : State) : StepResult := complete (lost "BRK") s

/-- `LLKB`: lost (R640). -/
def execLlkb (_alpha : Byte) (s : State) : StepResult := complete (lost "LLKB") s

/-- `RKIB`: lost (R640). -/
def execRkib (_alpha : Byte) (s : State) : StepResult := complete (lost "RKIB") s

/-- `RKDIB`: lost (R640). -/
def execRkdib (_alpha : Byte) (s : State) : StepResult := complete (lost "RKDIB") s

/-- `LKB`: lost (R640). -/
def execLkb (_alpha : Byte) (s : State) : StepResult := complete (lost "LKB") s

/-- `EFC0`: lost (R640). -/
def execEfc0 (s : State) : StepResult := complete (lost "EFC0") s

/-- `EFC1`: lost (R640). -/
def execEfc1 (s : State) : StepResult := complete (lost "EFC1") s

/-- `EFC2`: lost (R640). -/
def execEfc2 (s : State) : StepResult := complete (lost "EFC2") s

/-- `EFC3`: lost (R640). -/
def execEfc3 (s : State) : StepResult := complete (lost "EFC3") s

/-- `EFC4`: lost (R640). -/
def execEfc4 (s : State) : StepResult := complete (lost "EFC4") s

/-- `EFC5`: lost (R640). -/
def execEfc5 (s : State) : StepResult := complete (lost "EFC5") s

/-- `EFC6`: lost (R640). -/
def execEfc6 (s : State) : StepResult := complete (lost "EFC6") s

/-- `EFC7`: lost (R640). -/
def execEfc7 (s : State) : StepResult := complete (lost "EFC7") s

/-- `EFC8`: lost (R640). -/
def execEfc8 (s : State) : StepResult := complete (lost "EFC8") s

/-- `EFC9`: lost (R640). -/
def execEfc9 (s : State) : StepResult := complete (lost "EFC9") s

/-- `EFC10`: lost (R640). -/
def execEfc10 (s : State) : StepResult := complete (lost "EFC10") s

/-- `EFC11`: lost (R640). -/
def execEfc11 (s : State) : StepResult := complete (lost "EFC11") s

/-- `EFC12`: lost (R640). -/
def execEfc12 (s : State) : StepResult := complete (lost "EFC12") s

/-- `EFCB`: lost (R640). -/
def execEfcb (_alpha : Byte) (s : State) : StepResult := complete (lost "EFCB") s

/-- `LFC`: lost (R640). -/
def execLfc (_word : Word) (s : State) : StepResult := complete (lost "LFC") s

/-- `SFC`: lost (R640). -/
def execSfc (s : State) : StepResult := complete (lost "SFC") s

/-- `RET`: lost (R640). -/
def execRet (s : State) : StepResult := complete (lost "RET") s

/-- `KFCB`: lost (R640). -/
def execKfcb (_alpha : Byte) (s : State) : StepResult := complete (lost "KFCB") s

/-- `AF`: lost (R640). -/
def execAf (s : State) : StepResult := complete (lost "AF") s

/-- `FF`: lost (R640). -/
def execFf (s : State) : StepResult := complete (lost "FF") s

/-- `PI`: lost (R640). -/
def execPi (s : State) : StepResult := complete (lost "PI") s

/-- `PO`: lost (R640). -/
def execPo (s : State) : StepResult := complete (lost "PO") s

/-- `POR`: lost (R640). -/
def execPor (s : State) : StepResult := complete (lost "POR") s

/-- `DSK`: lost (R640). -/
def execDsk (_alpha : Byte) (s : State) : StepResult := complete (lost "DSK") s

/-- `XE`: lost (R640). -/
def execXe (_alpha : Byte) (s : State) : StepResult := complete (lost "XE") s

/-- `XF`: lost (R640). -/
def execXf (_alpha : Byte) (s : State) : StepResult := complete (lost "XF") s

/-- `LSK`: lost (R640). -/
def execLsk (_alpha : Byte) (s : State) : StepResult := complete (lost "LSK") s

end Sys2Proof.Machine
end

