-- ==== Sys2Proof/Machine/Process.lean ====
section
/-! DEFINITION. The process instructions of chapter 10, whose routines are lost: a model refuses them by name
(spec 49_processes.md R652; 48_control_transfers.md R640; 93 U30; log 7). -/

namespace Sys2Proof.Machine

/-- `ME`: lost (R640). -/
def execMe (s : State) : StepResult := complete (lost "ME") s

/-- `MX`: lost (R640). -/
def execMx (s : State) : StepResult := complete (lost "MX") s

/-- `MW`: lost (R640). -/
def execMw (s : State) : StepResult := complete (lost "MW") s

/-- `MR`: lost (R640). -/
def execMr (s : State) : StepResult := complete (lost "MR") s

/-- `NC`: lost (R640). -/
def execNc (s : State) : StepResult := complete (lost "NC") s

/-- `BC`: lost (R640). -/
def execBc (s : State) : StepResult := complete (lost "BC") s

/-- `REQ`: lost (R640). -/
def execReq (s : State) : StepResult := complete (lost "REQ") s

/-- `SPP`: lost (R640). -/
def execSpp (s : State) : StepResult := complete (lost "SPP") s

/-- `DI`: lost (R640). -/
def execDi (s : State) : StepResult := complete (lost "DI") s

/-- `EI`: lost (R640). -/
def execEi (s : State) : StepResult := complete (lost "EI") s

end Sys2Proof.Machine
end

