-- ==== Sys2Proof/Machine/Stack.lean ====
section
/-! DEFINITION. The stack instructions (spec 41_stack.md R240 to R303). -/

namespace Sys2Proof.Machine

/-- Replace the top word by a function of it. -/
def unaryWord (f : Word → Word) : Act Unit := do
  let u ← pop
  push (f u)

/-- Replace the top double word by a function of it. -/
def unaryLong (f : Long → Long) : Act Unit := do
  let u ← popLong
  pushLong (f u)

/-- Replace the top two words `u v` by `f u v`; `v` is on top. -/
def binaryWord (f : Word → Word → Word) : Act Unit := do
  let v ← pop
  let u ← pop
  push (f u v)

/-- Replace the top two double words `u v` by `f u v`; `v` is on top. -/
def binaryLong (f : Long → Long → Long) : Act Unit := do
  let v ← popLong
  let u ← popLong
  pushLong (f u v)

/-- `REC`, R241. -/
def execRecover (s : State) : StepResult := complete recover s

/-- `REC2`, R242. -/
def execRecover2 (s : State) : StepResult := complete (s := s) do
  recover
  recover

/-- `DIS`, R243. -/
def execDis (s : State) : StepResult := complete discard s

/-- `DIS2`, R244. -/
def execDis2 (s : State) : StepResult := complete (s := s) do
  discard
  discard

/-- `EXCH`, R246. -/
def execExch (s : State) : StepResult := complete (s := s) do
  let v ← pop
  let u ← pop
  push v
  push u

/-- `DEXCH`, R247. -/
def execDexch (s : State) : StepResult := complete (s := s) do
  let v ← popLong
  let u ← popLong
  pushLong v
  pushLong u

/-- `DUP`, R248. -/
def execDup (s : State) : StepResult := complete (s := s) do
  let u ← pop
  push u
  push u

/-- `DDUP`, R249. -/
def execDdup (s : State) : StepResult := complete (s := s) do
  let u ← popLong
  pushLong u
  pushLong u

/-- `EXDIS`, R250. -/
def execExdis (s : State) : StepResult := complete (s := s) do
  let u ← pop
  let _ ← pop
  push u

/-- `BNDCK`, R253: unsigned; the index is pushed back before the test. -/
def execBndck (s : State) : StepResult := complete (s := s) do
  let range ← pop
  let index ← pop
  push index
  if range ≤ index then raiseTrap .boundsTrap else return ()

/-- `BNDCKL`, R254. -/
def execBndckl (s : State) : StepResult := complete (s := s) do
  let range ← popLong
  let index ← popLong
  pushLong index
  if range ≤ index then raiseTrap .boundsTrap else return ()

/-- `NILCKL`, R255. -/
def execNilckl (s : State) : StepResult := complete (s := s) do
  let ptr ← popLong
  pushLong ptr
  if ptr = 0 then raiseTrap .pointerTrap else return ()

/-- `NEG`, R261. -/
def execNeg (s : State) : StepResult := complete (unaryWord fun i => 0 - i) s

/-- `INC`, R262. -/
def execInc (s : State) : StepResult := complete (unaryWord fun u => u + 1) s

/-- `DINC`, R263. -/
def execDinc (s : State) : StepResult := complete (unaryLong fun u => u + 1) s

/-- `DEC`, R264. -/
def execDec (s : State) : StepResult := complete (unaryWord fun u => u - 1) s

/-- `ADDSB`, R265. -/
def execAddsb (alpha : Byte) (s : State) : StepResult := complete (unaryWord fun i => i + signExtendByte alpha) s

/-- `DBL`, R266. -/
def execDbl (s : State) : StepResult := complete (unaryWord fun u => shiftWord u 1) s

/-- `DDBL`, R267. -/
def execDdbl (s : State) : StepResult := complete (unaryLong fun u => shiftLong u 1) s

/-- `TRPL`, R268. -/
def execTrpl (s : State) : StepResult := complete (unaryWord fun u => u * 3) s

/-- `LINT`, R269. -/
def execLint (s : State) : StepResult := complete (s := s) do
  let i ← pop
  push i
  push (if i.msb then 0xFFFF else 0)

/-- `SHIFTSB`, R270; a count outside [-15..15] is refused (U16; log 23). -/
def execShiftsb (alpha : Byte) (s : State) : StepResult := complete (s := s) do
  let u ← pop
  if shiftCountWellFormed alpha then push (shiftWord u alpha.toInt) else refuse .reservedOperand

/-- `AND`, R272. -/
def execAnd (s : State) : StepResult := complete (binaryWord fun u v => u &&& v) s

/-- `DAND`, R273. -/
def execDand (s : State) : StepResult := complete (binaryLong fun u v => u &&& v) s

/-- `IOR`, R274. -/
def execIor (s : State) : StepResult := complete (binaryWord fun u v => u ||| v) s

/-- `DIOR`, R275. -/
def execDior (s : State) : StepResult := complete (binaryLong fun u v => u ||| v) s

/-- `XOR`, R276. -/
def execXor (s : State) : StepResult := complete (binaryWord fun u v => u ^^^ v) s

/-- `DXOR`, R277. -/
def execDxor (s : State) : StepResult := complete (binaryLong fun u v => u ^^^ v) s

/-- `SHIFT`, R278: a signed count on top. -/
def execShift (s : State) : StepResult := complete (binaryWord fun u shift => shiftWord u shift.toInt) s

/-- `DSHIFT`, R279: the count is one word on top of the long operand. -/
def execDshift (s : State) : StepResult := complete (s := s) do
  let shift ← pop
  let u ← popLong
  pushLong (shiftLong u shift.toInt)

/-- `ROTATE`, R280. -/
def execRotate (s : State) : StepResult := complete (binaryWord fun u rotate => rotateWord u rotate.toInt) s

/-- `ADD`, R283. -/
def execAdd (s : State) : StepResult := complete (binaryWord fun u v => u + v) s

/-- `SUB`, R284: the top word is the subtrahend. -/
def execSub (s : State) : StepResult := complete (binaryWord fun u v => u - v) s

/-- `DADD`, R285. -/
def execDadd (s : State) : StepResult := complete (binaryLong fun u v => u + v) s

/-- `DSUB`, R286. -/
def execDsub (s : State) : StepResult := complete (binaryLong fun u v => u - v) s

/-- `ADC`, R287: the short operand is underneath. -/
def execAdc (s : State) : StepResult := complete (s := s) do
  let t ← popLong
  let u ← pop
  pushLong (lengthen u + t)

/-- `ACD`, R288: the short operand is on top. -/
def execAcd (s : State) : StepResult := complete (s := s) do
  let t ← pop
  let u ← popLong
  pushLong (u + lengthen t)

/-- `MUL`, R289: the high half of the product stays above the top. -/
def execMul (s : State) : StepResult := complete (s := s) do
  let t ← pop
  let u ← pop
  pushLong (lengthen u * lengthen t)
  discard

/-- `DMUL`, R290. -/
def execDmul (s : State) : StepResult := complete (binaryLong fun u v => u * v) s

/-- `SDIV`, R292: the remainder stays above the top. -/
def execSdiv (s : State) : StepResult := complete (s := s) do
  let k ← pop
  let j ← pop
  if k = 0 then raiseTrap .divZeroTrap
  else
    push (signedQuotient j k)
    push (signedRemainder j k)
    discard

/-- `UDIV`, R293. -/
def execUdiv (s : State) : StepResult := complete (s := s) do
  let t ← pop
  let u ← pop
  if t = 0 then raiseTrap .divZeroTrap
  else
    push (u / t)
    push (u % t)
    discard

/-- `LUDIV`, R294: zero is tested first, then overflow. -/
def execLudiv (s : State) : StepResult := complete (s := s) do
  let t ← pop
  let u ← popLong
  if t = 0 then raiseTrap .divZeroTrap
  else if t ≤ Long.high u then raiseTrap .divCheckTrap
  else
    push (Long.low (u / lengthen t))
    push (Long.low (u % lengthen t))
    discard

/-- `SDDIV`, R295. -/
def execSddiv (s : State) : StepResult := complete (s := s) do
  let k ← popLong
  let j ← popLong
  if k = 0 then raiseTrap .divZeroTrap
  else
    pushLong (signedLongQuotient j k)
    pushLong (signedLongRemainder j k)
    discard
    discard

/-- `UDDIV`, R296. -/
def execUddiv (s : State) : StepResult := complete (s := s) do
  let t ← popLong
  let u ← popLong
  if t = 0 then raiseTrap .divZeroTrap
  else
    pushLong (u / t)
    pushLong (u % t)
    discard
    discard

/-- `DCMP`, R300: signed. -/
def execDcmp (s : State) : StepResult := complete (s := s) do
  let k ← popLong
  let j ← popLong
  push (compareResult (decide (k.toInt < j.toInt)) (decide (j.toInt < k.toInt)))

/-- `UDCMP`, R301: unsigned. -/
def execUdcmp (s : State) : StepResult := complete (s := s) do
  let t ← popLong
  let u ← popLong
  push (compareResult (decide (t < u)) (decide (u < t)))

end Sys2Proof.Machine
end

