-- ==== Sys2Proof/Machine/StringField.lean ====
section
/-! DEFINITION. The string and field instructions (spec 45_string_field.md R480 to R524). -/

namespace Sys2Proof.Machine

/-- The byte offset of `RS` and `WS`: a 16-bit sum (R481). -/
def stringOffset (alpha : Byte) (index : Word) : Word := byteWord alpha + index

/-- The long pointer that `RS` and `WS` give to `FetchByte` and `StoreByte` (R481, D8). By the row D8 half the offset is added to the
short pointer, modulo 2^16, and the sum is lengthened; by the words of R481 the pointer is lengthened and half the offset added to that
(log 45). -/
def State.stringBase (s : State) (ptr offset : Word) : Long :=
  if s.cfg.stringWraps then s.lengthenPointer (ptr + (offset >>> 1)) else s.lengthenPointer ptr

/-- The byte offset that goes with `State.stringBase` (R481, D8; log 45). -/
def State.stringRest (s : State) (offset : Word) : Long := lengthen (if s.cfg.stringWraps then offset &&& 1 else offset)

/-- The byte offset of `RLS` and `WLS`: a double-word sum (R481). -/
def longStringOffset (alpha : Byte) (index : Word) : Long := byteLong alpha + lengthen index

/-- `RS`, R482: the byte is pushed with a zero high byte. -/
def execRs (alpha : Byte) (s : State) : StepResult := complete (s := s) do
  let index ← pop
  let ptr ← pop
  let offset := stringOffset alpha index
  let b ← fetchByte (s.stringBase ptr offset) (s.stringRest offset)
  push (byteWord b)

/-- `RLS`, R483. -/
def execRls (alpha : Byte) (s : State) : StepResult := complete (s := s) do
  let index ← pop
  let ptr ← popLong
  let b ← fetchByte ptr (longStringOffset alpha index)
  push (byteWord b)

/-- `WS`, R484: the high byte of the data word is ignored. -/
def execWs (alpha : Byte) (s : State) : StepResult := complete (s := s) do
  let index ← pop
  let ptr ← pop
  let data ← pop
  let offset := stringOffset alpha index
  storeByte (s.stringBase ptr offset) (s.stringRest offset) (Word.right data)

/-- `WLS`, R485. -/
def execWls (alpha : Byte) (s : State) : StepResult := complete (s := s) do
  let index ← pop
  let ptr ← popLong
  let data ← pop
  storeByte ptr (longStringOffset alpha index) (Word.right data)

/-- Push a field of the word at a virtual address. -/
def loadField (va : Long) (f : FieldSpec) : Act Unit := do
  let w ← fetchField va f
  push w

/-- Read a field through a short pointer on the stack (R505, R506). -/
def readFieldDirect (offset : Word) (f : FieldSpec) : Act Unit := do
  let ptr ← pop
  let s ← get
  loadField (s.lengthenPointer (ptr + offset)) f

/-- Read a field through a long pointer on the stack (R507, R508). -/
def readFieldDirectLong (offset : Long) (f : FieldSpec) : Act Unit := do
  let ptr ← popLong
  loadField (ptr + offset) f

/-- `RF`, R505. -/
def execRf (desc : FieldDesc) (s : State) : StepResult :=
  complete (readFieldDirect (byteWord desc.offset) desc.field) s

/-- `R0F`, R506. -/
def execR0f (spec : FieldSpec) (s : State) : StepResult := complete (readFieldDirect 0 spec) s

/-- `RLF`, R507. -/
def execRlf (desc : FieldDesc) (s : State) : StepResult :=
  complete (readFieldDirectLong (byteLong desc.offset) desc.field) s

/-- `RL0F`, R508. -/
def execRl0f (spec : FieldSpec) (s : State) : StepResult := complete (readFieldDirectLong 0 spec) s

/-- `RLFS`, R509: the descriptor is on top of the stack. -/
def execRlfs (s : State) : StepResult := complete (s := s) do
  let w ← pop
  let desc := fieldDesc w
  readFieldDirectLong (byteLong desc.offset) desc.field

/-- `RCFS`, R510: a field of a word of the code segment. -/
def execRcfs (s : State) : StepResult := complete (s := s) do
  let w ← pop
  let desc := fieldDesc w
  let offset ← pop
  let v ← readCode (offset + byteWord desc.offset)
  let r ← readField v desc.field
  push r

/-- `RLIPF`, R511. -/
def execRlipf (pair : NibblePair) (spec : FieldSpec) (s : State) : StepResult := complete (s := s) do
  let ptr ← fetchMds (s.lf + nibbleWord pair.left)
  loadField (s.lengthenPointer (ptr + nibbleWord pair.right)) spec

/-- `RLILPF`, R512. -/
def execRlilpf (pair : NibblePair) (spec : FieldSpec) (s : State) : StepResult := complete (s := s) do
  let ptr ← readDblMds (s.lf + nibbleWord pair.left)
  loadField (ptr + nibbleLong pair.right) spec

/-- Write a field through a short pointer on top of the data (R515, R516). -/
def writeFieldDirect (offset : Word) (f : FieldSpec) : Act Unit := do
  let ptr ← pop
  let data ← pop
  let s ← get
  storeField (s.lengthenPointer (ptr + offset)) f data

/-- Write a field through a long pointer on top of the data (R517, R518). -/
def writeFieldDirectLong (offset : Long) (f : FieldSpec) : Act Unit := do
  let ptr ← popLong
  let data ← pop
  storeField (ptr + offset) f data

/-- Write a field through a short pointer under the data (R520, R523). -/
def writeFieldSwapped (offset : Word) (f : FieldSpec) : Act Unit := do
  let data ← pop
  let ptr ← pop
  let s ← get
  storeField (s.lengthenPointer (ptr + offset)) f data

/-- `WF`, R515. -/
def execWf (desc : FieldDesc) (s : State) : StepResult :=
  complete (writeFieldDirect (byteWord desc.offset) desc.field) s

/-- `W0F`, R516. -/
def execW0f (spec : FieldSpec) (s : State) : StepResult := complete (writeFieldDirect 0 spec) s

/-- `WLF`, R517. -/
def execWlf (desc : FieldDesc) (s : State) : StepResult :=
  complete (writeFieldDirectLong (byteLong desc.offset) desc.field) s

/-- `WL0F`, R518. -/
def execWl0f (spec : FieldSpec) (s : State) : StepResult := complete (writeFieldDirectLong 0 spec) s

/-- `WLFS`, R519: the descriptor is on top of the stack. -/
def execWlfs (s : State) : StepResult := complete (s := s) do
  let w ← pop
  let desc := fieldDesc w
  writeFieldDirectLong (byteLong desc.offset) desc.field

/-- `WS0F`, R520: the pointer stays just above the top. -/
def execWs0f (spec : FieldSpec) (s : State) : StepResult := complete (writeFieldSwapped 0 spec) s

/-- `PS0F`, R522: the pointer is recovered. -/
def execPs0f (spec : FieldSpec) (s : State) : StepResult := complete (s := s) do
  writeFieldSwapped 0 spec
  recover

/-- `PSF`, R523. -/
def execPsf (desc : FieldDesc) (s : State) : StepResult := complete (s := s) do
  writeFieldSwapped (byteWord desc.offset) desc.field
  recover

/-- `PSLF`, R524. -/
def execPslf (desc : FieldDesc) (s : State) : StepResult := complete (s := s) do
  let data ← pop
  let ptr ← popLong
  storeField (ptr + byteLong desc.offset) desc.field data
  recover
  recover

end Sys2Proof.Machine
end

