-- ==== Sys2Proof/Machine/TxtBlt.lean ====
section
/-! DEFINITION. TXTBLT (spec 47_bitblt_txtblt.md R600 to R610). -/

namespace Sys2Proof.Machine

/-- `Function` of TXTBLT (R600). -/
inductive TxtFunction where
  | display
  | format
  | resolve
  | unused
  deriving DecidableEq, Repr

/-- `TxtBltArg` (R601). -/
structure TxtBltArg where
  reserved : BitVec 14
  function : TxtFunction
  last : Word
  text : Long
  font : Long
  dst : Long
  dstBpl : Word
  margin : Word
  space : Word
  coord : Long
  deriving DecidableEq, Repr

/-- `TxtBltArg` of its 13 words (R601). -/
def txtBltArg (ws : List Word) : TxtBltArg where
  reserved := (recordWord ws 0).extractLsb' 2 14
  function := match (recordWord ws 0).getLsbD 1, (recordWord ws 0).getLsbD 0 with
    | false, false => .display
    | false, true => .format
    | true, false => .resolve
    | true, true => .unused
  last := recordWord ws 1
  text := recordLong ws 2
  font := recordLong ws 4
  dst := recordLong ws 6
  dstBpl := recordWord ws 8
  margin := recordWord ws 9
  space := recordWord ws 10
  coord := recordLong ws 11

/-- `spacingWidths[char]`: the width of a character in bits (R602). -/
def spacingWidth (font : Long) (char : Word) : Act Word := do
  let base ← readDbl (font + 2)
  let b ← packedByte base char
  return byteWord b

/-- `printerWidths[char]`: the printing width of a character (R602). -/
def printerWidth (font : Long) (char : Word) : Act Word := do
  let base ← readDbl (font + 4)
  fetch (base + lengthen char)

/-- `DisplayWidth`: the spacing width and the kern columns (R603). Its expression fixes no order of the two reads: `DisplayChar` reads
the raster information first (DESIGN CHOICE, log 55). -/
def displayWidth (font : Long) (char : Word) (info : RasterInfo) : Act Word := do
  let w ← spacingWidth font char
  return w + boolWord info.leftKern + boolWord info.rightKern

/-- `Bit`: bit `n` of a character's raster (R603). -/
def rasterBit (font : Long) (info : RasterInfo) (n : Word) : Act Bool := do
  let rasters ← readDbl font
  let w ← fetch (rasters + info.offset.setWidth 32 + lengthen (n >>> 4))
  return bitOf w (n.extractLsb' 0 4)

/-- One line of a character: `n` bits of the raster from bit `count` on, ored into the destination from `offset` on (R608). A bit past the
`dstBpl` bits of its line is refused: the bitmap is not wide enough, or the offset no `INTEGER` (R4, R28, R604, U20; DESIGN CHOICE,
log 39). -/
def displayLine (font : Long) (info : RasterInfo) (dstBpl : Word) (dst : BitAddress) : Nat → Word → Word → Act Unit
  | 0, _, _ => return ()
  | n + 1, count, offset => do
    let b ← rasterBit font info count
    if dstBpl ≤ offset then refuse .txtBltArgument
    else
      let d ← readBit dst offset
      writeBit dst offset (b || d)
      displayLine font info dstBpl dst n (count + 1) (offset + 1)

/-- The lines of a character (R608). The running index `count` is a `CARDINAL` of 16 bits, whose width the source does not give (DESIGN
CHOICE, log 56). -/
def displayLines (font : Long) (info : RasterInfo) (dstBpl width pos : Word) : Nat → BitAddress → Word → Act Unit
  | 0, _, _ => return ()
  | n + 1, dst, count => do
    displayLine font info dstBpl dst width.toNat count pos
    displayLines font info dstBpl width pos n (bump dst (lengthen dstBpl)) (count + width)

/-- `DisplayChar` (R608). -/
def displayChar (a : TxtBltArg) (pos char : Word) : Act Unit := do
  let info ← characterRaster a.font char
  let width ← displayWidth a.font char info
  let height ← fetch (a.font + 10)
  displayLines a.font info a.dstBpl width (pos - boolWord info.leftKern) height.toNat ⟨a.dst, 0⟩ 0

/-- `Justifies`: display and resolve (R605, D9; log 32). -/
def justifies : TxtFunction → Bool
  | .display => true
  | .format => false
  | .resolve => true
  | .unused => false

/-- `MarginApplies`: format, or every function by the parameter (R605, D9; log 32). -/
def marginApplies (c : Config) (f : TxtFunction) : Bool := c.txtbltMarginAll || decide (f = .format)

/-- The positions after a pad character (R605, R609). -/
def padState (a : TxtBltArg) (t : TxtState) : TxtState :=
  { t with
    bitPos := if justifies a.function then t.bitPos + a.space + (if t.count.toInt < 0 then 1 else 0) else t.bitPos
    count := t.count + 1 }

/-- The operands after a character is processed (R605). -/
def txtAfter (a : TxtBltArg) (pad : Bool) (spacing printing : Word) (t : TxtState) : TxtState :=
  let moved := { t with bitPos := t.bitPos + spacing, printPos := t.printPos + printing }
  { (if pad then padState a moved else moved) with index := t.index + 1 }

/-- What one pass of TXTBLT's loop ends in: the next character, or a result. -/
inductive TxtStep where
  | advance (t : TxtState)
  | finish (t : TxtState) (result : Word)
  deriving DecidableEq, Repr

/-- The rest of a pass, once the character is to be processed (R605). -/
def txtProcess (a : TxtBltArg) (flags : FontFlags) (char : Word) (t : TxtState) : Act TxtStep := do
  if a.function = .display then displayChar a t.bitPos char
  let spacing ← spacingWidth a.font char
  let printing ← printerWidth a.font char
  return .advance (txtAfter a flags.pad spacing printing t)

/-- One pass of TXTBLT's loop (R605); the results are normal 0, margin 1, stop 2. A horizontal position beyond 32767 is refused in every
function (R604, U20; log 39). -/
def txtPass (a : TxtBltArg) (flagsIndex : Nat) (t : TxtState) : Act TxtStep := do
  if 32767 < t.bitPos.toNat then refuse .txtBltArgument
  else if a.last < t.index then return .finish t 0
  else
    if a.function = .resolve then store (a.coord + lengthen t.index) t.bitPos
    let b ← packedByte a.text t.index
    let char := byteWord b
    let flags ← characterFlags a.font char flagsIndex
    if flags.stop then return .finish t 2
    else
      let s ← get
      if marginApplies s.cfg a.function then
        let printing ← printerWidth a.font char
        if a.margin < t.printPos + printing then return .finish t 1 else txtProcess a flags char t
      else txtProcess a flags char t

/-- `PushState` of TXTBLT (R605). -/
def txtPushState (t : TxtState) (data : Word) : Act Unit := do
  push t.index
  push t.bitPos
  push t.printPos
  push t.count
  push data

/-- The loop of TXTBLT over the argument in `record` (R605). A scan longer than the bound goes on in the next step, with nothing pushed
and no suspension (log 40). -/
def txtLoop (ptr : Word) (record : List Word) (flagsIndex : Nat) : Nat → TxtState → Act Unit
  | 0, t => modify fun s => { s with scan := some ⟨ptr, record, t, flagsIndex⟩ }
  | fuel + 1, t => do
    match ← txtPass (txtBltArg record) flagsIndex t with
    | .finish t' result => txtPushState t' result
    | .advance t' =>
      let pending ← pollInterrupt
      if pending then
        txtPushState t' ptr
        noteSuspension ptr record
        suspend
      else txtLoop ptr record flagsIndex fuel t'

/-- Characters in one step at most: every scan that ends by its last index has at most 65536 (log 40). -/
def txtBltFuel : Nat := 65537

/-- The `ERROR` of R605, and the obligations that the record alone shows (R601, R602): a function in use, an aligned font (U20). -/
def txtBltArgError (a : TxtBltArg) : Bool :=
  decide (a.reserved ≠ 0) || decide (32767 < a.dstBpl.toNat) || decide (a.function = .unused) ||
    decide (a.font &&& 0x0000000F ≠ 0)

/-! What the scan will come to, as memory stands: only this shows how far the operands reach. A part of an operand is known as soon as
what places it can be read, whether or not a fault would come before the part itself is used (log 39). -/

/-- What a font says of a character (R602, D17; log 33). -/
structure CharacterView where
  char : Word
  spacing : Word
  printing : Word
  flags : Byte
  raster : Word

/-- The flags byte of a character: in the default format that of the packed array at word 6 of the font record, in another the open one of
a scan that starts here (R602, D17, P8; log 33). -/
def State.flagsByteAt (s : State) (font : Long) (char : Word) : Byte :=
  match s.cfg.fontFormat with
  | .packed => s.packedByteAt (s.longAt (font + 6)) char
  | .other => Config.fontFlagsOther font char s.freeIndex

/-- The character at `index` of the text, and what its font says of it (R602, R607). -/
def State.characterAt (s : State) (a : TxtBltArg) (index : Word) : CharacterView :=
  let char : Word := (s.packedByteAt a.text index).setWidth 16
  { char := char
    spacing := (s.packedByteAt (s.longAt (a.font + 2)) char).setWidth 16
    printing := s.wordAt (s.longAt (a.font + 4) + char.setWidth 32)
    flags := s.flagsByteAt a.font char
    raster := rasterLayout s.cfg (s.wordAt (s.longAt (a.font + 8) + char.setWidth 32)) }

/-- The width of a character's raster (R603). -/
def CharacterView.width (v : CharacterView) : Word := v.spacing + boolWord (v.raster.getLsbD 15) + boolWord (v.raster.getLsbD 14)

/-- The scan ends at this character: a stop character, or the margin is passed (R605). -/
def State.endsAt (s : State) (a : TxtBltArg) (t : TxtState) (v : CharacterView) : Bool :=
  (fontFlags v.flags).stop || marginApplies s.cfg a.function && decide (a.margin < t.printPos + v.printing)

/-- The font record (R602). -/
def fontRecordPart (a : TxtBltArg) : OperandPart := ⟨a.font, ⟨a.font, 11⟩⟩

/-- The word of the text that holds the character in state `t` (R607). -/
def textPart (a : TxtBltArg) (t : TxtState) : OperandPart := wordPart a.text (lengthen (t.index >>> 1))

/-- The word of `spacingWidths` that holds a character's (R602). -/
def State.spacingPart (s : State) (a : TxtBltArg) (v : CharacterView) : OperandPart :=
  wordPart (s.longAt (a.font + 2)) (lengthen (v.char >>> 1))

/-- The word of `printerWidths` that holds a character's (R602). -/
def State.printingPart (s : State) (a : TxtBltArg) (v : CharacterView) : OperandPart :=
  wordPart (s.longAt (a.font + 4)) (lengthen v.char)

/-- The word that holds a character's flags, in the default format; where another keeps them is not known (R602, D17, P8; log 33). -/
def State.flagsParts (s : State) (a : TxtBltArg) (v : CharacterView) : List OperandPart :=
  match s.cfg.fontFormat with
  | .packed => [wordPart (s.longAt (a.font + 6)) (lengthen (v.char >>> 1))]
  | .other => []

/-- The word of `rasterInfos` that holds a character's (R602). -/
def State.rasterInfoPart (s : State) (a : TxtBltArg) (v : CharacterView) : OperandPart :=
  wordPart (s.longAt (a.font + 8)) (lengthen v.char)

/-- A character's raster (R603). -/
def State.rasterPart (s : State) (a : TxtBltArg) (v : CharacterView) : OperandPart :=
  let rasters := s.longAt a.font
  ⟨rasters, ⟨rasters + (rasterInfo v.raster).offset.setWidth 32, ((s.wordAt (a.font + 10)).toNat * v.width.toNat + 15) / 16⟩⟩

/-- The character in state `t`, not past the last one, and the font record can be read. -/
def State.seesCharacter (s : State) (a : TxtBltArg) (t : TxtState) : Bool :=
  decide (t.index ≤ a.last) && s.mapped (textPart a t) && s.mapped (fontRecordPart a)

/-- The flags of the character in state `t` can be read too. -/
def State.seesFlags (s : State) (a : TxtBltArg) (t : TxtState) : Bool :=
  s.seesCharacter a t && (s.flagsParts a (s.characterAt a t.index)).all s.mapped

/-- The character in state `t` is to be processed, as far as can be read: the scan does not end there (R605). -/
def State.processesAt (s : State) (a : TxtBltArg) (t : TxtState) : Bool :=
  let v := s.characterAt a t.index
  s.seesFlags a t && !(s.endsAt a t v) && (!(marginApplies s.cfg a.function) || s.mapped (s.printingPart a v))

/-- The character in state `t` is to be displayed, and what tells the width of its raster can be read (R603, R608). -/
def State.displaysAt (s : State) (a : TxtBltArg) (t : TxtState) : Bool :=
  let v := s.characterAt a t.index
  s.processesAt a t && decide (a.function = .display) && s.mapped (s.rasterInfoPart a v) && s.mapped (s.spacingPart a v)

/-- The scan goes on past the character in state `t`, and what moves the positions can be read (R605). -/
def State.passesAt (s : State) (a : TxtBltArg) (t : TxtState) : Bool :=
  let v := s.characterAt a t.index
  s.processesAt a t && s.mapped (s.spacingPart a v) && s.mapped (s.printingPart a v)

/-- What the scan reads of the font's arrays and rasters for the character in state `t`, as far as it is known (R602, R605, R608): its
flags; its printing width unless it is a stop character; if it is processed its spacing width; and for the display function its raster. -/
def State.fontParts (s : State) (a : TxtBltArg) (t : TxtState) : List OperandPart :=
  let v := s.characterAt a t.index
  (if s.seesCharacter a t then s.flagsParts a v else []) ++
    (if s.seesFlags a t && !(fontFlags v.flags).stop then [s.printingPart a v] else []) ++
    (if s.processesAt a t then [s.spacingPart a v] else []) ++
    (if s.processesAt a t && decide (a.function = .display) then [s.rasterInfoPart a v] else []) ++
    (if s.displaysAt a t then [s.rasterPart a v] else [])

/-- The states that the scan comes to from state `t` on, `n` of them at most. -/
def State.txtStates (s : State) (a : TxtBltArg) : Nat → TxtState → List TxtState
  | 0, _ => []
  | n + 1, t =>
    let v := s.characterAt a t.index
    t :: if s.passesAt a t then s.txtStates a n (txtAfter a (fontFlags v.flags).pad v.spacing v.printing t) else []

/-- The destination bitmap: as many lines as the font is high, `dstBpl` bits each (R601, R604, R608). -/
def State.bitmapPart (s : State) (a : TxtBltArg) : OperandPart :=
  ⟨a.dst, ⟨a.dst, ((s.wordAt (a.font + 10)).toNat * a.dstBpl.toNat + 15) / 16⟩⟩

/-- The obligations of R604 on the operands in memory: no two of argument record, font, characters, `coord` entries and bitmap overlap,
and neither the font's arrays nor the characters nor the bitmap leave the 64K bank they begin in (U1, U20). How far the operands reach is
the scan's doing, so it is followed as memory stands (log 39). -/
def State.txtBltMemoryError (s : State) (ptr : Word) (a : TxtBltArg) (t : TxtState) : Bool :=
  let looked := (s.txtStates a txtBltFuel t).filter fun u => decide (u.index ≤ a.last)
  let font : List OperandPart := fontRecordPart a :: looked.flatMap (s.fontParts a)
  let text : List OperandPart := looked.map (textPart a)
  let coord : List OperandPart := if a.function = .resolve then looked.map fun u => wordPart a.coord (lengthen u.index) else []
  let bitmap : List OperandPart := if looked.any (s.displaysAt a) then [s.bitmapPart a] else []
  operandsMeet [[⟨s.lengthenPointer ptr, ⟨s.lengthenPointer ptr, 13⟩⟩], font, text, coord, bitmap] ||
    (font ++ text ++ bitmap).any OperandPart.leavesBank

/-- The scan of the argument `record` at `ptr` from the operands `t` on, tested first (R604, R605; log 39). -/
def txtScan (ptr : Word) (record : List Word) (flagsIndex : Nat) (t : TxtState) : Act Unit := do
  let s ← get
  if txtBltArgError (txtBltArg record) || { s with freeIndex := flagsIndex }.txtBltMemoryError ptr (txtBltArg record) t then
    refuse .txtBltArgument
  else txtLoop ptr record flagsIndex txtBltFuel t

/-- `TXTBLT`, R605, R606; an `ERROR` or a violated obligation is refused (U20; log 39). -/
def execTxtblt (s : State) : StepResult := complete (s := s) do
  let ptr ← pop
  let count ← pop
  let printPos ← pop
  let bitPos ← pop
  let index ← pop
  minimalStack
  if ptr &&& 0x000F ≠ 0 then refuse .txtBltArgument
  else
    let record ← fetchRecord ptr 13
    checkRestart s ptr record
    txtScan ptr record s.freeIndex ⟨index, bitPos, printPos, count⟩

/-- The next step of a `TXTBLT` that was still scanning (log 40). -/
def continueScan (scan : TxtScan) (s : State) : StepResult :=
  complete (txtScan scan.ptr scan.record scan.flagsIndex scan.operands) { s with scan := none }

end Sys2Proof.Machine
end

