-- ==== Sys2Proof/Machine/Execute.lean ====
section
/-! DEFINITION. One iteration of the main loop: the environment, the checks for interrupts and timeouts, fetching an
instruction and running it (spec 60_exceptions.md R670, R687; 30_encoding.md R164 to R167). -/

namespace Sys2Proof.Machine

/-- What the environment does before a step: it advances `IT`, ORs wakeups into `WP`, accesses memory, and sets the devices' turns
during the step (R712, R715; log 26); the bookkeeping of the checks sets `PTC` and `time` (R687, R716; log 25). -/
def applyInput (i : Input) (s : State) : State :=
  let b := i.bookkeeping.getD (s.ptc, s.time)
  State.deviceAccesses
    { s with it := s.it + i.pulses, wp := s.wp ||| i.wakeups, ptc := b.1, time := b.2, turns := i.turns } i.accesses

/-- The state when the checks of the main loop are made: the next input applied. With none left nothing happens: `IT` and `PTC` stand
still (log 25, 26). -/
def State.withEnvironment (s : State) : State :=
  match s.inputs with
  | [] => { s with turns := [] }
  | i :: rest => applyInput i { s with inputs := rest }

/-- `CheckForTimeouts`: what the environment answers (R687, D19; log 25). -/
def State.timeoutNow (s : State) : Bool :=
  match s.inputs with
  | [] => false
  | i :: _ => i.timeout

/-- `savedPC <- PC; savedSP <- SP`, before the opcode is fetched (R71, R166). -/
def State.saveContext (s : State) : State := { s with savedPC := s.pc, savedSP := s.sp }

/-- Fetch the bytes of an instruction, one at a time and no more than its routine fetches (R164, R165, R748): of an instruction whose
routine is lost, its opcode only (R167, R640). -/
def fetchInstr : Act Decoded := do
  let s ← get
  let b0 ← getCodeByte
  if fetchLengthFor s.cfg b0 0 < 2 then return decodeFor s.cfg b0 0 0
  else
    let b1 ← getCodeByte
    if fetchLengthFor s.cfg b0 b1 < 3 then return decodeFor s.cfg b0 b1 0
    else
      let b2 ← getCodeByte
      return decodeFor s.cfg b0 b1 b2

/-- A frame is placed as R79 has it: quad-word aligned, its overhead words in the main data space. -/
def frameLegal (frame : Word) : Bool := decide (frame &&& 3 = 0) && decide (4 ≤ frame.toNat)

/-- The context's frames and code base are placed as the manual has it (R79, R81; log 53). -/
def State.contextLegal (s : State) : Bool := frameLegal s.lf && frameLegal s.gf && decide (s.cb &&& 3 = 0)

/-- Run what was decoded (R167, R176): an unassigned first byte takes OpcodeTrap; 0 and 255 are refused (U13; log 41). -/
def dispatch (d : Decoded) (s : State) : StepResult :=
  match d with
  | .instr i => exec i s
  | .unassigned b => complete (raiseTrap (.opcodeTrap b)) s
  | .reserved b => .refused (.reservedOpcode b)

/-- `Execute` (R166): a fault on the fetch is taken like any other. -/
def executeInstr (s : State) : StepResult :=
  match fetchInstr s.saveContext with
  | .ok d t => dispatch d t
  | .error (.exception e) t => .next (takeException e t)
  | .error .stackError _ => .fault .stackError
  | .error (.refused r) _ => .refused r

/-- The rest of an iteration of the main loop: the checks, then the instruction (R670). With `running` false nothing is executed (R726;
log 44); a misplaced context is refused (U12; log 53). -/
def checkAndExecute (timeout : Bool) (s : State) : StepResult :=
  if interruptPending s || timeout then .next (takeException .reschedule s)
  else if s.running then
    if s.contextLegal then executeInstr s else .refused .misplacedContext
  else .next s

/-- One iteration of the main loop (R670). A machine that has taken an exception stops, since the transfer to the handler is
lost (R640; log 5). A `TXTBLT` that is still scanning goes on, without the checks (log 40). -/
def mainLoop (s : State) : StepResult :=
  match s.exception with
  | some e => .fault (exceptionOutcome e)
  | none =>
    match s.scan with
    | some scan => continueScan scan s.withEnvironment
    | none => checkAndExecute s.timeoutNow s.withEnvironment

/-- Code bytes placed at a byte offset of the code segment, without touching the map's flags (log 43). A byte whose page is
vacant is not placed. -/
def placeCode (s : State) : Word → List Byte → State
  | _, [] => s
  | at_, b :: bs =>
    let va := s.cb + lengthen (at_ >>> 1)
    let t :=
      if (s.entryOf va).isVacant then s
      else { s with mem := Memory.setByte s.mem (2 * s.realAddress va + (if at_.getLsbD 0 then 1 else 0)) b }
    placeCode t (at_ + 1) bs

/-- The bytes of an instruction number with zeros up to the longest instruction, three bytes (R160). -/
def paddedBytes (nbits w : Nat) : List Byte := (tableBytes nbits w ++ [0, 0, 0]).take 3

/-- Bytes of an instruction in the recalled assignment, in a machine's own (R173; log 2). -/
def ownBytes (a : OpcodeAssignment) : List Byte → List Byte
  | c0 :: c1 :: rest => a.firstBack c0 :: a.secondBack c0 c1 :: rest
  | bs => bs

/-- Stands for the loading of a program (log 43): the instruction at `PC`, and a machine that will execute it next. -/
def loadAtPc (s : State) (nbits w : Nat) : State :=
  placeCode
    { s with
      exception := none, scan := none, running := true, inputs := [], codeWrites := []
      wdc := if s.wp = 0 then s.wdc else 1
      lf := if frameLegal s.lf then s.lf else 4
      gf := if frameLegal s.gf then s.gf else 4
      cb := if s.cb &&& 3 = 0 then s.cb else 0 }
    s.pc (ownBytes s.cfg.opcodes (paddedBytes nbits w))

end Sys2Proof.Machine
end

