-- ==== Sys2Proof/Machine/Link.lean ====
section
/-! DEFINITION. Control links, frame overhead words, and the tables of a main data space that hold control links: what survives of
chapter 9 (spec 48_control_transfers.md R622 to R629; 10_state.md R74 to R80; 20_memory.md R135; 70 R731). No instruction that
survives follows a link: `XFER` is lost (R640). -/

namespace Sys2Proof.Machine

/-- `ControlLink`: two words, the low word first in memory (R622). -/
abbrev ControlLink := Long

/-- `ShortControlLink`: the low word of a control link (R622, R624). -/
abbrev ShortControlLink := Word

/-- `LinkType` (R622). -/
inductive LinkType where
  | frame
  | procedure
  | indirect
  deriving DecidableEq, Repr

/-- `TaggedControlLink`: data and tag of the low word, and the high word (R622). -/
structure TaggedControlLink where
  data : BitVec 14
  tag : BitVec 2
  fill : Word
  deriving DecidableEq, Repr

/-- The fields of a control link: data w[15:2], tag w[1:0] of its low word (R622). -/
def taggedControlLink (link : ControlLink) : TaggedControlLink where
  data := (Long.low link).extractLsb' 2 14
  tag := (Long.low link).extractLsb' 0 2
  fill := Long.high link

/-- The control link of its fields. -/
def TaggedControlLink.toLink (t : TaggedControlLink) : ControlLink := Long.ofHalves t.fill (t.data ++ t.tag)

/-- `ControlLinkType` (R623): by the two least significant bits, 0 a frame, 2 an indirect link, 1 and 3 a procedure. -/
def controlLinkType (link : ControlLink) : LinkType :=
  if (taggedControlLink link).tag = 0 then .frame
  else if (taggedControlLink link).tag = 2 then .indirect
  else .procedure

/-- `MakeFrameLink` (R624): the local frame of a frame link; a link of another type is an `ERROR`, refused (R5, U1). -/
def makeFrameLink (link : ControlLink) : Act Word :=
  if controlLinkType link = .frame then pure (Long.low link) else refuse .controlLinkType

/-- `MakeIndirectLink` (R625): the short pointer of an indirect link, its tag bits kept; another type is refused (R5, U1). What is done
with it is lost. -/
def makeIndirectLink (link : ControlLink) : Act Word :=
  if controlLinkType link = .indirect then pure (Long.low link) else refuse .controlLinkType

/-! Frame overhead words. -/

/-- `GlobalWord`, at `GF - 3` (R74). -/
structure GlobalWord where
  available : BitVec 14
  trapxfers : Bool
  codelinks : Bool
  deriving DecidableEq, Repr

/-- The fields of a `GlobalWord`: available w[15:2], trapxfers w[1], codelinks w[0] (R74). -/
def globalWord (w : Word) : GlobalWord := ⟨w.extractLsb' 2 14, w.getLsbD 1, w.getLsbD 0⟩

/-- `GlobalOverhead`: the four words before a global frame (R74). -/
structure GlobalOverhead where
  available : Word
  word : GlobalWord
  codebase : Long
  deriving DecidableEq, Repr

/-- `LocalWord`, at `LF - 4`: a byte for software, and the frame size index `fsi` (R77, R628). -/
structure LocalWord where
  available : Byte
  fsi : Byte
  deriving DecidableEq, Repr

/-- The fields of a `LocalWord`: available w[15:8], fsi w[7:0] (R77). -/
def localWord (w : Word) : LocalWord := ⟨Word.left w, Word.right w⟩

/-- `LocalOverhead`: the four words before a local frame (R77). -/
structure LocalOverhead where
  word : LocalWord
  returnlink : ShortControlLink
  globallink : Word
  pc : Word
  deriving DecidableEq, Repr

/-- `GlobalBase` (R75). -/
def globalBase (frame : Word) : Word := frame - 4

/-- `LocalBase` (R78). -/
def localBase (frame : Word) : Word := frame - 4

/-- The overhead words of a global frame, as they stand in memory (R74). -/
def State.globalOverhead (s : State) (frame : Word) : GlobalOverhead :=
  let w (k : Word) : Word := s.wordAt (s.lengthenPointer (globalBase frame + k))
  ⟨w 0, globalWord (w 1), Long.ofHalves (w 3) (w 2)⟩

/-- The overhead words of a local frame, as they stand in memory (R77). -/
def State.localOverhead (s : State) (frame : Word) : LocalOverhead :=
  let w (k : Word) : Word := s.wordAt (s.lengthenPointer (localBase frame + k))
  ⟨localWord (w 0), w 1, w 2, w 3⟩

/-! Control links of a module (R80, R629). -/

/-- The two places where a module may keep control links (R80). -/
inductive LinkPlace where
  /-- immediately before the overhead words of its global frame -/
  | globalFrame
  /-- immediately before the word that the code base points to -/
  | codeSegment
  deriving DecidableEq, Repr

/-- The place that the current module uses: the `codelinks` bit of its global frame selects it (R74, R80); that a set bit selects the code
segment is DEDUCED from its name (log 59). How the bit is got, by an access through the map or from a cached word (R76, R79), is lost: it is read as
memory stands, with no access, fault or flag (DESIGN CHOICE, log 60). -/
def State.linkPlace (s : State) : LinkPlace :=
  if (s.globalOverhead s.gf).word.codelinks then .codeSegment else .globalFrame

/-- Where control link `i` of a place stands: two words each, counted from the words they precede (R16, R80); that link 0 is the nearest
is DEDUCED (log 59). Short pointers wrap (R75). -/
def State.linkAddress (s : State) (place : LinkPlace) (i : Nat) : Long :=
  match place with
  | .globalFrame => s.lengthenPointer (globalBase s.gf - BitVec.ofNat 16 (2 * (i + 1)))
  | .codeSegment => s.cb - BitVec.ofNat 32 (2 * (i + 1))

/-- The control link at a place stays in the 64K bank of the code base (R81). -/
def State.linkInBank (s : State) (place : LinkPlace) (i : Nat) : Bool :=
  match place with
  | .globalFrame => true
  | .codeSegment => decide (2 * (i + 1) ≤ (Long.low s.cb).toNat)

/-- Control link `i` of the current module, its low word first (R80, R622); one in another bank than the code base is refused (R81, U11).
The instructions that read links are lost (R640). -/
def fetchControlLink (i : Nat) : Act ControlLink := do
  let s ← get
  if s.linkInBank s.linkPlace i then readDbl (s.linkAddress s.linkPlace i) else refuse .codeCrossesBank

/-! The tables of control links in a main data space. -/

/-- Entry `i` of a table of control links at a short pointer: entries are two words (R16, R135). -/
def linkEntry (table : Word) (i : Nat) : Word := table + BitVec.ofNat 16 (2 * i)

/-- `@SD[i]`: entry `i` of the system data table (R135). -/
def sdEntry (c : Config) (i : Nat) : Word := linkEntry c.mSD i

/-- Entry `i` of the ESC trap table, indexed by the second opcode byte (R135, R691). -/
def ettEntry (c : Config) (i : Byte) : Word := linkEntry c.mETT i.toNat

/-- `Fetch` of the control link at a table entry, its low word first (R119, R622). -/
def fetchLink (entry : Word) : Act ControlLink := readDblMds entry

/-- The destination of the initial `XFER`: `@SD[sBoot]`, an indirect link where its tag says so (R731); the transfer is lost. -/
def bootLink (c : Config) : ControlLink := lengthen (sdEntry c c.sd.boot)

end Sys2Proof.Machine
end

