-- ==== Sys2Proof/Safety.lean ====
section
/-! DEFINITION. The words in which claims about the machine are stated: what is on the stack, which accesses succeed, the
state after accesses, and the invariant of every step. -/

namespace Sys2Proof.Machine

/-- The words `ws` stand in a stack from index `base` on. -/
def wordsFrom (st : List Word) : Nat → List Word → Prop
  | _, [] => True
  | base, w :: ws => st.getD base 0 = w ∧ wordsFrom st (base + 1) ws

/-- The top of the evaluation stack holds `ws`, the last one on top, above `base` other words. -/
def State.holds (s : State) (base : Nat) (ws : List Word) : Prop :=
  s.sp = base + ws.length ∧ s.sp ≤ s.stack.length ∧ wordsFrom s.stack base ws

/-- A stack with the words `ws` written from index `base` on. -/
def setWords (st : List Word) (base : Nat) : List Word → List Word
  | [] => st
  | w :: ws => setWords (st.set base w) (base + 1) ws

/-- The state with `ws` on the stack above `base` words, and the words `above` left above the top. -/
def State.result (s : State) (base : Nat) (ws above : List Word) : State :=
  { s with stack := setWords s.stack base (ws ++ above), sp := base + ws.length }

/-- There is room on the stack for `n` more words. -/
def State.room (s : State) (n : Nat) : Prop := s.sp + n ≤ s.stack.length

/-- There is a word of memory at `va`: the page is not vacant and its real page holds memory (R107, R108, R117). -/
def State.present (s : State) (va : Long) : Prop :=
  (s.entryOf va).isVacant = false ∧ s.cfg.realPage (s.realAddress va / 256) = true

/-- A plain load at `va` succeeds: there is a word, and it is no overhead word of the current frames (R79, R108). -/
def State.readable (s : State) (va : Long) : Prop := s.present va ∧ s.isOverhead va = false

/-- A write at `va` succeeds: there is a word, and the page is not protected (R108). -/
def State.writable (s : State) (va : Long) : Prop := s.present va ∧ (s.entryOf va).isProtected = false

/-- A plain store at `va` succeeds: a write does, and it is no overhead word of the current frames (R79, R108). -/
def State.storable (s : State) (va : Long) : Prop := s.writable va ∧ s.isOverhead va = false

/-- A read of code word `offset` succeeds: it lies in the code base's bank (R124) and a read does. -/
def State.codeReadable (s : State) (offset : Word) : Prop := s.codeInBank offset = true ∧ s.readable (s.codeAddress offset)

/-- No device acts during the instruction (D1), and every test for interrupts is made (R531; log 27). -/
abbrev State.undisturbed (s : State) : Prop := s.turns = []

/-- The devices' turns during the instruction raise wakeups only: they access no memory. Any test for interrupts may be omitted (R531). -/
def State.onlyWakeups (s : State) : Prop := ∀ d ∈ s.turns, d.accesses = []

/-- The state after `n` turns of the devices. -/
def State.takeTurns (s : State) : Nat → State
  | 0 => s
  | n + 1 => s.takeTurn.takeTurns n

/-- Plain loads at every address of a list succeed. -/
def State.readableAll (s : State) (vas : List Long) : Prop := ∀ va ∈ vas, s.readable va

/-- The state after reads at the addresses of a list: their map flags updated. -/
def State.reads (s : State) (vas : List Long) : State := vas.foldl (fun t va => t.touch va .read) s

/-- The state after a word is stored at `va`. -/
def State.storeWord (s : State) (va : Long) (w : Word) : State := (s.touch va .write).putWord va (s.realAddress va) w

/-- The state after the word at `src` is copied to `dst`. -/
def State.copyWord (s : State) (src dst : Long) : State := (s.touch src .read).storeWord dst (s.wordAt src)

/-- The byte of memory at byte address `a`. -/
def State.byteAt (s : State) (a : Nat) : Byte := Memory.byteAt s.mem a

/-- Byte address `a` is one of the two bytes of the word at virtual address `va`. -/
def State.inWord (s : State) (va : Long) (a : Nat) : Prop := a = 2 * s.realAddress va ∨ a = 2 * s.realAddress va + 1

/-- No interrupt is pending and no device acts during the instruction. -/
def State.quiet (s : State) : Prop := interruptPending s = false ∧ s.undisturbed

/-- A run of the machine stopped by nothing so far: no exception has been taken. -/
def State.safe (s : State) : Prop := s.exception = none

/-- What every step keeps: memory and map in canonical form, the stack pointers in their range (R45, R71), the low half of
`MDS` zero (R42), the first word of `PID` zero (R61), and only implemented flag bits of implemented pages in the map
(R102, R103). -/
structure State.Inv (s : State) : Prop where
  memoryWf : Memory.wf s.mem = true
  mapWf : Map.wf s.cfg s.map = true
  spBound : s.sp ≤ s.stack.length
  savedSpBound : s.savedSP ≤ s.stack.length
  mdsLow : Long.low s.mds = 0
  pidHigh : s.pid[0] = 0
  mapFlags : ∀ p ∈ s.map, p.2.flags &&& ~~~(implementedMapFlags s.cfg) = 0
  mapPages : ∀ p ∈ s.map, s.cfg.virtualPage p.1 = true

/-- The map's start condition (R733): non-vacant entries are unprotected and lie on distinct real pages that are available at
initialization, every available real page is some page's (memory that is not available may stay unmapped), and the pages of the boot area and of the I/O area are non-vacant. -/
def State.mapReady (s : State) : Prop :=
  (∀ vp, (s.readMap vp).isVacant = false →
    (s.readMap vp).isProtected = false ∧ s.cfg.availablePage (s.readMap vp).real.toNat = true) ∧
  (∀ vp vq, (s.readMap vp).isVacant = false → (s.readMap vq).isVacant = false →
    (s.readMap vp).real = (s.readMap vq).real → vp = vq) ∧
  (∀ rp, s.cfg.availablePage rp = true → ∃ vp, (s.readMap vp).isVacant = false ∧ (s.readMap vp).real.toNat = rp) ∧
  (∀ vp, (s.cfg.bootArea.holds vp = true ∨ s.cfg.ioArea.holds vp = true) → (s.readMap vp).isVacant = false)

/-! The code stream. -/

/-- The virtual address of the code word that holds the byte `k` bytes after `PC` (R56, R123). -/
def State.codeWordAt (s : State) (k : Nat) : Long := s.codeAddress ((s.pc + BitVec.ofNat 16 k) >>> 1)

/-- The code word that holds the byte `k` bytes after `PC` is fetched as memory has it: it lies in the code base's bank (R124), a read
succeeds, and it has not been stored to while the segment is current (D6). -/
def State.fetchable (s : State) (k : Nat) : Prop :=
  s.codeReadable ((s.pc + BitVec.ofNat 16 k) >>> 1) ∧ ∀ p ∈ s.codeWrites, p.1 ≠ s.codeWordAt k

/-- The code byte `k` bytes after `PC`: the left byte of its word at an even offset, the right byte at an odd one (R164). -/
def State.codeByte (s : State) (k : Nat) : Byte :=
  if (s.pc + BitVec.ofNat 16 k).getLsbD 0 then Word.right (s.wordAt (s.codeWordAt k))
  else Word.left (s.wordAt (s.codeWordAt k))

/-- The state after `n` code bytes are fetched: their pages referenced, `PC` past them (R164). -/
def State.afterFetch (s : State) : Nat → State
  | 0 => s
  | n + 1 => State.afterFetch { s.touch (s.codeAddress (s.pc >>> 1)) .read with pc := s.pc + 1 } n

/-! Block transfers. -/

/-- The state after word copies in order, each from its first address to its second. -/
def State.copies (s : State) (ps : List (Long × Long)) : State := ps.foldl (fun t p => t.copyWord p.1 p.2) s

/-- Every copy of a list can read its source and write its destination. -/
def State.copyable (s : State) (ps : List (Long × Long)) : Prop := ∀ p ∈ ps, s.readable p.1 ∧ s.storable p.2

/-- The word address of a byte position (R136). -/
def BytePosition.address (p : BytePosition) : Long := byteAddress p.base (lengthen p.offset)

/-- The `n` byte positions from `p` on (R550, R551). -/
def bytePath (advance : BytePosition → BytePosition) (p : BytePosition) : Nat → List BytePosition
  | 0 => []
  | n + 1 => p :: bytePath advance (advance p) n

/-- The state after the byte at `p` is copied to `q` (R136, R137). -/
def State.copyByte (s : State) (p q : BytePosition) : State :=
  ((s.touch p.address .read).touch q.address .read).storeWord q.address
    (replaceByte (s.wordAt q.address) (lengthen q.offset) (selectByte (s.wordAt p.address) (lengthen p.offset)))

/-- The state after byte copies in order. -/
def State.byteCopies (s : State) (ps : List (BytePosition × BytePosition)) : State :=
  ps.foldl (fun t p => t.copyByte p.1 p.2) s

/-- Every byte copy of a list can read its source and write its destination. -/
def State.byteCopyable (s : State) (ps : List (BytePosition × BytePosition)) : Prop :=
  ∀ p ∈ ps, s.readable p.1.address ∧ s.storable p.2.address

/-! BITBLT and TXTBLT. -/

/-- The addresses of the `n` words of the main data space from `ptr` on. -/
def State.recordAddresses (s : State) (ptr : Word) (n : Nat) : List Long :=
  (List.range n).map fun k => s.lengthenPointer (ptr + BitVec.ofNat 16 k)

/-- The `n` words of the main data space from `ptr` on. -/
def State.record (s : State) (ptr : Word) (n : Nat) : List Word := (s.recordAddresses ptr n).map s.wordAt

/-- What `Setup` makes of the argument at `ptr` (R584, R586, R587). -/
def State.bitBltOf (s : State) (ptr : Word) : BitBltState :=
  bitBltStart (computeDirection s.cfg (bitBltInitial (bitBltArg (s.record ptr 12))))

/-- The argument at `ptr` passes every test of `Setup` (R589). -/
def State.bitBltLegal (s : State) (ptr : Word) : Prop :=
  ptr &&& 0x000F = 0 ∧ bitBltError (bitBltArg (s.record ptr 12)) = false

/-- How many lines a BITBLT still has to move (R583). -/
def BitBltState.linesLeft (b : BitBltState) : Nat :=
  match b.yDirection with
  | .forward => b.arg.height.toNat - b.line.toNat
  | .backward => if b.line.toNat < b.arg.height.toNat then b.line.toNat + 1 else 0

/-- The offset of the `k`th bit of a line that is moved (R585). -/
def bitBltOffset (b : BitBltState) (k : Nat) : Word :=
  match b.xDirection with
  | .forward => BitVec.ofNat 16 k
  | .backward => b.arg.width - 1 - BitVec.ofNat 16 k

/-- Where the `k`th bit of a line goes (R585). -/
def bitBltTarget (b : BitBltState) (k : Nat) : BitAddress := bump b.arg.dst (lengthenSigned (bitBltOffset b k))

/-- Where the `k`th bit of a line comes from (R585). -/
def bitBltOrigin (b : BitBltState) (k : Nat) : BitAddress :=
  bump b.arg.src (lengthenSigned (sourceOffset b (bitBltOffset b k)))

/-- The bit at a bit address (R571, R573). -/
def State.bitAt (s : State) (a : BitAddress) : Bool := bitOf (s.wordAt a.word) a.bit

/-- The state after the `k`th bit of a line is moved: destination and source are read, then the destination is read and
written (R573, R585). -/
def State.moveBit (s : State) (b : BitBltState) (k : Nat) : State :=
  let d := bitBltTarget b k
  let v := bitBltOrigin b k
  (((s.touch d.word .read).touch v.word .read).touch d.word .read).storeWord d.word
    (setBit (s.wordAt d.word) d.bit (bitFunction b.arg.flags (s.bitAt d) (s.bitAt v)))

/-- The state after a line is moved (R585). -/
def State.moveLine (s : State) (b : BitBltState) : State :=
  (List.range b.arg.width.toNat).foldl (fun t k => t.moveBit b k) s

/-- The state after `n` lines are moved (R583). -/
def State.moveLines (s : State) (b : BitBltState) (n : Nat) : State :=
  (List.range n).foldl (fun t j => t.moveLine (skipLines j b)) s

/-- Every bit of the `n` lines can be read where it comes from and written where it goes. -/
def State.movable (s : State) (b : BitBltState) (n : Nat) : Prop :=
  ∀ j < n, ∀ k < b.arg.width.toNat,
    s.storable (bitBltTarget (skipLines j b) k).word ∧ s.readable (bitBltOrigin (skipLines j b) k).word

/-- A BITBLT or TXTBLT of the argument record `record` at `ptr` is no restart of one that was suspended with another record (R590,
R605, U25). -/
def State.restartable (s : State) (ptr : Word) (record : List Word) : Prop :=
  ∀ u, s.suspended = some u → u.pc = s.savedPC → u.stack = s.stack.take s.sp → u.ptr = ptr → u.record = record

/-- The suspension that is still remembered after a restart with argument pointer `ptr` (R590, R605; log 51). -/
def State.suspensionLeft (s : State) (ptr : Word) : Option Suspension :=
  match s.suspended with
  | none => none
  | some u => if u.pc = s.savedPC ∧ u.stack = s.stack.take s.sp ∧ u.ptr = ptr then none else some u

/-- The argument at `ptr` passes every test that TXTBLT makes of it before it starts its scan with the operands `t` (R604 to R606). -/
def State.txtBltLegal (s : State) (ptr : Word) (t : TxtState) : Prop :=
  ptr &&& 0x000F = 0 ∧ txtBltArgError (txtBltArg (s.record ptr 13)) = false ∧
    s.txtBltMemoryError ptr (txtBltArg (s.record ptr 13)) t = false

/-- No position that the scan of `a` from the operands `t` on comes to is beyond 32767 (R604): as memory stands, or, whatever the
characters are and whatever the font format, since a width is at most 255 and a pad character adds at most `space` and one. -/
def State.positionsFit (s : State) (a : TxtBltArg) (t : TxtState) : Prop :=
  (s.cfg.fontFormat = .packed ∧ ∀ u ∈ s.txtStates a txtBltFuel t, u.bitPos.toNat ≤ 32767) ∨
    (a.last ≠ 0xFFFF ∧ t.bitPos.toNat + (256 + a.space.toNat) * (a.last.toNat + 1 - t.index.toNat) ≤ 32767)

/-- Line `n` of a character in the destination bitmap of TXTBLT (R608). -/
def displayLineAt (a : TxtBltArg) : Nat → BitAddress
  | 0 => ⟨a.dst, 0⟩
  | n + 1 => bump (displayLineAt a n) (lengthen a.dstBpl)

/-- Where bit `k` of line `n` of a character goes, its first column at `pos` (R608). -/
def displayTarget (a : TxtBltArg) (pos : Word) (n k : Nat) : BitAddress :=
  bump (displayLineAt a n) (lengthenSigned (pos + BitVec.ofNat 16 k))

/-- The operands after a character is processed (R605, R609). -/
def CharacterView.after (v : CharacterView) (a : TxtBltArg) (index bitPos printPos count : Word) : List Word :=
  let pad := v.flags.getLsbD 7
  let wider : Word := if pad ∧ a.function ≠ .format then a.space + (if count.toInt < 0 then 1 else 0) else 0
  [index + 1, bitPos + v.spacing + wider, printPos + v.printing, if pad then count + 1 else count]

/-- The word that holds bit `m` of a character's raster (R603). -/
def State.rasterWordAt (s : State) (a : TxtBltArg) (v : CharacterView) (m : Nat) : Long :=
  s.longAt a.font + (v.raster.extractLsb' 0 14).setWidth 32 + lengthen (BitVec.ofNat 16 m >>> 4)

/-- Bit `m` of a character's raster, its first bit the most significant (R603). -/
def State.rasterBitAt (s : State) (a : TxtBltArg) (v : CharacterView) (m : Nat) : Bool :=
  bitOf (s.wordAt (s.rasterWordAt a v m)) (BitVec.ofNat 4 m)

/-- The words that the scan of one character reads besides its raster (R602, R607, R608). -/
def State.characterWords (s : State) (a : TxtBltArg) (index : Word) : List Long :=
  let char := (s.characterAt a index).char
  (List.range 11).map (fun k => a.font + BitVec.ofNat 32 k) ++
    [a.text + (index >>> 1).setWidth 32, s.longAt (a.font + 2) + (char >>> 1).setWidth 32,
      s.longAt (a.font + 4) + char.setWidth 32, s.longAt (a.font + 6) + (char >>> 1).setWidth 32,
      s.longAt (a.font + 8) + char.setWidth 32]

/-- None of these words is an overhead word of the current frames, which a plain load must not read (R79; log 58). -/
def State.clear (s : State) (vas : List Long) : Prop := ∀ va ∈ vas, s.isOverhead va = false

/-- The words that a format or resolve scan of the argument at `ptr` from the operands `t` on reads, as memory stands (R605, R606). -/
def State.scanWords (s : State) (ptr : Word) (t : TxtState) : List Long :=
  let a := txtBltArg (s.record ptr 13)
  s.recordAddresses ptr 13 ++
    ((s.txtStates a txtBltFuel t).filter fun u => decide (u.index ≤ a.last)).flatMap fun u => s.characterWords a u.index

end Sys2Proof.Machine
end

