-- ==== Sys2Proof/Certificates/Slice0/Obligations.lean ====
section
/-! DEFINITION. The statements about the machine. `State.holds s base ws`: the stack holds `base` words and then `ws`, the last
on top; `State.result s base ws above`: the same state with `ws` there and `above` left over the top; `State.undisturbed s`: no
device acts during the instruction (what devices do is in Environment) and every test for interrupts is made; `State.readable s va`
and `State.storable s va`: a plain load, a plain store at `va` succeeds (one of an overhead word of the current frames, which is
refused, see Refusals; log 18, 58). A statement that ends in `exec i s = .next t` says that the
instruction completes, with everything `t` does not change left as it was. -/

section Statements
open Sys2Proof Sys2Proof.Machine

/-! Encoding. -/

/-- Decode and encode agree, whatever the opcode assignment (30_encoding.md R161, R170 to R173): every well-formed instruction, with every
operand, is read back from its bytes if the processor implements it; if not, the opcode is read as an unassigned one (R169, R176). One
whose routine is lost is read back in any case, since it is refused and does not trap (R640; log 54). An instruction for an unassigned
extended opcode is well-formed by the recalled byte that its own stands for. The recalled values are PRESUMED (log 2). -/
def Obligations.DecodeEncode : Prop :=
  ∀ (c : Config) (i : Instr), (i.mapSecond c.opcodes.second).wellFormed = true →
    let bs := encodeFor c.opcodes i
    let c0 := c.opcodes.first (byteOf bs 0)
    let c1 := c.opcodes.second c0 (byteOf bs 1)
    (c.unimplemented.lacksSingle c0 = false → c.unimplemented.lacksExtended c0 c1 = false → decodeBytesFor c bs = .instr i) ∧
    (c.unimplemented.lacksSingle c0 = true → decodeBytesFor c bs = .unassigned (byteOf bs 0)) ∧
    (c.unimplemented.lacksExtended c0 c1 = true →
      decodeBytesFor c bs = .instr (if c0 = 0xF8 then .esc (byteOf bs 1) else .escl (byteOf bs 1))) ∧
    (i.isLost = true → decodeBytesFor c bs = .instr i)

/-- The other direction: an instruction read from bytes is written as those bytes, as many of them as are fetched (R164,
R167). No byte of an instruction is dropped. The byte values are PRESUMED (log 2). -/
def Obligations.EncodeDecode : Prop :=
  ∀ (b0 b1 b2 : Byte) (i : Instr), decode b0 b1 b2 = .instr i → encode i = [b0, b1, b2].take (fetchLength b0 b1)

/-- A few instructions read from bytes written out from the formats of R161 and the recalled values of R173. The byte values are
PRESUMED (log 2). -/
def Obligations.DecodeExamples : Prop :=
  decodeBytes [0x04] = .instr .ll3 ∧
  decodeBytes [0x0D, 0x05] = .instr (.llb 0x05) ∧
  decodeBytes [0x57, 0x21] = .instr (.rlip ⟨2, 1⟩) ∧
  decodeBytes [0x66, 0x02, 0x43] = .instr (.rf ⟨0x02, ⟨4, 3⟩⟩) ∧
  decodeBytes [0x6A, 0x21, 0x43] = .instr (.rlipf ⟨2, 1⟩ ⟨4, 3⟩) ∧
  decodeBytes [0x89, 0xFF, 0x00] = .instr (.jw 0xFF00) ∧
  decodeBytes [0x8C, 0x41, 0x06] = .instr (.jebb 0x41 0x06) ∧
  decodeBytes [0xCE, 0x12, 0x34] = .instr (.liw 0x1234) ∧
  decodeBytes [0xB5] = .instr .add ∧
  decodeBytes [0xF3] = .instr .blt ∧
  decodeBytes [0xF8, 0x31] = .instr .sdiv ∧
  decodeBytes [0xF8, 0x71] = .instr .wrmds ∧
  decodeBytes [0xF9, 0x1E, 0x02] = .instr (.rob 0x02) ∧
  decodeBytes [0xF8, 0x00] = .instr (.esc 0x00)

/-! The main loop. -/

/-- A step runs the decoded instruction (R166, R167, R670): with no exception taken, no interrupt and no timeout, a context placed as
the manual has it and no device acting during the step, the step is the instruction at `PC`, in the state with the context saved and
`PC` past exactly the bytes that are fetched: all of them, or the opcode alone where the routine is lost (R640). -/
def Obligations.StepRunsInstruction : Prop :=
  ∀ (s : State) (i : Instr), s.exception = none → s.scan = none → s.timeoutNow = false →
    let t := s.withEnvironment
    let n := fetchLengthFor t.cfg (t.codeByte 0) (t.codeByte 1)
    interruptPending t = false → t.running = true → t.contextLegal = true → t.undisturbed →
    decodeFor t.cfg (t.codeByte 0) (t.codeByte 1) (t.codeByte 2) = .instr i →
    (∀ k < n, t.fetchable k) →
    step s = exec i (t.saveContext.afterFetch n)

/-- A first byte that no instruction has (R169, R176, R691): the step takes OpcodeTrap with that byte, `PC` back at it and `SP` as it
was. A first byte of 0 or 255 (R163) is refused, the model's choice for an undefined case (log 41).

An extended opcode that no rule implements takes EscOpcodeTrap with its second byte (R167, R169, R176, R691); so does `NILCK`, which
the source names but does not define (R256; log 42). The form of a trap, a next state, is the model's choice (log 5). -/
def Obligations.UnassignedOpcodes : Prop :=
  (∀ s : State, s.exception = none → s.scan = none → s.timeoutNow = false →
     let t := s.withEnvironment
     interruptPending t = false → t.running = true → t.contextLegal = true → t.undisturbed → t.fetchable 0 →
     (∀ b : Byte, decodeFor t.cfg (t.codeByte 0) 0 0 = .unassigned b →
       b = t.codeByte 0 ∧
       step s = .next { t.touch (t.codeWordAt 0) .read with
         savedPC := t.pc, savedSP := t.sp, exception := some (.trap (.opcodeTrap b)) }) ∧
     (t.codeByte 0 = 0 ∨ t.codeByte 0 = 0xFF → step s = .refused (.reservedOpcode (t.codeByte 0)))) ∧
  (∀ (s : State) (b : Byte),
     exec (.esc b) s = .next (takeException (.trap (.escOpcodeTrap b)) s) ∧
     exec (.escl b) s = .next (takeException (.trap (.escOpcodeTrap b)) s) ∧
     exec .nilck s = .next (takeException (.trap (.escOpcodeTrap (s.cfg.opcodes.secondBack 0xF8 0x25))) s))

/-- The checks come before the instruction, which is then not started (R670); with `running` false nothing is executed. R640 and R670 give
an accepted interrupt or timeout the outcome Rescheduled; that it is a next state with the exception `reschedule` recorded, which the
following step then reports, is the model's choice (log 5). When an interrupt is pending is a parameter, its default D19 PRESUMED (log
25); a machine that does not run waits (log 44). A `TXTBLT` that is still scanning goes on without the checks, the model's choice (log
40). -/
def Obligations.ChecksBeforeInstruction : Prop :=
  ∀ s : State, s.exception = none →
    (∀ scan, s.scan = some scan → step s = continueScan scan s.withEnvironment) ∧
    (s.scan = none →
      (interruptPending s.withEnvironment = true ∨ s.timeoutNow = true →
        step s = .next { s.withEnvironment with exception := some .reschedule }) ∧
      (interruptPending s.withEnvironment = false → s.timeoutNow = false → s.withEnvironment.running = false →
        step s = .next s.withEnvironment)) ∧
    (s.cfg.interruptRule = .wakeupsEnabled → (interruptPending s = true ↔ s.wp ≠ 0 ∧ s.wdc = 0))

/-- A page fault on the fetch of any byte of an instruction (R164, R683, R688): the step takes it with the address of the
code word, `PC` at the first byte; the words before it stay referenced. The form of the fault, a next state, is the model's
choice (log 5). -/
def Obligations.FetchFault : Prop :=
  ∀ (s : State) (k : Nat), s.exception = none → s.scan = none → s.timeoutNow = false →
    let t := s.withEnvironment
    interruptPending t = false → t.running = true → t.contextLegal = true → t.undisturbed →
    k < fetchLengthFor t.cfg (t.codeByte 0) (t.codeByte 1) →
    (∀ j < k, t.fetchable j) → t.codeInBank ((t.pc + BitVec.ofNat 16 k) >>> 1) = true →
    (t.entryOf (t.codeWordAt k)).isVacant = true →
    step s = .next { t.saveContext.afterFetch k with
      pc := t.pc, sp := t.sp, exception := some (.fault .pageFault (t.codeWordAt k)) }

/-- Taking a trap or a fault restores `PC` and `SP` to the values saved before the instruction and changes nothing else but
the record of it; an accepted interrupt restores nothing (R683, R689, R670). Return runs the saved context again (R706). The
form, a next state with the exception recorded, is the model's choice (log 5).

After an exception the run ends at the lost transfer to its handler, with the outcome that R640 names; the form is the
model's choice (log 5). -/
def Obligations.Exceptions : Prop :=
  (∀ (s : State) (t : Trap) (k : FaultKind) (va : Long),
     takeException (.trap t) s = { s with pc := s.savedPC, sp := s.savedSP, exception := some (.trap t) } ∧
     takeException (.fault k va) s = { s with pc := s.savedPC, sp := s.savedSP, exception := some (.fault k va) } ∧
     takeException .reschedule s = { s with exception := some .reschedule } ∧
     returnFromException (takeException (.trap t) s) = { s with pc := s.savedPC, sp := s.savedSP, exception := none }) ∧
  (∀ (s : State) (t : Trap) (k : FaultKind) (va : Long),
     (s.exception = some (.trap t) → step s = .fault (.trapped t)) ∧
     (s.exception = some (.fault k va) → step s = .fault (.faulted k va)) ∧
     (s.exception = some .reschedule → step s = .fault .rescheduled))

/-! Reset and invariants. -/

/-- The values that the spec gives for reset (10_state.md R83). -/
def Obligations.ResetValues : Prop :=
  let r := State.reset
  r.wp = 0 ∧ r.wdc = 1 ∧ r.xts = 0 ∧ r.time = r.it ∧ r.running = true ∧ r.sp = 0 ∧ r.breakByte = 0 ∧ r.psb = 0 ∧ r.mds = 0

/-- The invariant holds at reset, and the map that the model chooses there (log 10) meets the condition that R733 puts on
it. -/
def Obligations.ResetInvariant : Prop :=
 State.reset.Inv ∧ State.reset.mapReady

/-- Every step keeps the invariant: canonical memory and map, the stack pointers in range (R45), the low half of `MDS` zero
(R42), `PID[0]` zero (R61), only implemented flag bits and pages in the map (R102, R103). -/
def Obligations.InvariantKept : Prop :=
  ∀ s t : State, s.Inv → step s = .next t → t.Inv

/-- Which instruction may change which register: none changes `LF`, `GF`, `CB`, `PID`, `WM`, `break`, `savedPC`, `running`, the
depth of the stack or the parameters; `MDS`, `PSB`, `XTS`, `WDC`, `PTC`, `time`, `MP`, `IT` each change by one write instruction
only, and `WP`, where no device acts, by `WRWP` only (R219 to R227, R240, R312, R360). In a whole step, its environment and the checks
included, those that no instruction changes stay, but for the `savedPC` that the step sets.

No instruction writes a flag, because the machine has none (R32, R60): the fields named last are all that an instruction may write. -/
def Obligations.RegisterOwnership : Prop :=
  (∀ (i : Instr) (s t : State), exec i s = .next t →
     (t.lf = s.lf ∧ t.gf = s.gf ∧ t.cb = s.cb ∧ t.pid = s.pid ∧ t.wm = s.wm ∧ t.breakByte = s.breakByte ∧
       t.savedPC = s.savedPC ∧ t.running = s.running ∧ t.stack.length = s.stack.length ∧ t.cfg = s.cfg ∧
       t.inputs = s.inputs) ∧
     (i ≠ .wrmds → t.mds = s.mds) ∧ (i ≠ .wrpsb → t.psb = s.psb) ∧ (i ≠ .wrxts → t.xts = s.xts) ∧
     (i ≠ .wrwdc → t.wdc = s.wdc) ∧ (i ≠ .wrptc → t.ptc = s.ptc ∧ t.time = s.time) ∧ (i ≠ .wrmp → t.mp = s.mp) ∧
     (i ≠ .writ → t.it = s.it) ∧ (i ≠ .wrwp → s.undisturbed → t.wp = s.wp) ∧
     t = { s with
       stack := t.stack, sp := t.sp, savedSP := t.savedSP, pc := t.pc, mds := t.mds, mp := t.mp, it := t.it, wp := t.wp
       wdc := t.wdc, ptc := t.ptc, time := t.time, xts := t.xts, psb := t.psb, map := t.map, mem := t.mem
       exception := t.exception, freeIndex := t.freeIndex, turns := t.turns, codeWrites := t.codeWrites, scan := t.scan
       suspended := t.suspended }) ∧
  (∀ s t : State, step s = .next t →
     t.lf = s.lf ∧ t.gf = s.gf ∧ t.cb = s.cb ∧ t.pid = s.pid ∧ t.wm = s.wm ∧ t.breakByte = s.breakByte ∧
       t.running = s.running ∧ t.stack.length = s.stack.length ∧ t.cfg = s.cfg ∧
       (t.savedPC = s.savedPC ∨ t.savedPC = s.pc))

/-- What the environment does (R118, R687, R712, R715, R716; log 25 to 27). Before a step it advances `IT`, ORs wakeups into `WP`, may
keep the books of the checks in `PTC` and `time`, and accesses memory; during one, at each turn, it ORs wakeups and accesses memory. It
changes no byte of memory but those of the words that the devices write, no page's real page, vacancy or protection, and no other
register.

One device access is one of the processor's, through the same map (R118): a write stores its word and sets the flags, and where the map
lets it only read, or do nothing, that is what happens (the model's choice, log 52). -/
def Obligations.Environment : Prop :=
  (∀ (s : State) (i : Input) (rest : List Input),
     (s.inputs = [] → s.withEnvironment = { s with turns := [] }) ∧
     (s.inputs = i :: rest →
       let t := s.withEnvironment
       t = { s with
         it := s.it + i.pulses, wp := s.wp ||| i.wakeups, ptc := (i.bookkeeping.getD (s.ptc, s.time)).1
         time := (i.bookkeeping.getD (s.ptc, s.time)).2, inputs := rest, turns := i.turns, map := t.map, mem := t.mem
         codeWrites := t.codeWrites, freeIndex := t.freeIndex } ∧
       (∀ a, (∀ va w, .write va w ∈ i.accesses → ¬ s.inWord va a) → t.byteAt a = s.byteAt a) ∧
       ∀ vp, (t.readMap vp).real = (s.readMap vp).real ∧ (t.readMap vp).isVacant = (s.readMap vp).isVacant ∧
         (t.readMap vp).isProtected = (s.readMap vp).isProtected)) ∧
  (∀ (s : State) (d : DeviceTurn) (rest : List DeviceTurn),
     (s.turns = [] → s.takeTurn = s) ∧
     (s.turns = d :: rest →
       let t := s.takeTurn
       t = { s with
         wp := s.wp ||| d.wakeups, turns := rest, map := t.map, mem := t.mem, codeWrites := t.codeWrites
         freeIndex := t.freeIndex } ∧
       (∀ a, (∀ va w, .write va w ∈ d.accesses → ¬ s.inWord va a) → t.byteAt a = s.byteAt a) ∧
       ∀ vp, (t.readMap vp).real = (s.readMap vp).real ∧ (t.readMap vp).isVacant = (s.readMap vp).isVacant ∧
         (t.readMap vp).isProtected = (s.readMap vp).isProtected)) ∧
  (∀ (s : State) (va : Long) (w : Word),
     (s.present va → s.deviceAccess (.read va) = s.touch va .read) ∧
     (¬ s.present va → s.deviceAccess (.read va) = s ∧ s.deviceAccess (.write va w) = s) ∧
     (s.writable va → s.deviceAccess (.write va w) = s.storeWord va w) ∧
     (¬ s.writable va → s.deviceAccess (.write va w) = s))

/-! Memory and the map. -/

/-- A read through the map (R108, R112, R140), after whatever devices do before it: on a vacant page PageFault with the full address and
nothing else changed, else the word of real memory, and `referenced` set in the page's entry, its real page and every other page's entry
as they were. The flags of a page resident in real memory need not be maintained (R110): what becomes of them there is open (log 47).

A write through the map (R108, R113): vacancy is tested first, then protection, both leaving everything as it was; else the word is
written and `referenced` and `dirty` are set. That a plain load or store of an overhead word of the current frames is refused is the
model's choice for what R79 forbids (log 18, 58), and so is a refusal where real memory has a gap (log 15; Refusals). -/
def Obligations.AccessRules : Prop :=
  (∀ (u : State) (va : Long),
     let s := u.takeTurn
     ((s.entryOf va).isVacant = true → fetch va u = .error (.exception (.fault .pageFault va)) s) ∧
     (s.readable va →
       fetch va u = .ok (Memory.wordAt s.mem (s.realAddress va)) (s.touch va .read) ∧
       (s.cfg.residentPage (virtualPageOf va) = false → ((s.touch va .read).entryOf va).isReferenced = true) ∧
       ((s.touch va .read).entryOf va).isProtected = (s.entryOf va).isProtected ∧
       ((s.touch va .read).entryOf va).isDirty = (s.entryOf va).isDirty ∧
       ((s.touch va .read).entryOf va).real = (s.entryOf va).real ∧
       ∀ vp, vp ≠ virtualPageOf va → (s.touch va .read).readMap vp = s.readMap vp) ∧
     (s.present va → s.isOverhead va = true →
       fetch va u = .error (.refused .overheadAccess) (s.touch va .read) ∧
       fetchOverhead va u = .ok (Memory.wordAt s.mem (s.realAddress va)) (s.touch va .read))) ∧
  (∀ (u : State) (va : Long) (w : Word),
     let s := u.takeTurn
     ((s.entryOf va).isVacant = true → store va w u = .error (.exception (.fault .pageFault va)) s) ∧
     ((s.entryOf va).isVacant = false → (s.entryOf va).isProtected = true →
       store va w u = .error (.exception (.fault .writeProtectFault va)) s) ∧
     (s.storable va →
       store va w u = .ok () (s.storeWord va w) ∧
       (s.cfg.residentPage (virtualPageOf va) = false →
         ((s.storeWord va w).entryOf va).isReferenced = true ∧ ((s.storeWord va w).entryOf va).isDirty = true) ∧
       ((s.storeWord va w).entryOf va).real = (s.entryOf va).real ∧
       ∀ vp, vp ≠ virtualPageOf va → (s.storeWord va w).readMap vp = s.readMap vp) ∧
     (s.writable va → s.isOverhead va = true → store va w u = .error (.refused .overheadAccess) (s.touch va .write)))

/-- A read after a write gives the word written; the left byte of a word is its most significant half; every other byte is as
it was (R113, R119).

Bytes of packed arrays (R136, R137): an even offset selects the left byte of its word and an odd one the right byte; a
stored byte reads back, and the other byte of the word is kept.

The map as an array (R104, R105): the entry written is the entry read, with unimplemented flag bits cleared and, unless
the flags are vacant, the real page; every other entry is as it was. Where real memory keeps its bytes is the model's choice
(log 12). -/
def Obligations.ReadAfterWrite : Prop :=
  (∀ (s : State) (va : Long) (w : Word), Memory.wf s.mem = true → s.writable va →
     (s.storeWord va w).wordAt va = w ∧
     (s.storeWord va w).byteAt (2 * s.realAddress va) = w.extractLsb' 8 8 ∧
     (s.storeWord va w).byteAt (2 * s.realAddress va + 1) = w.extractLsb' 0 8 ∧
     ∀ a, a ≠ 2 * s.realAddress va → a ≠ 2 * s.realAddress va + 1 → (s.storeWord va w).byteAt a = s.byteAt a) ∧
  (∀ (s : State) (ptr offset : Long) (b : Byte), Memory.wf s.mem = true → s.undisturbed → s.storable (ptr + (offset >>> 1)) →
     let va := ptr + (offset >>> 1)
     fetchByte ptr offset s = .ok (if offset.getLsbD 0 then (s.wordAt va).extractLsb' 0 8 else (s.wordAt va).extractLsb' 8 8)
       (s.touch va .read) ∧
     ∃ t, storeByte ptr offset b s = .ok () t ∧
       t.wordAt va = (if offset.getLsbD 0 then (s.wordAt va).extractLsb' 8 8 ++ b else b ++ (s.wordAt va).extractLsb' 0 8)) ∧
  (∀ (s : State) (vp : Nat) (flags : Word) (real : Long), Map.wf s.cfg s.map = true → s.cfg.virtualPage vp = true →
     ((s.writeMap vp flags real).readMap vp).flags = flags &&& implementedMapFlags s.cfg ∧
     (vacantFlags flags = false → ((s.writeMap vp flags real).readMap vp).real = real) ∧
     ∀ vq, vq ≠ vp → (s.writeMap vp flags real).readMap vq = s.readMap vq)

/-! Map, pointer and register instructions (40_map_pointer_register.md). -/

/-- `SM`, `GMF` and `SMF` (R200 to R202), where the change is legal (R106, R125): the entry is replaced, read, or read and
given new flags; the map instructions touch no memory. For a page outside the implemented virtual memory `SM` changes no entry (D3; log
14).

`GMF` and `SMF` of a vacant entry (R201, R202): the flags are pushed, the real page is some value the spec leaves open
(log 21), and the entry stays vacant: the new flags are ignored. What makes a change legal, and that others are refused, is
the model's choice (log 16, 17). -/
def Obligations.MapInstructions : Prop :=
  (∀ (s : State) (base : Nat) (vpLow vpHigh rpLow rpHigh mf : Word),
     let vp := (Long.ofHalves vpHigh vpLow).toNat
     let rp := Long.ofHalves rpHigh rpLow
     let e := s.readMap vp
     (s.holds base [vpLow, vpHigh, rpLow, rpHigh, mf] →
       (s.cfg.virtualPage vp = false ∨
         (vacantFlags mf = true ∨ aliased s vp rp = false) ∧ codePageViolation s vp mf = false) →
       exec .sm s = .next { s.writeMap vp mf rp with sp := base }) ∧
     (s.holds base [vpLow, vpHigh] → s.room 1 → e.isVacant = false →
       exec .gmf s = .next (s.result base [e.flags, Long.low e.real, Long.high e.real] [])) ∧
     (s.holds base [vpLow, vpHigh, mf] → e.isVacant = false → (vacantFlags mf = true ∨ aliased s vp e.real = false) →
       codePageViolation s vp mf = false →
       exec .smf s = .next ((s.writeMap vp mf e.real).result base [e.flags, Long.low e.real, Long.high e.real] []))) ∧
  (∀ (s : State) (base : Nat) (vpLow vpHigh mf : Word),
     let e := s.readMap (Long.ofHalves vpHigh vpLow).toNat
     e.isVacant = true →
     (s.holds base [vpLow, vpHigh] → s.room 1 → ∃ rp : Long, ∃ n : Nat,
       exec .gmf s = .next { s.result base [e.flags, Long.low rp, Long.high rp] [] with freeIndex := n }) ∧
     (s.holds base [vpLow, vpHigh, mf] → ∃ rp : Long, ∃ n : Nat,
       exec .smf s = .next { s.result base [e.flags, Long.low rp, Long.high rp] [] with freeIndex := n }))

/-- `LP` (R204) with short NIL a special case, `ROB` (R205) and `WOB` (R206) with an operand of 1 to 4, which alone may access overhead
words (R79). Other operands are refused, the model's choice (log 23). -/
def Obligations.PointerAndOverhead : Prop :=
  ∀ (s : State) (base : Nat) (ptr data : Word) (alpha : Byte),
    (s.holds base [ptr] → s.room 1 →
      exec .lp s = .next (s.result base
        [Long.low (if ptr = 0 then 0 else s.mds + ptr.setWidth 32), Long.high (if ptr = 0 then 0 else s.mds + ptr.setWidth 32)]
        [])) ∧
    (1 ≤ alpha.toNat → alpha.toNat ≤ 4 → s.undisturbed →
      let va := s.lengthenPointer (ptr - alpha.setWidth 16)
      (s.holds base [ptr] → s.present va → exec (.rob alpha) s = .next ((s.reads [va]).result base [s.wordAt va] [])) ∧
      (s.holds base [data, ptr] → s.writable va →
        exec (.wob alpha) s = .next { s.storeWord va data with sp := base }))

/-- The register reads push their register (R212 to R218); `RRPSB` pushes `Handle` of `PSB`, an open function (log 24).

The register writes pop into their register and change nothing else (R219 to R226); without a maintenance panel `WRMP`
drops the word (D11, log 29), and `WRPSB` writes `Index` of the word, an open function (log 24). `WRMDS` does so whether or not matching
frames exist in the new space, which the model does not test, its choice (R220, log 61). A wakeup that a device raises during
`WRWP` is kept or lost, bit by bit an open value (R225, U15; log 28). -/
def Obligations.Registers : Prop :=
  (∀ s : State,
     (s.room 1 → ∀ p ∈ ([(.rrmds, s.mds.extractLsb' 16 16), (.rrpsb, psbHandle s.psb), (.rrptc, s.ptc), (.rrwdc, s.wdc),
         (.rrwp, s.wp), (.rrxts, s.xts)] : List (Instr × Word)), exec p.1 s = .next (s.result s.sp [p.2] [])) ∧
     (s.room 2 → exec .rrit s = .next (s.result s.sp [s.it.extractLsb' 0 16, s.it.extractLsb' 16 16] []))) ∧
  (∀ (s : State) (base : Nat) (v high : Word), s.holds base [v] →
     exec .wrmds s = .next { s with sp := base, mds := Long.ofHalves v 0 } ∧
     exec .wrmp s = .next { s with sp := base, mp := if s.cfg.hasMp then v else s.mp } ∧
     exec .wrpsb s = .next { s with sp := base, psb := psbIndex v } ∧
     exec .wrptc s = .next { s with sp := base, ptc := v, time := s.it } ∧
     exec .wrwdc s = .next { s with sp := base, wdc := v } ∧
     (s.undisturbed → exec .wrwp s = .next { s with sp := base, wp := v }) ∧
     (∀ d rest, s.turns = d :: rest → ∃ (kept : Word) (n : Nat), exec .wrwp s =
       .next { s.takeTurn with sp := base, wp := v ||| (d.wakeups &&& kept), freeIndex := n }) ∧
     exec .wrxts s = .next { s with sp := base, xts := v } ∧
     ∀ u : State, u.holds base [v, high] → exec .writ u = .next { u with sp := base, it := Long.ofHalves high v })

/-! Stack instructions (41_stack.md). -/

/-- Recover, discard, exchange and duplicate (R241 to R244, R246 to R250); discarded words stay above the top. -/
def Obligations.StackRearranging : Prop :=
  ∀ (s : State) (base : Nat) (a b c d : Word),
    (s.room 1 → exec .recover s = .next { s with sp := s.sp + 1 }) ∧
    (s.room 2 → exec .recover2 s = .next { s with sp := s.sp + 2 }) ∧
    (s.holds base [a] → exec .dis s = .next { s with sp := base }) ∧
    (s.holds base [a, b] → exec .dis2 s = .next { s with sp := base }) ∧
    (s.holds base [a, b] → exec .exch s = .next (s.result base [b, a] [])) ∧
    (s.holds base [a, b, c, d] → exec .dexch s = .next (s.result base [c, d, a, b] [])) ∧
    (s.holds base [a] → s.room 1 → exec .dup s = .next (s.result base [a, a] [])) ∧
    (s.holds base [a, b] → s.room 2 → exec .ddup s = .next (s.result base [a, b, a, b] [])) ∧
    (s.holds base [a, b] → exec .exdis s = .next (s.result base [b] []))

/-- A check that succeeds drops the limit and keeps the operand (R253 to R255); the compares are unsigned.

A check that fails and a divide whose quotient does not exist take their trap with the whole instruction undone
(R253 to R255, R291 to R296, R683, R704): BoundsTrap, PointerTrap, DivZeroTrap, and for `LUDIV` DivCheckTrap where the high word
of the dividend is not below a divisor that is not zero. The form of a trap, a next state, is the model's choice (log 5). -/
def Obligations.Checks : Prop :=
  (∀ (s : State) (base : Nat) (a b c d : Word),
     (s.holds base [a, b] → a.toNat < b.toNat → exec .bndck s = .next { s with sp := base + 1 }) ∧
     (s.holds base [a, b, c, d] → b.toNat * 65536 + a.toNat < d.toNat * 65536 + c.toNat →
       exec .bndckl s = .next { s with sp := base + 2 }) ∧
     (s.holds base [a, b] → (a ≠ 0 ∨ b ≠ 0) → exec .nilckl s = .next s)) ∧
  (∀ (s : State) (base : Nat) (a b c d : Word),
     (s.holds base [a, b] → b.toNat ≤ a.toNat → exec .bndck s = .next (takeException (.trap .boundsTrap) s)) ∧
     (s.holds base [a, b, c, d] → d.toNat * 65536 + c.toNat ≤ b.toNat * 65536 + a.toNat →
       exec .bndckl s = .next (takeException (.trap .boundsTrap) s)) ∧
     (s.holds base [0, 0] → exec .nilckl s = .next (takeException (.trap .pointerTrap) s)) ∧
     (s.holds base [a, 0] → exec .sdiv s = .next (takeException (.trap .divZeroTrap) s) ∧
       exec .udiv s = .next (takeException (.trap .divZeroTrap) s)) ∧
     (s.holds base [a, b, 0] → exec .ludiv s = .next (takeException (.trap .divZeroTrap) s)) ∧
     (s.holds base [a, b, c] → c ≠ 0 → c.toNat ≤ b.toNat →
       exec .ludiv s = .next (takeException (.trap .divCheckTrap) s)) ∧
     (s.holds base [a, b, 0, 0] → exec .sddiv s = .next (takeException (.trap .divZeroTrap) s) ∧
       exec .uddiv s = .next (takeException (.trap .divZeroTrap) s)))

/-- The unary operations (R261 to R268): results modulo 2^16, or 2^32 for the double forms. That a product is taken modulo 2^16, and so
`TRPL` for an operand beyond 21845, is the spec's decision D7 (R22, R268), not the manual's. -/
def Obligations.UnaryResults : Prop :=
  ∀ (s : State) (base : Nat) (u high : Word) (alpha : Byte),
    (s.holds base [u] → ∀ p ∈ ([(.neg, -u), (.inc, u + 1), (.dec, u - 1), (.addsb alpha, u + alpha.signExtend 16),
        (.dbl, u <<< 1), (.trpl, 3 * u)] : List (Instr × Word)), exec p.1 s = .next (s.result base [p.2] [])) ∧
    (s.holds base [u, high] → ∀ p ∈ ([(.dinc, Long.ofHalves high u + 1), (.ddbl, Long.ofHalves high u <<< 1)] :
        List (Instr × Long)), exec p.1 s = .next (s.result base [Long.low p.2, Long.high p.2] []))

/-- The binary operations on words (R272, R274, R276, R278, R280, R283, R284). The result of `ROTATE` for a count beyond 15 is an
inference of the spec (R20).

The binary operations on double words (R273, R275, R277, R285, R286, R290). That `DMUL` gives the low 32 bits of the product is an
inference of the spec (R290). -/
def Obligations.BinaryResults : Prop :=
  (∀ (s : State) (base : Nat) (u v : Word), s.holds base [u, v] →
     ∀ p ∈ ([(.and, u &&& v), (.ior, u ||| v), (.xor, u ^^^ v), (.shift, shiftWord u v.toInt),
       (.rotate, rotateWord u v.toInt), (.add, u + v), (.sub, u - v)] : List (Instr × Word)),
       exec p.1 s = .next (s.result base [p.2] [])) ∧
  (∀ (s : State) (base : Nat) (ul uh vl vh : Word), s.holds base [ul, uh, vl, vh] →
     let u := Long.ofHalves uh ul
     let v := Long.ofHalves vh vl
     ∀ p ∈ ([(.dand, u &&& v), (.dior, u ||| v), (.dxor, u ^^^ v), (.dadd, u + v), (.dsub, u - v), (.dmul, u * v)] :
       List (Instr × Long)), exec p.1 s = .next (s.result base [Long.low p.2, Long.high p.2] []))

/-- The operations that mix words and double words, and the double compares (R269, R270, R279, R287, R288, R300, R301). The
result of `DSHIFT` for every count is an inference of the spec (R21). -/
def Obligations.MixedResults : Prop :=
  ∀ (s : State) (base : Nat) (a b c d : Word) (alpha : Byte),
    (s.holds base [a] → s.room 1 → exec .lint s = .next (s.result base [a, if a.msb then 0xFFFF else 0] [])) ∧
    (s.holds base [a] → -15 ≤ alpha.toInt → alpha.toInt ≤ 15 →
      exec (.shiftsb alpha) s = .next (s.result base [shiftWord a alpha.toInt] [])) ∧
    (s.holds base [a, b, c] →
      (let r := shiftLong (Long.ofHalves b a) c.toInt
       exec .dshift s = .next (s.result base [Long.low r, Long.high r] [])) ∧
      (let r := a.setWidth 32 + Long.ofHalves c b
       exec .adc s = .next (s.result base [Long.low r, Long.high r] [])) ∧
      (let r := Long.ofHalves b a + c.setWidth 32
       exec .acd s = .next (s.result base [Long.low r, Long.high r] []))) ∧
    (s.holds base [a, b, c, d] →
      let u := Long.ofHalves b a
      let v := Long.ofHalves d c
      exec .dcmp s =
        .next (s.result base [if v.toInt < u.toInt then 1 else if u.toInt < v.toInt then 0xFFFF else 0] []) ∧
      exec .udcmp s =
        .next (s.result base [if v.toNat < u.toNat then 1 else if u.toNat < v.toNat then 0xFFFF else 0] []))

/-- Multiply and divide (R289, R292 to R296): the high half of a product and the remainder stay above the top. That a quotient is
truncated toward zero, and its remainder smaller than the divisor, is the spec's inference (R23); that -32768 / -1 and its double form
wrap is its decision D13 (log 30). -/
def Obligations.MultiplyDivideResults : Prop :=
  ∀ (s : State) (base : Nat) (a b c d : Word),
    (s.holds base [a, b] →
      exec .mul s = .next (s.result base [BitVec.ofNat 16 (a.toNat * b.toNat)]
        [BitVec.ofNat 16 (a.toNat * b.toNat / 65536)])) ∧
    (s.holds base [a, b] → b ≠ 0 →
      exec .sdiv s = .next (s.result base [BitVec.ofInt 16 (a.toInt.tdiv b.toInt)] [BitVec.ofInt 16 (a.toInt.tmod b.toInt)]) ∧
      exec .udiv s = .next (s.result base [BitVec.ofNat 16 (a.toNat / b.toNat)] [BitVec.ofNat 16 (a.toNat % b.toNat)])) ∧
    (s.holds base [a, b, c] → b.toNat < c.toNat →
      let u := b.toNat * 65536 + a.toNat
      exec .ludiv s = .next (s.result base [BitVec.ofNat 16 (u / c.toNat)] [BitVec.ofNat 16 (u % c.toNat)])) ∧
    (s.holds base [a, b, c, d] → (c ≠ 0 ∨ d ≠ 0) →
      (let q := BitVec.ofInt 32 ((Long.ofHalves b a).toInt.tdiv (Long.ofHalves d c).toInt)
       let r := BitVec.ofInt 32 ((Long.ofHalves b a).toInt.tmod (Long.ofHalves d c).toInt)
       exec .sddiv s = .next (s.result base [Long.low q, Long.high q] [Long.low r, Long.high r])) ∧
      (let q := BitVec.ofNat 32 ((Long.ofHalves b a).toNat / (Long.ofHalves d c).toNat)
       let r := BitVec.ofNat 32 ((Long.ofHalves b a).toNat % (Long.ofHalves d c).toNat)
       exec .uddiv s = .next (s.result base [Long.low q, Long.high q] [Long.low r, Long.high r])))

/-- `Shift`, `LongShift` and `Rotate` (00_scope.md R19 to R21) bit by bit: left for a positive count, right for a negative one,
zeros shifted in, and the count of a rotate taken modulo 16. `LongShift`, and the count of `Rotate` modulo 16, are
inferences of the spec.

Signed division (R23): quotient times divisor plus remainder is the dividend, the remainder is smaller than the divisor and
has the sign of the dividend, except for -32768 / -1, which gives 8000H and 0 (the spec's decision D13, log 30). That the quotient is
truncated and the remainder bounded by the divisor is the spec's inference (R23). -/
def Obligations.ShiftAndDivisionRules : Prop :=
  (∀ (u : Word) (l : Long) (count : Int),
       (∀ i < 16, (shiftWord u count).getLsbD i = (decide (0 ≤ (i : Int) - count) && u.getLsbD ((i : Int) - count).toNat)) ∧
       (∀ i < 32, (shiftLong l count).getLsbD i = (decide (0 ≤ (i : Int) - count) && l.getLsbD ((i : Int) - count).toNat)) ∧
       (∀ i < 16, (rotateWord u count).getLsbD i = u.getLsbD (((i : Int) - count) % 16).toNat)) ∧
  (∀ j k : Word, k ≠ 0 →
       (¬ (j = 0x8000 ∧ k = 0xFFFF) →
         (signedQuotient j k).toInt * k.toInt + (signedRemainder j k).toInt = j.toInt ∧
         (signedRemainder j k).toInt.natAbs < k.toInt.natAbs ∧
         (0 ≤ j.toInt → 0 ≤ (signedRemainder j k).toInt) ∧ (j.toInt ≤ 0 → (signedRemainder j k).toInt ≤ 0)) ∧
       (j = 0x8000 → k = 0xFFFF → signedQuotient j k = 0x8000 ∧ signedRemainder j k = 0))

/-- A pop or discard from a stack with too few words, a push or recover onto a full one (R46, R47, R51, R52, R240, R693):
StackError. The operands are always removed, so even `DUP` and `NEG` report it. Of a store that pops its data once the destination is
mapped, and of a load that pushes what it has read, where the accesses succeed; else the fault comes first (log 46), and for a field
that leaves its word the refusal (log 22). That the machine stops there is the model's choice (log 6). -/
def Obligations.StackErrors : Prop :=
  ∀ (s : State) (alpha disp : Byte) (pair : NibblePair) (f : FieldSpec) (d : FieldDesc) (ptr high w : Word),
    let va (x : Word) : Long := s.lengthenPointer x
    let local0 := va (s.lf + pair.left.setWidth 16)
    let global0 := va (s.gf + pair.left.setWidth 16)
    (∀ p ∈ ([(.dis, 1), (.dis2, 2), (.exch, 2), (.dexch, 4), (.dup, 1), (.ddup, 2), (.exdis, 2), (.bndck, 2), (.bndckl, 4),
        (.nilckl, 2), (.neg, 1), (.inc, 1), (.dinc, 2), (.dec, 1), (.dbl, 1), (.ddbl, 2), (.trpl, 1), (.lint, 1), (.and, 2),
        (.dand, 4), (.ior, 2), (.dior, 4), (.xor, 2), (.dxor, 4), (.shift, 2), (.dshift, 3), (.rotate, 2), (.add, 2),
        (.sub, 2), (.dadd, 4), (.dsub, 4), (.adc, 3), (.acd, 3), (.mul, 2), (.dmul, 4), (.sdiv, 2), (.udiv, 2), (.ludiv, 3),
        (.sddiv, 4), (.uddiv, 4), (.dcmp, 4), (.udcmp, 4), (.addsb alpha, 1), (.shiftsb alpha, 1), (.js, 1), (.jz3, 1), (.jz4, 1),
        (.jnz3, 1), (.jnz4, 1), (.jzb alpha, 1), (.jnzb alpha, 1), (.jep pair, 1), (.jnep pair, 1), (.jebb alpha disp, 1),
        (.jnebb alpha disp, 1), (.jeb alpha, 2), (.jneb alpha, 2), (.jdeb alpha, 4), (.jdneb alpha, 4), (.jlb alpha, 2),
        (.jleb alpha, 2), (.jgb alpha, 2), (.jgeb alpha, 2), (.julb alpha, 2), (.juleb alpha, 2), (.jugb alpha, 2),
        (.jugeb alpha, 2), (.jib w, 2), (.jiw w, 2), (.sm, 5), (.gmf, 2), (.smf, 3), (.lp, 1), (.rob alpha, 1), (.wob alpha, 1),
        (.wrmds, 1), (.wrmp, 1), (.wrpsb, 1), (.wrptc, 1), (.wrwdc, 1), (.wrwp, 1), (.wrxts, 1), (.writ, 2), (.r0, 1), (.r1, 1),
        (.rb alpha, 1), (.rl0, 2), (.rlb alpha, 2), (.rd0, 1), (.rdb alpha, 1), (.rdl0, 2), (.rdlb alpha, 2), (.rc alpha, 1),
        (.w0, 1), (.wb alpha, 1), (.wlb alpha, 2), (.wdb alpha, 1), (.wdlb alpha, 2), (.psb alpha, 2), (.psd0, 3), (.psdb alpha, 3),
        (.pslb alpha, 3), (.psdlb alpha, 4), (.rs alpha, 2), (.rls alpha, 3), (.ws alpha, 3), (.wls alpha, 4), (.rf d, 1),
        (.r0f f, 1), (.rlf d, 2), (.rl0f f, 2), (.rlfs, 3), (.rcfs, 2), (.wf d, 2), (.w0f f, 2), (.wlf d, 3), (.wl0f f, 3), (.wlfs, 4),
        (.ws0f f, 2), (.ps0f f, 2), (.psf d, 2), (.pslf d, 3), (.blt, 3), (.bltl, 5), (.bltlr, 5), (.bltc, 3), (.bltcl, 4),
        (.cksum, 4), (.blel, 5), (.blecl, 4), (.bytblt, 7), (.bytbltr, 7)] : List (Instr × Nat)),
      s.sp < p.2 → exec p.1 s = .fault .stackError) ∧
    (∀ p ∈ ([(.recover, 1), (.recover2, 2), (.dup, 1), (.ddup, 2), (.lint, 1), (.lin1, 1), (.lini, 1), (.li0, 1), (.li1, 1),
        (.li10, 1), (.lib alpha, 1), (.linb alpha, 1), (.lihb alpha, 1), (.liw w, 1), (.lid0, 2), (.la0, 1), (.la8, 1),
        (.lab alpha, 1), (.law w, 1), (.ga0, 1), (.ga1, 1), (.gab alpha, 1), (.gaw w, 1), (.lp, 1), (.gmf, 1), (.rrmds, 1),
        (.rrpsb, 1), (.rrptc, 1), (.rrwdc, 1), (.rrwp, 1), (.rrxts, 1), (.rrit, 2)] : List (Instr × Nat)),
      s.stack.length < s.sp + p.2 → exec p.1 s = .fault .stackError) ∧
    (s.undisturbed →
      (s.sp = 0 → ∀ p ∈ ([(.sl0, va s.lf), (.slb alpha, va (s.lf + alpha.setWidth 16)), (.pl0, va s.lf),
          (.plb alpha, va (s.lf + alpha.setWidth 16)), (.sgb alpha, va (s.gf + alpha.setWidth 16)), (.sld0, va (s.lf + 1)),
          (.sldb alpha, va (s.lf + alpha.setWidth 16 + 1)), (.pld0, va (s.lf + 1)), (.pldb alpha, va (s.lf + alpha.setWidth 16 + 1)),
          (.sgdb alpha, va (s.gf + alpha.setWidth 16 + 1))] : List (Instr × Long)),
        s.storable p.2 → exec p.1 s = .fault .stackError) ∧
      (s.sp = 0 → ∀ p ∈ ([(.wlip pair, va (s.wordAt local0 + pair.right.setWidth 16)),
          (.wlilp pair, s.longAt local0 + pair.right.setWidth 32), (.wldilp pair, s.longAt local0 + pair.right.setWidth 32 + 1)] :
          List (Instr × Long)),
        s.readable local0 → s.readable (local0 + 1) → s.storable p.2 → exec p.1 s = .fault .stackError) ∧
      (s.holds 0 [ptr] → ∀ p ∈ ([(.w0, va ptr), (.wb alpha, va (ptr + alpha.setWidth 16)),
          (.wdb alpha, va (ptr + alpha.setWidth 16 + 1))] : List (Instr × Long)),
        s.storable p.2 → exec p.1 s = .fault .stackError) ∧
      (s.holds 0 [ptr, high] → ∀ p ∈ ([(.wlb alpha, Long.ofHalves high ptr + alpha.setWidth 32),
          (.wdlb alpha, Long.ofHalves high ptr + alpha.setWidth 32 + 1)] : List (Instr × Long)),
        s.storable p.2 → exec p.1 s = .fault .stackError) ∧
      (s.stack.length ≤ s.sp → ∀ p ∈ ([(.ll0, [va s.lf]), (.llb alpha, [va (s.lf + alpha.setWidth 16)]), (.lg0, [va s.gf]),
          (.lgb alpha, [va (s.gf + alpha.setWidth 16)]), (.al0ib alpha, [va s.lf]), (.lld0, [va s.lf]),
          (.lldb alpha, [va (s.lf + alpha.setWidth 16)]), (.lgd0, [va s.gf]), (.lgdb alpha, [va (s.gf + alpha.setWidth 16)]),
          (.rli00, [va s.lf, va (s.wordAt (va s.lf))]), (.rlip pair, [local0, va (s.wordAt local0 + pair.right.setWidth 16)]),
          (.rgip pair, [global0, va (s.wordAt global0 + pair.right.setWidth 16)]),
          (.rlilp pair, [local0, local0 + 1, s.longAt local0 + pair.right.setWidth 32]),
          (.rgilp pair, [global0, global0 + 1, s.longAt global0 + pair.right.setWidth 32]),
          (.rldip pair, [local0, va (s.wordAt local0 + pair.right.setWidth 16), va (s.wordAt local0 + pair.right.setWidth 16 + 1)]),
          (.rldilp pair, [local0, local0 + 1, s.longAt local0 + pair.right.setWidth 32, s.longAt local0 + pair.right.setWidth 32 + 1])] : List (Instr × List Long)),
        s.readableAll p.2 → exec p.1 s = .fault .stackError) ∧
      (s.stack.length ≤ s.sp → f.wellFormed = true →
        ∀ p ∈ ([(.rlipf pair f, [local0, va (s.wordAt local0 + pair.right.setWidth 16)]),
          (.rlilpf pair f, [local0, local0 + 1, s.longAt local0 + pair.right.setWidth 32])] : List (Instr × List Long)),
        s.readableAll p.2 → exec p.1 s = .fault .stackError))

/-! Jumps (42_jump.md). -/

/-- The unconditional jumps, measured from the first byte of the instruction (R311, R318 to R320), the absolute `JS` (R321) and
the no-operation `CATCH` (R322).

The indexed jumps (R350 to R352): out of range nothing is read and no jump occurs; else the table word in the code segment
gives the displacement, a byte of it zero-extended for `JIB`, the whole word for `JIW`. The place of the table word, base plus index or
half the index, is a sum of 16 bits that wraps: an inference of the spec (R22, R351). -/
def Obligations.UnconditionalAndIndexedJumps : Prop :=
  (∀ (s : State) (base : Nat) (w : Word) (alpha : Byte),
     (∀ p ∈ ([(.j2, 2), (.j3, 3), (.j4, 4), (.j5, 5), (.j6, 6), (.j7, 7), (.j8, 8), (.jb alpha, alpha.signExtend 16),
         (.jw w, w)] : List (Instr × Word)), exec p.1 s = .next { s with pc := s.savedPC + p.2 }) ∧
     (s.holds base [w] → exec .js s = .next { s with sp := base, pc := w }) ∧
     exec (.catchPhrase alpha) s = .next s) ∧
  (∀ (s : State) (base : Nat) (index limit table : Word), s.holds base [index, limit] →
     (limit.toNat ≤ index.toNat →
       exec (.jib table) s = .next { s with sp := base } ∧ exec (.jiw table) s = .next { s with sp := base }) ∧
     (index.toNat < limit.toNat →
       (let va := s.codeAddress (table + (index >>> 1))
        s.undisturbed → s.codeReadable (table + (index >>> 1)) → exec (.jib table) s = .next { s.reads [va] with
         sp := base
         pc := s.savedPC + (if index.getLsbD 0 then (s.wordAt va).extractLsb' 0 8 else (s.wordAt va).extractLsb' 8 8).setWidth 16 }) ∧
       (let va := s.codeAddress (table + index)
        s.undisturbed → s.codeReadable (table + index) → exec (.jiw table) s = .next { s.reads [va] with
         sp := base, pc := s.savedPC + s.wordAt va })))

/-- The jumps on the top word (R312, R325 to R328, R333 to R336): the word is popped whether or not the jump is taken.

The jumps on two words or two double words (R329 to R332, R338 to R346): the signed ones compare the values as signed
integers, the unsigned ones as unsigned. -/
def Obligations.ConditionalJumps : Prop :=
  (∀ (s : State) (base : Nat) (u : Word) (alpha disp : Byte) (pair : NibblePair), s.holds base [u] →
     ∀ p ∈ ([(.jz3, decide (u = 0), 3), (.jz4, decide (u = 0), 4), (.jnz3, decide (u ≠ 0), 3), (.jnz4, decide (u ≠ 0), 4),
       (.jzb disp, decide (u = 0), disp.signExtend 16), (.jnzb disp, decide (u ≠ 0), disp.signExtend 16),
       (.jep pair, decide (u = pair.left.setWidth 16), pair.right.setWidth 16 + 4),
       (.jnep pair, decide (u ≠ pair.left.setWidth 16), pair.right.setWidth 16 + 4),
       (.jebb alpha disp, decide (u = alpha.setWidth 16), disp.signExtend 16),
       (.jnebb alpha disp, decide (u ≠ alpha.setWidth 16), disp.signExtend 16)] : List (Instr × Bool × Word)),
       exec p.1 s = .next { s with sp := base, pc := if p.2.1 then s.savedPC + p.2.2 else s.pc }) ∧
  (∀ (s : State) (base : Nat) (u v u' v' : Word) (disp : Byte),
     (s.holds base [u, v] →
       ∀ p ∈ ([(.jeb disp, decide (u = v)), (.jneb disp, decide (u ≠ v)), (.jlb disp, decide (u.toInt < v.toInt)),
         (.jleb disp, decide (u.toInt ≤ v.toInt)), (.jgb disp, decide (u.toInt > v.toInt)),
         (.jgeb disp, decide (u.toInt ≥ v.toInt)), (.julb disp, decide (u.toNat < v.toNat)),
         (.juleb disp, decide (u.toNat ≤ v.toNat)), (.jugb disp, decide (u.toNat > v.toNat)),
         (.jugeb disp, decide (u.toNat ≥ v.toNat))] : List (Instr × Bool)),
         exec p.1 s = .next { s with sp := base, pc := if p.2 then s.savedPC + disp.signExtend 16 else s.pc }) ∧
     (s.holds base [u, u', v, v'] →
       ∀ p ∈ ([(.jdeb disp, decide (u = v ∧ u' = v')), (.jdneb disp, decide (u ≠ v ∨ u' ≠ v'))] : List (Instr × Bool)),
         exec p.1 s = .next { s with sp := base, pc := if p.2 then s.savedPC + disp.signExtend 16 else s.pc }))

/-- No stack instruction writes any state but the stack, `SP` and, for a trap, `PC` and the record of it (R240): the whole of
memory is as it was.

No jump writes anything but `PC` and `SP` (R312), and for the indexed ones the map flags of the page of the table; memory is
as it was. -/
def Obligations.StackAndJumpFrames : Prop :=
  (∀ (s t : State) (alpha : Byte), ∀ i ∈ ([.recover, .recover2, .dis, .dis2, .exch, .dexch, .dup, .ddup, .exdis, .bndck, .bndckl,
         .nilckl, .neg, .inc, .dinc, .dec, .addsb alpha, .dbl, .ddbl, .trpl, .lint, .shiftsb alpha, .and, .dand, .ior, .dior,
         .xor, .dxor, .shift, .dshift, .rotate, .add, .sub, .dadd, .dsub, .adc, .acd, .mul, .dmul, .sdiv, .udiv, .ludiv, .sddiv,
         .uddiv, .dcmp, .udcmp] : List Instr),
       exec i s = .next t →
       t = { s with stack := t.stack, sp := t.sp, pc := t.pc, exception := t.exception } ∧ ∀ a, t.byteAt a = s.byteAt a) ∧
  (∀ (s t : State) (w : Word) (alpha disp : Byte) (pair : NibblePair),
       (∀ i ∈ ([.j2, .j3, .j4, .j5, .j6, .j7, .j8, .jb alpha, .jw w, .js, .catchPhrase alpha, .jz3, .jz4, .jnz3, .jnz4, .jzb alpha,
           .jnzb alpha, .jeb alpha, .jneb alpha, .jdeb alpha, .jdneb alpha, .jep pair, .jnep pair, .jebb alpha disp,
           .jnebb alpha disp, .jlb alpha, .jleb alpha, .jgb alpha, .jgeb alpha, .julb alpha, .juleb alpha, .jugb alpha,
           .jugeb alpha] : List Instr),
         exec i s = .next t → t = { s with sp := t.sp, pc := t.pc } ∧ ∀ a, t.byteAt a = s.byteAt a) ∧
       (∀ i ∈ ([.jib w, .jiw w] : List Instr), s.undisturbed → exec i s = .next t →
         t = { s with sp := t.sp, pc := t.pc, map := t.map, freeIndex := t.freeIndex, exception := t.exception } ∧
         ∀ a, t.byteAt a = s.byteAt a))

/-! Immediate and frame instructions (43_immediate_frame.md). -/

/-- The immediate instructions (R362 to R369) and the frame addresses (R370 to R372, R386 to R388). -/
def Obligations.ImmediatesAndAddresses : Prop :=
  ∀ (s : State) (alpha : Byte) (w : Word),
    (s.room 1 →
      ∀ p ∈ ([(.lin1, 0xFFFF), (.lini, 0x8000), (.li0, 0), (.li1, 1), (.li2, 2), (.li3, 3), (.li4, 4), (.li5, 5), (.li6, 6),
        (.li7, 7), (.li8, 8), (.li9, 9), (.li10, 10), (.lib alpha, alpha.setWidth 16), (.linb alpha, (0xFF : Byte) ++ alpha),
        (.lihb alpha, alpha ++ (0 : Byte)), (.liw w, w), (.la0, s.lf), (.la1, s.lf + 1), (.la2, s.lf + 2), (.la3, s.lf + 3),
        (.la6, s.lf + 6), (.la8, s.lf + 8), (.lab alpha, s.lf + alpha.setWidth 16), (.law w, s.lf + w), (.ga0, s.gf),
        (.ga1, s.gf + 1), (.gab alpha, s.gf + alpha.setWidth 16), (.gaw w, s.gf + w)] : List (Instr × Word)),
        exec p.1 s = .next (s.result s.sp [p.2] [])) ∧
    (s.room 2 → exec .lid0 s = .next (s.result s.sp [0, 0] []))

/-- The loads of one word from a frame (R373, R374, R390, R391): the word at `MDS` plus the frame pointer plus the offset; and
`AL0IB` (R385), which adds an operand byte to local 0.

The loads of two words from a frame (R375, R376, R392, R393): the word at the lower address is pushed first. -/
def Obligations.FrameLoads : Prop :=
  (∀ (s : State) (alpha : Byte), s.undisturbed → s.room 1 →
     (∀ p ∈ ([(.ll0, s.lf), (.ll1, s.lf + 1), (.ll2, s.lf + 2), (.ll3, s.lf + 3), (.ll4, s.lf + 4), (.ll5, s.lf + 5),
         (.ll6, s.lf + 6), (.ll7, s.lf + 7), (.ll8, s.lf + 8), (.ll9, s.lf + 9), (.ll10, s.lf + 10), (.ll11, s.lf + 11),
         (.llb alpha, s.lf + alpha.setWidth 16), (.lg0, s.gf), (.lg1, s.gf + 1), (.lg2, s.gf + 2),
         (.lgb alpha, s.gf + alpha.setWidth 16)] : List (Instr × Word)),
       s.readable (s.lengthenPointer p.2) →
       exec p.1 s = .next ((s.reads [s.lengthenPointer p.2]).result s.sp [s.wordAt (s.lengthenPointer p.2)] [])) ∧
     (s.readable (s.lengthenPointer s.lf) →
       exec (.al0ib alpha) s = .next ((s.reads [s.lengthenPointer s.lf]).result s.sp
         [s.wordAt (s.lengthenPointer s.lf) + alpha.setWidth 16] []))) ∧
  (∀ (s : State) (alpha : Byte), s.undisturbed → s.room 2 →
     ∀ p ∈ ([(.lld0, s.lf), (.lld1, s.lf + 1), (.lld2, s.lf + 2), (.lld3, s.lf + 3), (.lld4, s.lf + 4), (.lld5, s.lf + 5),
         (.lld6, s.lf + 6), (.lld7, s.lf + 7), (.lld8, s.lf + 8), (.lld10, s.lf + 10), (.lldb alpha, s.lf + alpha.setWidth 16),
         (.lgd0, s.gf), (.lgd2, s.gf + 2), (.lgdb alpha, s.gf + alpha.setWidth 16)] : List (Instr × Word)),
       let va := s.lengthenPointer p.2
       let vb := s.lengthenPointer (p.2 + 1)
       s.readable va → s.readable vb →
       exec p.1 s = .next ((s.reads [va, vb]).result s.sp [s.wordAt va, s.wordAt vb] []))

/-- The stores and puts of one word in a frame (R377, R378, R381, R382, R394): a store drops the word, which stays above the top;
a put keeps it.

The stores and puts of two words in a frame (R379, R380, R383, R384, R395): the top word at the higher address, stored
first. A store to an overhead word of the current frames is refused: Refusals (log 18). -/
def Obligations.FrameStores : Prop :=
  (∀ (s : State) (base : Nat) (w : Word) (alpha : Byte), s.undisturbed → s.holds base [w] →
     (∀ p ∈ ([(.sl0, s.lf), (.sl1, s.lf + 1), (.sl2, s.lf + 2), (.sl3, s.lf + 3), (.sl4, s.lf + 4), (.sl5, s.lf + 5),
         (.sl6, s.lf + 6), (.sl7, s.lf + 7), (.sl8, s.lf + 8), (.sl9, s.lf + 9), (.sl10, s.lf + 10),
         (.slb alpha, s.lf + alpha.setWidth 16), (.sgb alpha, s.gf + alpha.setWidth 16)] : List (Instr × Word)),
       s.storable (s.lengthenPointer p.2) →
       exec p.1 s = .next { s.storeWord (s.lengthenPointer p.2) w with sp := base }) ∧
     (∀ p ∈ ([(.pl0, s.lf), (.pl1, s.lf + 1), (.pl2, s.lf + 2), (.pl3, s.lf + 3), (.plb alpha, s.lf + alpha.setWidth 16)] :
         List (Instr × Word)),
       s.storable (s.lengthenPointer p.2) → exec p.1 s = .next (s.storeWord (s.lengthenPointer p.2) w))) ∧
  (∀ (s : State) (base : Nat) (low high : Word) (alpha : Byte), s.undisturbed → s.holds base [low, high] →
     (∀ p ∈ ([(.sld0, s.lf), (.sld1, s.lf + 1), (.sld2, s.lf + 2), (.sld3, s.lf + 3), (.sld4, s.lf + 4), (.sld5, s.lf + 5),
         (.sld6, s.lf + 6), (.sld8, s.lf + 8), (.sldb alpha, s.lf + alpha.setWidth 16),
         (.sgdb alpha, s.gf + alpha.setWidth 16)] : List (Instr × Word)),
       s.storable (s.lengthenPointer (p.2 + 1)) → s.storable (s.lengthenPointer p.2) →
       exec p.1 s = .next { (s.storeWord (s.lengthenPointer (p.2 + 1)) high).storeWord (s.lengthenPointer p.2) low with
         sp := base }) ∧
     (∀ p ∈ ([(.pld0, s.lf), (.pldb alpha, s.lf + alpha.setWidth 16)] : List (Instr × Word)),
       s.storable (s.lengthenPointer (p.2 + 1)) → s.storable (s.lengthenPointer p.2) →
       exec p.1 s = .next ((s.storeWord (s.lengthenPointer (p.2 + 1)) high).storeWord (s.lengthenPointer p.2) low)))

/-! Pointer instructions (44_pointer.md). -/

/-- The direct reads of one word (R422 to R425, R430): short sums modulo 2^16, and `RC` from the code segment.

The direct reads of two words (R426 to R429): both are fetched, then pushed, the one at the lower address first.

That long sums are taken modulo 2^32 (`RLB`, `RDL0`, `RDLB`, the second word of a long pointer) is the spec's decision D4 (R421), the
model's choice (log 45). -/
def Obligations.DirectReads : Prop :=
  (∀ (s : State) (base : Nat) (ptr high : Word) (alpha : Byte), s.undisturbed →
     (s.holds base [ptr] → ∀ p ∈ ([(.r0, s.lengthenPointer ptr), (.r1, s.lengthenPointer (ptr + 1)),
         (.rb alpha, s.lengthenPointer (ptr + alpha.setWidth 16))] : List (Instr × Long)),
       s.readable p.2 → exec p.1 s = .next ((s.reads [p.2]).result base [s.wordAt p.2] [])) ∧
     (s.holds base [ptr] → s.codeReadable (ptr + alpha.setWidth 16) →
       let va := s.codeAddress (ptr + alpha.setWidth 16)
       exec (.rc alpha) s = .next ((s.reads [va]).result base [s.wordAt va] [])) ∧
     (s.holds base [ptr, high] → ∀ p ∈ ([(.rl0, Long.ofHalves high ptr),
         (.rlb alpha, Long.ofHalves high ptr + alpha.setWidth 32)] : List (Instr × Long)),
       s.readable p.2 → exec p.1 s = .next ((s.reads [p.2]).result base [s.wordAt p.2] []))) ∧
  (∀ (s : State) (base : Nat) (ptr high : Word) (alpha : Byte), s.undisturbed →
     (s.holds base [ptr] → s.room 1 → ∀ p ∈ ([(.rd0, ptr), (.rdb alpha, ptr + alpha.setWidth 16)] : List (Instr × Word)),
       let va := s.lengthenPointer p.2
       let vb := s.lengthenPointer (p.2 + 1)
       s.readable va → s.readable vb → exec p.1 s = .next ((s.reads [va, vb]).result base [s.wordAt va, s.wordAt vb] [])) ∧
     (s.holds base [ptr, high] → ∀ p ∈ ([(.rdl0, Long.ofHalves high ptr),
         (.rdlb alpha, Long.ofHalves high ptr + alpha.setWidth 32)] : List (Instr × Long)),
       s.readable p.2 → s.readable (p.2 + 1) →
       exec p.1 s = .next ((s.reads [p.2, p.2 + 1]).result base [s.wordAt p.2, s.wordAt (p.2 + 1)] [])))

/-- The direct writes (R432 to R436): the pointer is on top of the data; of two words the top one goes to the higher address,
first.

The put swapped forms (R440 to R444): the data is on top of the pointer, and the pointer stays on the stack.

That the sums of the long forms `WLB`, `WDLB`, `PSLB` and `PSDLB` are taken modulo 2^32 is the spec's decision D4 (R421), the model's
choice (log 45). -/
def Obligations.DirectWrites : Prop :=
  (∀ (s : State) (base : Nat) (a b c d : Word) (alpha : Byte), s.undisturbed →
     (s.holds base [a, b] → ∀ p ∈ ([(.w0, b), (.wb alpha, b + alpha.setWidth 16)] : List (Instr × Word)),
       s.storable (s.lengthenPointer p.2) →
       exec p.1 s = .next { s.storeWord (s.lengthenPointer p.2) a with sp := base }) ∧
     (s.holds base [a, b, c] →
       (let va := Long.ofHalves c b + alpha.setWidth 32
        s.storable va → exec (.wlb alpha) s = .next { s.storeWord va a with sp := base }) ∧
       (let va := s.lengthenPointer (c + alpha.setWidth 16)
        let vb := s.lengthenPointer (c + alpha.setWidth 16 + 1)
        s.storable vb → s.storable va →
        exec (.wdb alpha) s = .next { (s.storeWord vb b).storeWord va a with sp := base })) ∧
     (s.holds base [a, b, c, d] →
       let va := Long.ofHalves d c + alpha.setWidth 32
       s.storable (va + 1) → s.storable va →
       exec (.wdlb alpha) s = .next { (s.storeWord (va + 1) b).storeWord va a with sp := base })) ∧
  (∀ (s : State) (base : Nat) (a b c d : Word) (alpha : Byte), s.undisturbed →
     (s.holds base [a, b] →
       let va := s.lengthenPointer (a + alpha.setWidth 16)
       s.storable va → exec (.psb alpha) s = .next { s.storeWord va b with sp := base + 1 }) ∧
     (s.holds base [a, b, c] →
       (∀ p ∈ ([(.psd0, a), (.psdb alpha, a + alpha.setWidth 16)] : List (Instr × Word)),
         s.storable (s.lengthenPointer (p.2 + 1)) → s.storable (s.lengthenPointer p.2) →
         exec p.1 s = .next { (s.storeWord (s.lengthenPointer (p.2 + 1)) c).storeWord (s.lengthenPointer p.2) b with
           sp := base + 1 }) ∧
       (let va := Long.ofHalves b a + alpha.setWidth 32
        s.storable va → exec (.pslb alpha) s = .next { s.storeWord va c with sp := base + 2 })) ∧
     (s.holds base [a, b, c, d] →
       let va := Long.ofHalves b a + alpha.setWidth 32
       s.storable (va + 1) → s.storable va →
       exec (.psdlb alpha) s = .next { (s.storeWord (va + 1) d).storeWord va c with sp := base + 2 }))

/-- The indirect reads (R450 to R457): the pointer, short or long, comes from a frame.

The indirect writes (R460 to R462): the pointer comes from the local frame.

That the pointer's second word stands at the 32-bit sum `va + 1` is an inference of the spec (R134), and that long sums are taken modulo
2^32 its decision D4 (R421), the model's choice (log 45). -/
def Obligations.IndirectReadsAndWrites : Prop :=
  (∀ (s : State) (pair : NibblePair), s.undisturbed →
       (s.room 1 → ∀ p ∈ ([(.rli00, s.lf, 0), (.rli01, s.lf, 1), (.rli02, s.lf, 2), (.rli03, s.lf, 3),
           (.rlip pair, s.lf + pair.left.setWidth 16, pair.right.setWidth 16),
           (.rgip pair, s.gf + pair.left.setWidth 16, pair.right.setWidth 16)] : List (Instr × Word × Word)),
         let va := s.lengthenPointer p.2.1
         let vb := s.lengthenPointer (s.wordAt va + p.2.2)
         s.readable va → s.readable vb → exec p.1 s = .next ((s.reads [va, vb]).result s.sp [s.wordAt vb] [])) ∧
       (s.room 2 → ∀ p ∈ ([(.rldi00, s.lf, 0), (.rldip pair, s.lf + pair.left.setWidth 16, pair.right.setWidth 16)] :
           List (Instr × Word × Word)),
         let va := s.lengthenPointer p.2.1
         let vb := s.lengthenPointer (s.wordAt va + p.2.2)
         let vc := s.lengthenPointer (s.wordAt va + p.2.2 + 1)
         s.readable va → s.readable vb → s.readable vc →
         exec p.1 s = .next ((s.reads [va, vb, vc]).result s.sp [s.wordAt vb, s.wordAt vc] [])) ∧
       (s.room 1 → ∀ p ∈ ([(.rlilp pair, s.lf), (.rgilp pair, s.gf)] : List (Instr × Word)),
         let va := s.lengthenPointer (p.2 + pair.left.setWidth 16)
         let vb := s.longAt va + pair.right.setWidth 32
         s.readable va → s.readable (va + 1) → s.readable vb →
         exec p.1 s = .next ((s.reads [va, va + 1, vb]).result s.sp [s.wordAt vb] [])) ∧
       (s.room 2 →
         let va := s.lengthenPointer (s.lf + pair.left.setWidth 16)
         let vb := s.longAt va + pair.right.setWidth 32
         s.readable va → s.readable (va + 1) → s.readable vb → s.readable (vb + 1) →
         exec (.rldilp pair) s =
           .next ((s.reads [va, va + 1, vb, vb + 1]).result s.sp [s.wordAt vb, s.wordAt (vb + 1)] []))) ∧
  (∀ (s : State) (base : Nat) (low high : Word) (pair : NibblePair), s.undisturbed →
       let va := s.lengthenPointer (s.lf + pair.left.setWidth 16)
       (s.holds base [low] →
         (let vb := s.lengthenPointer (s.wordAt va + pair.right.setWidth 16)
          s.readable va → s.storable vb →
          exec (.wlip pair) s = .next { (s.reads [va]).storeWord vb low with sp := base }) ∧
         (let vb := s.longAt va + pair.right.setWidth 32
          s.readable va → s.readable (va + 1) → s.storable vb →
          exec (.wlilp pair) s = .next { (s.reads [va, va + 1]).storeWord vb low with sp := base })) ∧
       (s.holds base [low, high] →
         let vb := s.longAt va + pair.right.setWidth 32
         s.readable va → s.readable (va + 1) → s.storable (vb + 1) → s.storable vb →
         exec (.wldilp pair) s =
           .next { ((s.reads [va, va + 1]).storeWord (vb + 1) high).storeWord vb low with sp := base }))

/-! String and field instructions (45_string_field.md). -/

/-- The string instructions (R480 to R485): the byte at the sum of the operand byte and the index, the left byte of a word for an
even offset; a read clears the high byte, a write ignores it and keeps the other byte of the word. The short forms add operand and index in
16 bits. Half of that is added to the pointer either in 16 bits, and the sum is lengthened (the row of decision D8), or in 32 bits to the
lengthened pointer (the words of R481): a parameter, the model's choice (log 45). The long forms add in 32 bits, the spec's decision D4
(R421; log 45). -/
def Obligations.StringInstructions : Prop :=
  ∀ (s : State) (base : Nat) (data ptr high index : Word) (alpha : Byte), s.undisturbed →
    let shortOffset : Word := alpha.setWidth 16 + index
    let longOffset : Long := alpha.setWidth 32 + index.setWidth 32
    let va := if s.cfg.stringWraps then s.lengthenPointer (ptr + (shortOffset >>> 1))
      else s.lengthenPointer ptr + (shortOffset >>> 1 : Word).setWidth 32
    let vb := Long.ofHalves high ptr + (longOffset >>> 1)
    (s.holds base [ptr, index] → s.readable va → exec (.rs alpha) s = .next ((s.reads [va]).result base
      [(if shortOffset.getLsbD 0 then (s.wordAt va).extractLsb' 0 8 else (s.wordAt va).extractLsb' 8 8).setWidth 16] [])) ∧
    (s.holds base [ptr, high, index] → s.readable vb → exec (.rls alpha) s = .next ((s.reads [vb]).result base
      [(if longOffset.getLsbD 0 then (s.wordAt vb).extractLsb' 0 8 else (s.wordAt vb).extractLsb' 8 8).setWidth 16] [])) ∧
    (s.holds base [data, ptr, index] → s.storable va → exec (.ws alpha) s = .next { (s.reads [va]).storeWord va
      (if shortOffset.getLsbD 0 then (s.wordAt va).extractLsb' 8 8 ++ data.extractLsb' 0 8
        else data.extractLsb' 0 8 ++ (s.wordAt va).extractLsb' 0 8) with sp := base }) ∧
    (s.holds base [data, ptr, high, index] → s.storable vb → exec (.wls alpha) s = .next { (s.reads [vb]).storeWord vb
      (if longOffset.getLsbD 0 then (s.wordAt vb).extractLsb' 8 8 ++ data.extractLsb' 0 8
        else data.extractLsb' 0 8 ++ (s.wordAt vb).extractLsb' 0 8) with sp := base })

/-- `ReadField` and `WriteField` (R171, R491, R500, R501) bit by bit, `pos` and bit numbers counted from the most significant bit: a
field is read right-justified with zeros above it; a field is written with the low bits of the data, the other bits kept. -/
def Obligations.FieldRules : Prop :=
  ∀ (f : FieldSpec) (w data : Word), f.wellFormed = true →
    (∀ i < 16, (readFieldOf w f).getLsbD i =
      (decide (i ≤ f.size.toNat) && w.getMsbD (f.pos.toNat + f.size.toNat - i))) ∧
    (∀ n < 16, (writeFieldOf w f data).getMsbD n =
      if f.pos.toNat ≤ n ∧ n ≤ f.pos.toNat + f.size.toNat then data.getLsbD (f.pos.toNat + f.size.toNat - n)
      else w.getMsbD n)

/-- The field reads of a legal field (R505 to R512): the field of the addressed word is pushed. A field that is not legal:
IllegalFields. That long sums are taken modulo 2^32 (`RLF`, `RLFS`, `RLILPF`) is the spec's decision D4 (R421), and the second pointer
word of `RLILPF` at `va + 1` its inference (R134): the model's choice (log 45). -/
def Obligations.FieldReads : Prop :=
  ∀ (s : State) (base : Nat) (ptr high w : Word) (desc : FieldDesc) (pair : NibblePair), s.undisturbed →
    (s.holds base [ptr] → ∀ p ∈ ([(.rf desc, s.lengthenPointer (ptr + desc.offset.setWidth 16)),
        (.r0f desc.field, s.lengthenPointer ptr)] : List (Instr × Long)),
      desc.field.wellFormed = true → s.readable p.2 →
      exec p.1 s = .next ((s.reads [p.2]).result base [readFieldOf (s.wordAt p.2) desc.field] [])) ∧
    (s.holds base [ptr, high] → ∀ p ∈ ([(.rlf desc, Long.ofHalves high ptr + desc.offset.setWidth 32),
        (.rl0f desc.field, Long.ofHalves high ptr)] : List (Instr × Long)),
      desc.field.wellFormed = true → s.readable p.2 →
      exec p.1 s = .next ((s.reads [p.2]).result base [readFieldOf (s.wordAt p.2) desc.field] [])) ∧
    (s.holds base [ptr, high, w] → (fieldDesc w).field.wellFormed = true →
      let va := Long.ofHalves high ptr + (w.extractLsb' 8 8).setWidth 32
      s.readable va →
      exec .rlfs s = .next ((s.reads [va]).result base [readFieldOf (s.wordAt va) (fieldDesc w).field] [])) ∧
    (s.holds base [ptr, w] → (fieldDesc w).field.wellFormed = true →
      let va := s.codeAddress (ptr + (w.extractLsb' 8 8).setWidth 16)
      s.codeReadable (ptr + (w.extractLsb' 8 8).setWidth 16) →
      exec .rcfs s = .next ((s.reads [va]).result base [readFieldOf (s.wordAt va) (fieldDesc w).field] [])) ∧
    (s.room 1 → desc.field.wellFormed = true →
      let va := s.lengthenPointer (s.lf + pair.left.setWidth 16)
      (let vb := s.lengthenPointer (s.wordAt va + pair.right.setWidth 16)
       s.readable va → s.readable vb → exec (.rlipf pair desc.field) s =
        .next ((s.reads [va, vb]).result s.sp [readFieldOf (s.wordAt vb) desc.field] [])) ∧
      (let vb := s.longAt va + pair.right.setWidth 32
       s.readable va → s.readable (va + 1) → s.readable vb → exec (.rlilpf pair desc.field) s =
        .next ((s.reads [va, va + 1, vb]).result s.sp [readFieldOf (s.wordAt vb) desc.field] [])))

/-- The field writes of a legal field (R503, R515 to R524): the addressed word is read, then written with the field replaced; the
pointer stays above the top for `WS0F` and on the stack for the put forms. A field that is not legal: IllegalFields. That long sums are
taken modulo 2^32 (`WLF`, `WLFS`, `PSLF`) is the spec's decision D4 (R421), the model's choice (log 45). -/
def Obligations.FieldWrites : Prop :=
  ∀ (s : State) (base : Nat) (a b c w : Word) (desc : FieldDesc), s.undisturbed → desc.field.wellFormed = true →
    (s.holds base [a, b] →
      (∀ p ∈ ([(.wf desc, s.lengthenPointer (b + desc.offset.setWidth 16)), (.w0f desc.field, s.lengthenPointer b)] :
          List (Instr × Long)),
        s.storable p.2 → exec p.1 s =
          .next { (s.reads [p.2]).storeWord p.2 (writeFieldOf (s.wordAt p.2) desc.field a) with sp := base }) ∧
      (∀ p ∈ ([(.ws0f desc.field, s.lengthenPointer a, 0), (.ps0f desc.field, s.lengthenPointer a, 1),
          (.psf desc, s.lengthenPointer (a + desc.offset.setWidth 16), 1)] : List (Instr × Long × Nat)),
        s.storable p.2.1 → exec p.1 s = .next { (s.reads [p.2.1]).storeWord p.2.1
          (writeFieldOf (s.wordAt p.2.1) desc.field b) with sp := base + p.2.2 })) ∧
    (s.holds base [a, b, c] →
      (∀ p ∈ ([(.wlf desc, Long.ofHalves c b + desc.offset.setWidth 32), (.wl0f desc.field, Long.ofHalves c b)] :
          List (Instr × Long)),
        s.storable p.2 → exec p.1 s =
          .next { (s.reads [p.2]).storeWord p.2 (writeFieldOf (s.wordAt p.2) desc.field a) with sp := base }) ∧
      (let va := Long.ofHalves b a + desc.offset.setWidth 32
       s.storable va → exec (.pslf desc) s =
        .next { (s.reads [va]).storeWord va (writeFieldOf (s.wordAt va) desc.field c) with sp := base + 2 })) ∧
    (s.holds base [a, b, c, w] → (fieldDesc w).field.wellFormed = true →
      let va := Long.ofHalves c b + (w.extractLsb' 8 8).setWidth 32
      s.storable va → exec .wlfs s =
        .next { (s.reads [va]).storeWord va (writeFieldOf (s.wordAt va) (fieldDesc w).field a) with sp := base })

/-- A field that leaves its word (R500, R501): `ReadField` and `WriteField` end in an `ERROR`, and every field instruction is refused once
the word has been read (R5, U17; the name of the refusal is the model's, log 22). Long sums are taken modulo 2^32, D4 (log 45). -/
def Obligations.IllegalFields : Prop :=
  ∀ (s : State) (base : Nat) (a b c w : Word) (desc : FieldDesc) (pair : NibblePair), s.undisturbed →
    let f := desc.field
    let wide : Byte := w.extractLsb' 8 8
    let refused (i : Instr) (vas : List Long) : Prop := s.readableAll vas → exec i s = .refused .fieldSpecifier
    (f.wellFormed = false →
      (s.holds base [a] →
        refused (.rf desc) [s.lengthenPointer (a + desc.offset.setWidth 16)] ∧ refused (.r0f f) [s.lengthenPointer a]) ∧
      (s.holds base [a, b] →
        refused (.rlf desc) [Long.ofHalves b a + desc.offset.setWidth 32] ∧ refused (.rl0f f) [Long.ofHalves b a] ∧
        refused (.wf desc) [s.lengthenPointer (b + desc.offset.setWidth 16)] ∧ refused (.w0f f) [s.lengthenPointer b] ∧
        refused (.ws0f f) [s.lengthenPointer a] ∧ refused (.ps0f f) [s.lengthenPointer a] ∧
        refused (.psf desc) [s.lengthenPointer (a + desc.offset.setWidth 16)]) ∧
      (s.holds base [a, b, c] →
        refused (.wlf desc) [Long.ofHalves c b + desc.offset.setWidth 32] ∧ refused (.wl0f f) [Long.ofHalves c b] ∧
        refused (.pslf desc) [Long.ofHalves b a + desc.offset.setWidth 32]) ∧
      (let va := s.lengthenPointer (s.lf + pair.left.setWidth 16)
       refused (.rlipf pair f) [va, s.lengthenPointer (s.wordAt va + pair.right.setWidth 16)] ∧
       refused (.rlilpf pair f) [va, va + 1, s.longAt va + pair.right.setWidth 32])) ∧
    ((fieldDesc w).field.wellFormed = false →
      (s.holds base [a, b, w] → refused .rlfs [Long.ofHalves b a + wide.setWidth 32]) ∧
      (s.holds base [a, w] → s.codeInBank (a + wide.setWidth 16) = true →
        refused .rcfs [s.codeAddress (a + wide.setWidth 16)]) ∧
      (s.holds base [a, b, c, w] → refused .wlfs [Long.ofHalves c b + wide.setWidth 32]))

/-! Faults and frames of the memory instructions. -/

/-- A load or a store whose first access faults (R108, R361, R683, R688): the whole instruction is undone and the fault names the
virtual address; protection is looked at for stores only. So for every frame, pointer, string and field form, and for the overhead words.

A later access that faults: the flags of what has been read stay referenced (R108, R684), and everything else is undone. So for the
second word of every double load, where the frame forms have pushed the first word by then, which is left above the restored top (R361);
for what every indirect form addresses, its second word and the second word of a long pointer included; and for the store of a byte or a
field, which is read first, to a protected page.

A double store, of any form, whose second store faults at a vacant or a protected page (R361, R684): the first word has been stored, at
the higher address, and stays; `PC` and `SP` are restored.

The form of a fault, a next state, is the model's choice (log 5); the order of the accesses is that of the printed code (log 46). Long
sums are taken modulo 2^32, D4, the second word of a long pointer stands at the lengthened pointer plus 1, and the base of a short string
is a parameter (log 45). -/
def Obligations.MemoryFaults : Prop :=
  ∀ (s : State) (base : Nat) (a b c e : Word) (alpha : Byte) (pair : NibblePair) (f : FieldSpec) (d : FieldDesc), s.undisturbed →
    let va (x : Word) : Long := s.lengthenPointer x
    let plus (x : Word) : Word := x + alpha.setWidth 16
    let long (low high : Word) : Long := Long.ofHalves high low
    let longPlus (low high : Word) : Long := long low high + alpha.setWidth 32
    let locals : Word := s.lf + pair.left.setWidth 16
    let globals : Word := s.gf + pair.left.setWidth 16
    let right : Word := pair.right.setWidth 16
    let string (ptr index : Word) : Long :=
      byteAddress (s.stringBase ptr (stringOffset alpha index)) (s.stringRest (stringOffset alpha index))
    let longString (ptr : Long) (index : Word) : Long := byteAddress ptr (longStringOffset alpha index)
    let vacant (x : Long) : Prop := (s.entryOf x).isVacant = true
    let locked (x : Long) : Prop := (s.entryOf x).isVacant = false ∧ (s.entryOf x).isProtected = true
    let faults (i : Instr) (kind : FaultKind) (x : Long) (t : State) : Prop := exec i s = .next (takeException (.fault kind x) t)
    let legal : Bool := f.wellFormed && d.field.wellFormed
    -- the frame forms and the indirect forms, with the short pointers that they add up
    let loads : List (Instr × Word) := [(.ll0, s.lf), (.ll1, s.lf + 1), (.ll2, s.lf + 2), (.ll3, s.lf + 3), (.ll4, s.lf + 4),
      (.ll5, s.lf + 5), (.ll6, s.lf + 6), (.ll7, s.lf + 7), (.ll8, s.lf + 8), (.ll9, s.lf + 9), (.ll10, s.lf + 10),
      (.ll11, s.lf + 11), (.llb alpha, plus s.lf), (.al0ib alpha, s.lf), (.lg0, s.gf), (.lg1, s.gf + 1), (.lg2, s.gf + 2),
      (.lgb alpha, plus s.gf)]
    let doubleLoads : List (Instr × Word) := [(.lld0, s.lf), (.lld1, s.lf + 1), (.lld2, s.lf + 2), (.lld3, s.lf + 3),
      (.lld4, s.lf + 4), (.lld5, s.lf + 5), (.lld6, s.lf + 6), (.lld7, s.lf + 7), (.lld8, s.lf + 8), (.lld10, s.lf + 10),
      (.lldb alpha, plus s.lf), (.lgd0, s.gf), (.lgd2, s.gf + 2), (.lgdb alpha, plus s.gf)]
    let stores : List (Instr × Word) := [(.sl0, s.lf), (.sl1, s.lf + 1), (.sl2, s.lf + 2), (.sl3, s.lf + 3), (.sl4, s.lf + 4),
      (.sl5, s.lf + 5), (.sl6, s.lf + 6), (.sl7, s.lf + 7), (.sl8, s.lf + 8), (.sl9, s.lf + 9), (.sl10, s.lf + 10),
      (.slb alpha, plus s.lf), (.pl0, s.lf), (.pl1, s.lf + 1), (.pl2, s.lf + 2), (.pl3, s.lf + 3), (.plb alpha, plus s.lf),
      (.sgb alpha, plus s.gf)]
    let doubleStores : List (Instr × Word) := [(.sld0, s.lf), (.sld1, s.lf + 1), (.sld2, s.lf + 2), (.sld3, s.lf + 3),
      (.sld4, s.lf + 4), (.sld5, s.lf + 5), (.sld6, s.lf + 6), (.sld8, s.lf + 8), (.sldb alpha, plus s.lf), (.pld0, s.lf),
      (.pldb alpha, plus s.lf), (.sgdb alpha, plus s.gf)]
    let doubleThroughShort : List (Instr × Word × Word) := [(.rldi00, s.lf, 0), (.rldip pair, locals, right)]
    let throughShort : List (Instr × Word × Word) := [(.rli00, s.lf, 0), (.rli01, s.lf, 1), (.rli02, s.lf, 2), (.rli03, s.lf, 3),
      (.rlip pair, locals, right), (.rgip pair, globals, right), (.rlipf pair f, locals, right), (.wlip pair, locals, right)] ++
      doubleThroughShort
    let throughLong : List (Instr × Word) := [(.rlilp pair, locals), (.rgilp pair, globals), (.rldilp pair, locals),
      (.rlilpf pair f, locals), (.wlilp pair, locals)]
    let far (ptr : Word) : Long := s.longAt (va ptr) + pair.right.setWidth 32
    let pointed (ptr : Word) : List Long := [va ptr, va ptr + 1]
    -- what happens at the first access, at a second fetch, at the second store of two
    let reads (ps : List (Instr × Long)) : Prop := ∀ p ∈ ps, vacant p.2 → faults p.1 .pageFault p.2 s
    let writes (ps : List (Instr × Long)) : Prop := reads ps ∧ ∀ p ∈ ps, locked p.2 → faults p.1 .writeProtectFault p.2 s
    let readsThenWrites (legal : Bool) (ps : List (Instr × Long)) : Prop :=
      reads ps ∧ ∀ p ∈ ps, s.readable p.2 → locked p.2 → legal = true → faults p.1 .writeProtectFault p.2 (s.reads [p.2])
    let readsSecond (i : Instr) (first second : Long) : Prop :=
      s.readable first → vacant second → faults i .pageFault second (s.reads [first])
    let storesSecond (i : Instr) (t : State) (first second : Long) (w : Word) : Prop :=
      s.storable second →
        (vacant first → faults i .pageFault first (t.storeWord second w)) ∧
        (locked first → faults i .writeProtectFault first (t.storeWord second w))
    (reads ((loads ++ doubleLoads ++ (.wldilp pair, locals) :: throughLong).map fun p => (p.1, va p.2)) ∧ reads (throughShort.map fun p => (p.1, va p.2.1)) ∧
     writes (stores.map fun p => (p.1, va p.2)) ∧ writes (doubleStores.map fun p => (p.1, va (p.2 + 1)))) ∧
    (s.room 1 → ∀ p ∈ doubleLoads, s.readable (va p.2) → vacant (va (p.2 + 1)) →
      faults p.1 .pageFault (va (p.2 + 1)) { s.reads [va p.2] with stack := s.stack.set s.sp (s.wordAt (va p.2)) }) ∧
    (∀ p ∈ throughShort, readsSecond p.1 (va p.2.1) (va (s.wordAt (va p.2.1) + p.2.2))) ∧
    (s.readable (va locals) →
      let short := va (s.wordAt (va locals) + right)
      locked short → faults (.wlip pair) .writeProtectFault short (s.reads [va locals])) ∧
    (∀ p ∈ doubleThroughShort, s.readable (va p.2.1) →
      let short := s.wordAt (va p.2.1) + p.2.2
      s.readable (va short) → vacant (va (short + 1)) →
      faults p.1 .pageFault (va (short + 1)) (s.reads [va p.2.1, va short])) ∧
    (∀ p ∈ (.wldilp pair, locals) :: throughLong, readsSecond p.1 (va p.2) (va p.2 + 1)) ∧
    (∀ p ∈ throughLong, s.readableAll (pointed p.2) → vacant (far p.2) → faults p.1 .pageFault (far p.2) (s.reads (pointed p.2))) ∧
    (s.readableAll (pointed locals) →
      let t := s.reads (pointed locals)
      (s.readable (far locals) → vacant (far locals + 1) →
        faults (.rldilp pair) .pageFault (far locals + 1) (t.touch (far locals) .read)) ∧
      (locked (far locals) → faults (.wlilp pair) .writeProtectFault (far locals) t) ∧
      (vacant (far locals + 1) → faults (.wldilp pair) .pageFault (far locals + 1) t) ∧
      (locked (far locals + 1) → faults (.wldilp pair) .writeProtectFault (far locals + 1) t) ∧
      (s.holds base [a, b] → storesSecond (.wldilp pair) t (far locals) (far locals + 1) b)) ∧
    (s.holds base [a, b] →
      reads [(.r0, va b), (.r1, va (b + 1)), (.rb alpha, va (plus b)), (.rl0, long a b), (.rlb alpha, longPlus a b),
        (.rd0, va b), (.rdb alpha, va (plus b)), (.rdl0, long a b), (.rdlb alpha, longPlus a b), (.rs alpha, string a b),
        (.rf d, va (b + d.offset.setWidth 16)), (.r0f f, va b), (.rlf d, long a b + d.offset.setWidth 32), (.rl0f f, long a b)] ∧
      readsSecond .rd0 (va b) (va (b + 1)) ∧ readsSecond (.rdb alpha) (va (plus b)) (va (plus b + 1)) ∧
      readsSecond .rdl0 (long a b) (long a b + 1) ∧ readsSecond (.rdlb alpha) (longPlus a b) (longPlus a b + 1) ∧
      writes [(.w0, va b), (.wb alpha, va (plus b)), (.psb alpha, va (plus a))] ∧
      readsThenWrites legal [(.wf d, va (b + d.offset.setWidth 16)), (.w0f f, va b), (.ws0f f, va a), (.ps0f f, va a),
        (.psf d, va (a + d.offset.setWidth 16))] ∧
      (∀ p ∈ doubleStores, storesSecond p.1 s (va p.2) (va (p.2 + 1)) b) ∧
      (1 ≤ alpha.toNat → alpha.toNat ≤ 4 →
        reads [(.rob alpha, va (b - alpha.setWidth 16))] ∧ writes [(.wob alpha, va (b - alpha.setWidth 16))]) ∧
      (s.codeInBank (plus b) = true → reads [(.rc alpha, s.codeAddress (plus b))]) ∧
      (s.codeInBank (a + (b.extractLsb' 8 8).setWidth 16) = true →
        reads [(.rcfs, s.codeAddress (a + (b.extractLsb' 8 8).setWidth 16))])) ∧
    (s.holds base [a, b, c] →
      reads [(.rls alpha, longString (long a b) c), (.rlfs, long a b + (c.extractLsb' 8 8).setWidth 32)] ∧
      writes [(.wlb alpha, longPlus b c), (.wdb alpha, va (plus c + 1)), (.psd0, va (a + 1)), (.psdb alpha, va (plus a + 1)),
        (.pslb alpha, longPlus a b)] ∧
      storesSecond (.wdb alpha) s (va (plus c)) (va (plus c + 1)) b ∧ storesSecond .psd0 s (va a) (va (a + 1)) c ∧
      storesSecond (.psdb alpha) s (va (plus a)) (va (plus a + 1)) c ∧
      readsThenWrites true [(.ws alpha, string b c)] ∧
      readsThenWrites legal [(.wlf d, long b c + d.offset.setWidth 32), (.wl0f f, long b c),
        (.pslf d, long a b + d.offset.setWidth 32)]) ∧
    (s.holds base [a, b, c, e] →
      writes [(.wdlb alpha, longPlus c e + 1), (.psdlb alpha, longPlus a b + 1)] ∧
      storesSecond (.wdlb alpha) s (longPlus c e) (longPlus c e + 1) b ∧
      storesSecond (.psdlb alpha) s (longPlus a b) (longPlus a b + 1) e ∧
      readsThenWrites true [(.wls alpha, longString (long b c) e)] ∧
      readsThenWrites (fieldDesc e).field.wellFormed [(.wlfs, long b c + (e.extractLsb' 8 8).setWidth 32)])

/-- The instructions that store nothing: immediates, loads, reads, register and map instructions leave every byte of memory as it
is, and change only the stack, `SP`, the map, for an exception `PC`, and for the register writes their register (R360, R227). -/
def Obligations.LoadFrame : Prop :=
  ∀ (s t : State) (alpha : Byte) (w : Word) (pair : NibblePair) (f : FieldSpec) (d : FieldDesc), s.undisturbed →
    (∀ i ∈ ([.lin1, .lini, .li0, .li1, .li2, .li3, .li4, .li5, .li6, .li7, .li8, .li9, .li10, .lib alpha, .linb alpha,
        .lihb alpha, .liw w, .lid0, .la0, .la1, .la2, .la3, .la6, .la8, .lab alpha, .law w, .ga0, .ga1, .gab alpha, .gaw w,
        .ll0, .ll1, .ll2, .ll3, .ll4, .ll5, .ll6, .ll7, .ll8, .ll9, .ll10, .ll11, .llb alpha, .lld0, .lld1, .lld2, .lld3,
        .lld4, .lld5, .lld6, .lld7, .lld8, .lld10, .lldb alpha, .al0ib alpha, .lg0, .lg1, .lg2, .lgb alpha, .lgd0, .lgd2,
        .lgdb alpha, .r0, .r1, .rb alpha, .rl0, .rlb alpha, .rd0, .rdb alpha, .rdl0, .rdlb alpha, .rc alpha, .rli00, .rli01,
        .rli02, .rli03, .rlip pair, .rlilp pair, .rgip pair, .rgilp pair, .rldi00, .rldip pair, .rldilp pair, .rs alpha,
        .rls alpha, .rf d, .r0f f, .rlf d, .rl0f f, .rlfs, .rcfs, .rlipf pair f, .rlilpf pair f, .lp, .rob alpha, .rrit,
        .rrmds, .rrpsb, .rrptc, .rrwdc, .rrwp, .rrxts, .sm, .gmf, .smf] : List Instr),
      exec i s = .next t →
      t = { s with
        stack := t.stack, sp := t.sp, pc := t.pc, map := t.map, exception := t.exception
        freeIndex := t.freeIndex } ∧ ∀ a, t.byteAt a = s.byteAt a) ∧
    (∀ i ∈ ([.writ, .wrmds, .wrmp, .wrpsb, .wrptc, .wrwdc, .wrwp, .wrxts] : List Instr), exec i s = .next t →
      t = { s with
        sp := t.sp, it := t.it, mds := t.mds, mp := t.mp, psb := t.psb, ptc := t.ptc, time := t.time, wdc := t.wdc
        wp := t.wp, xts := t.xts } ∧ ∀ a, t.byteAt a = s.byteAt a)

/-- The storing instructions of the frame, pointer, overhead, string and field families: every byte of memory outside the word or
the two words they store to is as it was, and only memory, the map, `SP` and for an exception `PC` change, with the model's own record of
code words stored to (log 18) and its count of free values. The address is the one
the instruction computes, from the stack as it finds it. -/
def Obligations.StoreFrame : Prop :=
  ∀ (s t : State) (alpha : Byte) (pair : NibblePair) (f : FieldSpec) (d : FieldDesc), s.undisturbed →
    let top (k : Nat) : Word := s.stack.getD (s.sp - 1 - k) 0
    let two (ptr : Word) : List Long := [s.lengthenPointer (ptr + 1), s.lengthenPointer ptr]
    let local0 : Long := s.lengthenPointer (s.lf + pair.left.setWidth 16)
    ∀ p ∈ ([(.sl0, [s.lengthenPointer s.lf]), (.sl1, [s.lengthenPointer (s.lf + 1)]), (.sl2, [s.lengthenPointer (s.lf + 2)]),
        (.sl3, [s.lengthenPointer (s.lf + 3)]), (.sl4, [s.lengthenPointer (s.lf + 4)]), (.sl5, [s.lengthenPointer (s.lf + 5)]),
        (.sl6, [s.lengthenPointer (s.lf + 6)]), (.sl7, [s.lengthenPointer (s.lf + 7)]), (.sl8, [s.lengthenPointer (s.lf + 8)]),
        (.sl9, [s.lengthenPointer (s.lf + 9)]), (.sl10, [s.lengthenPointer (s.lf + 10)]),
        (.slb alpha, [s.lengthenPointer (s.lf + alpha.setWidth 16)]), (.sgb alpha, [s.lengthenPointer (s.gf + alpha.setWidth 16)]),
        (.pl0, [s.lengthenPointer s.lf]), (.pl1, [s.lengthenPointer (s.lf + 1)]), (.pl2, [s.lengthenPointer (s.lf + 2)]),
        (.pl3, [s.lengthenPointer (s.lf + 3)]), (.plb alpha, [s.lengthenPointer (s.lf + alpha.setWidth 16)]),
        (.sld0, two s.lf), (.sld1, two (s.lf + 1)), (.sld2, two (s.lf + 2)), (.sld3, two (s.lf + 3)), (.sld4, two (s.lf + 4)),
        (.sld5, two (s.lf + 5)), (.sld6, two (s.lf + 6)), (.sld8, two (s.lf + 8)), (.sldb alpha, two (s.lf + alpha.setWidth 16)),
        (.sgdb alpha, two (s.gf + alpha.setWidth 16)), (.pld0, two s.lf), (.pldb alpha, two (s.lf + alpha.setWidth 16)),
        (.wob alpha, [s.lengthenPointer (top 0 - alpha.setWidth 16)]), (.w0, [s.lengthenPointer (top 0)]),
        (.wb alpha, [s.lengthenPointer (top 0 + alpha.setWidth 16)]),
        (.wlb alpha, [Long.ofHalves (top 0) (top 1) + alpha.setWidth 32]), (.wdb alpha, two (top 0 + alpha.setWidth 16)),
        (.wdlb alpha, [Long.ofHalves (top 0) (top 1) + alpha.setWidth 32 + 1, Long.ofHalves (top 0) (top 1) + alpha.setWidth 32]),
        (.psb alpha, [s.lengthenPointer (top 1 + alpha.setWidth 16)]), (.psd0, two (top 2)),
        (.psdb alpha, two (top 2 + alpha.setWidth 16)), (.pslb alpha, [Long.ofHalves (top 1) (top 2) + alpha.setWidth 32]),
        (.psdlb alpha, [Long.ofHalves (top 2) (top 3) + alpha.setWidth 32 + 1, Long.ofHalves (top 2) (top 3) + alpha.setWidth 32]),
        (.wlip pair, [s.lengthenPointer (s.wordAt local0 + pair.right.setWidth 16)]),
        (.wlilp pair, [s.longAt local0 + pair.right.setWidth 32]),
        (.wldilp pair, [s.longAt local0 + pair.right.setWidth 32 + 1, s.longAt local0 + pair.right.setWidth 32]),
        (.ws alpha, [byteAddress (s.stringBase (top 1) (stringOffset alpha (top 0))) (s.stringRest (stringOffset alpha (top 0)))]),
        (.wls alpha, [byteAddress (Long.ofHalves (top 1) (top 2)) (longStringOffset alpha (top 0))]),
        (.wf d, [s.lengthenPointer (top 0 + d.offset.setWidth 16)]), (.w0f f, [s.lengthenPointer (top 0)]),
        (.wlf d, [Long.ofHalves (top 0) (top 1) + d.offset.setWidth 32]), (.wl0f f, [Long.ofHalves (top 0) (top 1)]),
        (.wlfs, [Long.ofHalves (top 1) (top 2) + ((top 0).extractLsb' 8 8).setWidth 32]),
        (.ws0f f, [s.lengthenPointer (top 1)]), (.ps0f f, [s.lengthenPointer (top 1)]),
        (.psf d, [s.lengthenPointer (top 1 + d.offset.setWidth 16)]),
        (.pslf d, [Long.ofHalves (top 1) (top 2) + d.offset.setWidth 32])] : List (Instr × List Long)),
      exec p.1 s = .next t →
      t = { s with
        sp := t.sp, pc := t.pc, map := t.map, mem := t.mem, codeWrites := t.codeWrites, exception := t.exception
        freeIndex := t.freeIndex } ∧
      ∀ a, (∀ va ∈ p.2, ¬ s.inWord va a) → t.byteAt a = s.byteAt a

/-! Block transfers (46_block.md). -/

/-- The word block transfers, uninterrupted (R532, R533, R536 to R540): the words are copied one at a time in the order given, so an
overlap is as that order makes it; the operands are popped. `BLTLR` counts from the top down, with the index of `BLTLR_BIAS` (R538, D2,
log 31). When wakeups arrive is the model's input (log 27). -/
def Obligations.WordBlockTransfers : Prop :=
  ∀ (s : State) (base : Nat) (a b c d e : Word), s.quiet →
    (s.holds base [a, b, c] →
      (let ps := (List.range b.toNat).map fun k =>
        (s.lengthenPointer (a + BitVec.ofNat 16 k), s.lengthenPointer (c + BitVec.ofNat 16 k))
       s.copyable ps → exec .blt s = .next ((s.copies ps).result base [] [a + b, 0, c + b])) ∧
      (let ps := (List.range b.toNat).map fun k =>
        (s.codeAddress (a + BitVec.ofNat 16 k), s.lengthenPointer (c + BitVec.ofNat 16 k))
       s.copyable ps → (∀ k < b.toNat, s.codeInBank (a + BitVec.ofNat 16 k) = true) →
       exec .bltc s = .next ((s.copies ps).result base [] [a + b, 0, c + b]))) ∧
    (s.holds base [a, b, c, d] →
      let dest := Long.ofHalves d c
      let ps := (List.range b.toNat).map fun k => (s.codeAddress (a + BitVec.ofNat 16 k), dest + BitVec.ofNat 32 k)
      s.copyable ps → (∀ k < b.toNat, s.codeInBank (a + BitVec.ofNat 16 k) = true) →
      exec .bltcl s = .next ((s.copies ps).result base []
        [a + b, 0, Long.low (dest + b.setWidth 32), Long.high (dest + b.setWidth 32)])) ∧
    (s.holds base [a, b, c, d, e] →
      let source := Long.ofHalves b a
      let dest := Long.ofHalves e d
      (let ps := (List.range c.toNat).map fun k => (source + BitVec.ofNat 32 k, dest + BitVec.ofNat 32 k)
       s.copyable ps → exec .bltl s = .next ((s.copies ps).result base []
        [Long.low (source + c.setWidth 32), Long.high (source + c.setWidth 32), 0, Long.low (dest + c.setWidth 32),
         Long.high (dest + c.setWidth 32)])) ∧
      (let ps := (List.range c.toNat).map fun k =>
        (source + bltlrIndex s.cfg (c - BitVec.ofNat 16 k), dest + bltlrIndex s.cfg (c - BitVec.ofNat 16 k))
       s.copyable ps → exec .bltlr s = .next ((s.copies ps).result base [] [a, b, 0, d, e])))

/-- The checksum (R542): end-around carry and left cycle over the words of the block, negative zero becoming 0.

The block compares (R545, R546): 1 if all the pairs of words are equal, 0 at the first pair that differs, after which no word is
read. That TRUE is 1 is PRESUMED (log 49); which word of a pair is fetched first is the model's choice (log 57). -/
def Obligations.ChecksumAndCompares : Prop :=
  (∀ (s : State) (base : Nat) (cksum count low high : Word), s.quiet → s.holds base [cksum, count, low, high] →
     let source := Long.ofHalves high low
     let vas := (List.range count.toNat).map fun k => source + BitVec.ofNat 32 k
     let sum := vas.foldl (fun c va => checksumStep c (s.wordAt va)) cksum
     s.readableAll vas →
     exec .cksum s = .next ((s.reads vas).result base [if sum = 0xFFFF then 0 else sum]
       [0, Long.low (source + count.setWidth 32), Long.high (source + count.setWidth 32)])) ∧
  (∀ (s : State) (base : Nat) (a b c d e : Word) (n : Nat), s.quiet →
     (s.holds base [a, b, c, d, e] → n ≤ c.toNat →
       let p1 := Long.ofHalves e d
       let p2 := Long.ofHalves b a
       let pair (k : Nat) : Long × Long := (p1 + BitVec.ofNat 32 k, p2 + BitVec.ofNat 32 k)
       let read (k : Nat) : List Long := (List.range k).flatMap fun j => [(pair j).1, (pair j).2]
       (∀ k < n, s.wordAt (pair k).1 = s.wordAt (pair k).2) →
       (n = c.toNat → s.readableAll (read n) → exec .blel s = .next ((s.reads (read n)).result base [1]
         [Long.high (p2 + c.setWidth 32), 0, Long.low (p1 + c.setWidth 32), Long.high (p1 + c.setWidth 32)])) ∧
       (n < c.toNat → s.readableAll (read (n + 1)) → s.wordAt (pair n).1 ≠ s.wordAt (pair n).2 →
         exec .blel s = .next ((s.reads (read (n + 1))).result base [0]
           [Long.high (pair n).2, c - BitVec.ofNat 16 n, Long.low (pair n).1, Long.high (pair n).1]))) ∧
     (s.holds base [a, b, c, d] → n ≤ b.toNat →
       let ptr := Long.ofHalves d c
       let pair (k : Nat) : Long × Long := (ptr + BitVec.ofNat 32 k, s.codeAddress (a + BitVec.ofNat 16 k))
       let read (k : Nat) : List Long := (List.range k).flatMap fun j => [(pair j).1, (pair j).2]
       (∀ k < n, s.wordAt (pair k).1 = s.wordAt (pair k).2) →
       (∀ k < b.toNat, s.codeInBank (a + BitVec.ofNat 16 k) = true) →
       (n = b.toNat → s.readableAll (read n) → exec .blecl s = .next ((s.reads (read n)).result base [1]
         [0, Long.low (ptr + b.setWidth 32), Long.high (ptr + b.setWidth 32)])) ∧
       (n < b.toNat → s.readableAll (read (n + 1)) → s.wordAt (pair n).1 ≠ s.wordAt (pair n).2 →
         exec .blecl s = .next ((s.reads (read (n + 1))).result base [0]
           [b - BitVec.ofNat 16 n, Long.low (pair n).1, Long.high (pair n).1]))))

/-- The byte block transfers, uninterrupted (R550, R551): bytes are copied one at a time, upwards or downwards, from the given
positions; the seven operands are popped. -/
def Obligations.ByteBlockTransfers : Prop :=
  ∀ (s : State) (base : Nat) (a b c d e f g : Word), s.quiet → s.holds base [a, b, c, d, e, f, g] →
    ∀ p ∈ ([(.bytblt, nextByte), (.bytbltr, previousByte)] : List (Instr × (BytePosition → BytePosition))),
      let source := bytePath p.2 (normaliseByte ⟨Long.ofHalves f e, g⟩) d.toNat
      let dest := bytePath p.2 (normaliseByte ⟨Long.ofHalves b a, c⟩) d.toNat
      s.byteCopyable (source.zip dest) →
      ∃ above : List Word, above.length = 7 ∧
        exec p.1 s = .next ((s.byteCopies (source.zip dest)).result base [] above)

/-- Whatever wakeups arrive, `BLT` and `BLTL` transfer a whole number of words (R531, R532): either all of them, or `k` of them with
operands for exactly the rest on the stack and `PC` back at the instruction, so that running it again finishes the transfer with no
word lost or repeated. The devices raise wakeups only: what their own stores do is in Environment. -/
def Obligations.InterruptedTransfer : Prop :=
  ∀ (s : State) (base : Nat) (a b c d e : Word), s.onlyWakeups →
    (s.holds base [a, b, c] →
      let ps := (List.range b.toNat).map fun k =>
        (s.lengthenPointer (a + BitVec.ofNat 16 k), s.lengthenPointer (c + BitVec.ofNat 16 k))
      s.copyable ps → ∃ (w : Word) (ds : List DeviceTurn),
        exec .blt s = .next { (s.copies ps).result base [] [a + b, 0, c + b] with wp := w, turns := ds } ∨
        ∃ k, 0 < k ∧ k ≤ b.toNat ∧ exec .blt s = .next { (s.copies (ps.take k)).result base
          [a + BitVec.ofNat 16 k, b - BitVec.ofNat 16 k, c + BitVec.ofNat 16 k] [] with
          wp := w, turns := ds, pc := s.savedPC }) ∧
    (s.holds base [a, b, c, d, e] →
      let source := Long.ofHalves b a
      let dest := Long.ofHalves e d
      let ps := (List.range c.toNat).map fun k => (source + BitVec.ofNat 32 k, dest + BitVec.ofNat 32 k)
      s.copyable ps → ∃ (w : Word) (ds : List DeviceTurn),
        (∃ above : List Word, exec .bltl s = .next { (s.copies ps).result base [] above with wp := w, turns := ds }) ∨
        ∃ k, 0 < k ∧ k ≤ c.toNat ∧ exec .bltl s = .next { (s.copies (ps.take k)).result base
          [Long.low (source + BitVec.ofNat 32 k), Long.high (source + BitVec.ofNat 32 k), c - BitVec.ofNat 16 k,
           Long.low (dest + BitVec.ofNat 32 k), Long.high (dest + BitVec.ofNat 32 k)] [] with
          wp := w, turns := ds, pc := s.savedPC })

/-- A pending interrupt suspends a block instruction after one unit (R531, R532): the updated operands are on the stack in place of
the old ones, and `PC` is back at the instruction. An implementation need not make the test, and when it does not or none is pending,
the instruction goes on exactly as if it had been started with the updated operands. The test comes after the devices' turns of the
unit, one before each word access (two for a copy or a pair compared, one for the checksum, three for a byte) and one before the test;
they raise wakeups only. When an interrupt is pending is PRESUMED (log 25); which tests are made, the environment says (log 27). -/
def Obligations.BlockSuspension : Prop :=
  ∀ (s : State) (base : Nat) (a b c d e f g : Word), s.onlyWakeups →
    let tests (i : Instr) (accesses : Nat) (t : State) : Prop :=
      let omitted : Bool := (s.takeTurns accesses).testOmitted
      let u := s.takeTurns (accesses + 1)
      let updated := { t with wp := u.wp, turns := u.turns }
      (omitted = false → interruptPending u = true → exec i s = .next { updated with pc := s.savedPC }) ∧
      (omitted = true ∨ interruptPending u = false → exec i s = exec i updated)
    (s.holds base [a, b, c] → b ≠ 0 → s.storable (s.lengthenPointer c) →
      let moved (va : Long) : State := (s.copyWord va (s.lengthenPointer c)).result base [a + 1, b - 1, c + 1] []
      (s.readable (s.lengthenPointer a) → tests .blt 2 (moved (s.lengthenPointer a))) ∧
      (s.codeReadable a → tests .bltc 2 (moved (s.codeAddress a)))) ∧
    (s.holds base [a, b, c, d] → b ≠ 0 →
      let ptr := Long.ofHalves d c
      (s.codeReadable a → s.storable ptr → tests .bltcl 2
        ((s.copyWord (s.codeAddress a) ptr).result base [a + 1, b - 1, Long.low (ptr + 1), Long.high (ptr + 1)] [])) ∧
      (s.readable ptr → tests .cksum 1 ((s.reads [ptr]).result base
        [checksumStep a (s.wordAt ptr), b - 1, Long.low (ptr + 1), Long.high (ptr + 1)] [])) ∧
      (s.readable ptr → s.codeReadable a → s.wordAt ptr = s.wordAt (s.codeAddress a) → tests .blecl 2
        ((s.reads [ptr, s.codeAddress a]).result base [a + 1, b - 1, Long.low (ptr + 1), Long.high (ptr + 1)] []))) ∧
    (s.holds base [a, b, c, d, e] → c ≠ 0 →
      let p := Long.ofHalves b a
      let q := Long.ofHalves e d
      (s.readable p → s.storable q → tests .bltl 2 ((s.copyWord p q).result base
        [Long.low (p + 1), Long.high (p + 1), c - 1, Long.low (q + 1), Long.high (q + 1)] [])) ∧
      (let i := bltlrIndex s.cfg c
       s.readable (p + i) → s.storable (q + i) →
       tests .bltlr 2 ((s.copyWord (p + i) (q + i)).result base [a, b, c - 1, d, e] [])) ∧
      (s.readable p → s.readable q → s.wordAt q = s.wordAt p → tests .blel 2 ((s.reads [q, p]).result base
        [Long.low (p + 1), Long.high (p + 1), c - 1, Long.low (q + 1), Long.high (q + 1)] []))) ∧
    (s.holds base [a, b, c, d, e, f, g] → d ≠ 0 →
      let source := normaliseByte ⟨Long.ofHalves f e, g⟩
      let dest := normaliseByte ⟨Long.ofHalves b a, c⟩
      s.readable source.address → s.storable dest.address →
      ∀ p ∈ ([(.bytblt, nextByte), (.bytbltr, previousByte)] : List (Instr × (BytePosition → BytePosition))),
        let q := p.2 dest
        let r := p.2 source
        tests p.1 3 ((s.copyByte source dest).result base
          [Long.low q.base, Long.high q.base, q.offset, d - 1, Long.low r.base, Long.high r.base, r.offset] []))

/-- A fault in the middle of a block instruction (R532, R552, R684), at any unit: the units before it stay done, the operands for exactly
the rest are on the stack, so the instruction resumes at the unit that faulted, and what that unit has read stays referenced. A source
that is vacant faults before the destination is looked at, for the word transfers the model's choice (log 46); a destination faults where
it is vacant or, being stored to, protected. The compares fetch first the word at the pointer on top of the stack, the model's choice
(log 57), and so is the form of the fault, a next
state (log 5). -/
def Obligations.BlockFault : Prop :=
  ∀ (s : State) (base : Nat) (a b c d e f g : Word), s.quiet → s.savedSP = s.sp →
    let faults (i : Instr) (t : State) (ops : List Word) (kind : FaultKind) (va : Long) : Prop :=
      exec i s = .next { t.result base ops [] with pc := s.savedPC, exception := some (.fault kind va) }
    let vacant (va : Long) : Prop := (s.entryOf va).isVacant = true
    let locked (va : Long) : Prop := (s.entryOf va).isVacant = false ∧ (s.entryOf va).isProtected = true
    let copies (i : Instr) (count : Word) (pair : Nat → Long × Long) (ops : Nat → List Word) : Prop :=
      ∀ k < count.toNat, s.copyable ((List.range k).map pair) →
        let t := s.copies ((List.range k).map pair)
        (vacant (pair k).1 → faults i t (ops k) .pageFault (pair k).1) ∧
        (s.readable (pair k).1 → vacant (pair k).2 → faults i (t.touch (pair k).1 .read) (ops k) .pageFault (pair k).2) ∧
        (s.readable (pair k).1 → locked (pair k).2 →
          faults i (t.touch (pair k).1 .read) (ops k) .writeProtectFault (pair k).2)
    let compares (i : Instr) (count : Word) (pair : Nat → Long × Long) (ops : Nat → List Word) : Prop :=
      ∀ k < count.toNat, (∀ j < k, s.wordAt (pair j).1 = s.wordAt (pair j).2) →
        let read := (List.range k).flatMap fun j => [(pair j).1, (pair j).2]
        s.readableAll read →
        (vacant (pair k).1 → faults i (s.reads read) (ops k) .pageFault (pair k).1) ∧
        (s.readable (pair k).1 → vacant (pair k).2 →
          faults i ((s.reads read).touch (pair k).1 .read) (ops k) .pageFault (pair k).2)
    let short (x : Word) (k : Nat) : Long := s.lengthenPointer (x + BitVec.ofNat 16 k)
    let code (k : Nat) : Long := s.codeAddress (a + BitVec.ofNat 16 k)
    let up (l : Long) (k : Nat) : Long := l + BitVec.ofNat 32 k
    let halves (l : Long) : List Word := [Long.low l, Long.high l]
    (s.holds base [a, b, c] →
      let ops (k : Nat) : List Word := [a + BitVec.ofNat 16 k, b - BitVec.ofNat 16 k, c + BitVec.ofNat 16 k]
      copies .blt b (fun k => (short a k, short c k)) ops ∧
      ((∀ k < b.toNat, s.codeInBank (a + BitVec.ofNat 16 k) = true) → copies .bltc b (fun k => (code k, short c k)) ops)) ∧
    (s.holds base [a, b, c, d] →
      let ptr := Long.ofHalves d c
      let ops (k : Nat) : List Word := [a + BitVec.ofNat 16 k, b - BitVec.ofNat 16 k] ++ halves (up ptr k)
      ((∀ k < b.toNat, s.codeInBank (a + BitVec.ofNat 16 k) = true) →
        copies .bltcl b (fun k => (code k, up ptr k)) ops ∧ compares .blecl b (fun k => (up ptr k, code k)) ops) ∧
      ∀ k < b.toNat,
        let read := (List.range k).map (up ptr)
        s.readableAll read → vacant (up ptr k) →
        faults .cksum (s.reads read) ([read.foldl (fun x va => checksumStep x (s.wordAt va)) a, b - BitVec.ofNat 16 k] ++
          halves (up ptr k)) .pageFault (up ptr k)) ∧
    (s.holds base [a, b, c, d, e] →
      let p := Long.ofHalves b a
      let q := Long.ofHalves e d
      let index (k : Nat) : Long := bltlrIndex s.cfg (c - BitVec.ofNat 16 k)
      let ops (k : Nat) : List Word := halves (up p k) ++ [c - BitVec.ofNat 16 k] ++ halves (up q k)
      copies .bltl c (fun k => (up p k, up q k)) ops ∧
      copies .bltlr c (fun k => (p + index k, q + index k)) (fun k => [a, b, c - BitVec.ofNat 16 k, d, e]) ∧
      compares .blel c (fun k => (up q k, up p k)) ops) ∧
    (s.holds base [a, b, c, d, e, f, g] →
      ∀ i ∈ ([(.bytblt, nextByte), (.bytbltr, previousByte)] : List (Instr × (BytePosition → BytePosition))),
      ∀ k < d.toNat,
        let source := bytePath i.2 (normaliseByte ⟨Long.ofHalves f e, g⟩) (k + 1)
        let dest := bytePath i.2 (normaliseByte ⟨Long.ofHalves b a, c⟩) (k + 1)
        let done := (source.zip dest).take k
        let p := source.getD k ⟨0, 0⟩
        let q := dest.getD k ⟨0, 0⟩
        let ops : List Word :=
          if k = 0 then [a, b, c, d, e, f, g]
          else halves q.base ++ [q.offset, d - BitVec.ofNat 16 k] ++ halves p.base ++ [p.offset]
        let t := s.byteCopies done
        s.byteCopyable done →
        (vacant p.address → faults i.1 t ops .pageFault p.address) ∧
        (s.readable p.address → vacant q.address → faults i.1 (t.touch p.address .read) ops .pageFault q.address) ∧
        (s.readable p.address → s.readable q.address → (s.entryOf q.address).isProtected = true →
          faults i.1 ((t.touch p.address .read).touch q.address .read) ops .writeProtectFault q.address))

/-- The block instructions change only the stack, `SP`, `PC`, the map, memory and, where wakeups arrive, `WP`, with the model's own record
of code words stored to (log 18) and its count of free values; every byte of memory outside the destination is as it was, and the
checksum and the compares change no byte. The devices raise wakeups only: what their own stores do is in Environment. -/
def Obligations.BlockFrame : Prop :=
  ∀ s t : State, s.onlyWakeups →
    let top (k : Nat) : Word := s.stack.getD (s.sp - 1 - k) 0
    let long (k : Nat) : Long := Long.ofHalves (top k) (top (k + 1))
    ∀ p ∈ ([(.blt, (List.range (top 1).toNat).map fun k => s.lengthenPointer (top 0 + BitVec.ofNat 16 k)),
        (.bltc, (List.range (top 1).toNat).map fun k => s.lengthenPointer (top 0 + BitVec.ofNat 16 k)),
        (.bltl, (List.range (top 2).toNat).map fun k => long 0 + BitVec.ofNat 32 k),
        (.bltcl, (List.range (top 2).toNat).map fun k => long 0 + BitVec.ofNat 32 k),
        (.bltlr, (List.range (top 2).toNat).map fun k => long 0 + bltlrIndex s.cfg (top 2 - BitVec.ofNat 16 k)),
        (.cksum, []), (.blel, []), (.blecl, []),
        (.bytblt, (bytePath nextByte (normaliseByte ⟨long 5, top 4⟩) (top 3).toNat).map BytePosition.address),
        (.bytbltr, (bytePath previousByte (normaliseByte ⟨long 5, top 4⟩) (top 3).toNat).map BytePosition.address)] :
        List (Instr × List Long)),
      exec p.1 s = .next t →
      t = { s with
        stack := t.stack, sp := t.sp, pc := t.pc, wp := t.wp, map := t.map, mem := t.mem, turns := t.turns
        codeWrites := t.codeWrites, freeIndex := t.freeIndex, exception := t.exception } ∧
      ∀ a, (∀ va ∈ p.2, ¬ s.inWord va a) → t.byteAt a = s.byteAt a

/-- The units of the block transfers. A checksum step (R542): ones' complement addition with end-around carry, then a left cycle by one.
A byte position goes up or down by one byte of the linear byte address, and normalising it changes no address (R550 to R552).

The units of the bit block transfers. `Bump` (R572) moves a bit address by a signed number of bits; the functions of source and
destination (R576, R577). -/
def Obligations.UnitRules : Prop :=
  (∀ c d : Word,
     let sum := c.toNat + d.toNat
     let carried := if 65536 ≤ sum then sum - 65535 else sum
     (checksumStep c d).toNat = 2 * carried % 65536 + carried / 32768) ∧
  (∀ p : BytePosition,
     let place (p : BytePosition) : Nat := 2 * p.base.toNat + p.offset.toNat
     (normaliseByte p).offset.toNat ≤ 1 ∧ place (normaliseByte p) % 2 ^ 33 = place p % 2 ^ 33 ∧
     (p.offset.toNat ≤ 1 → normaliseByte p = p ∧
       (nextByte p).offset.toNat ≤ 1 ∧ place (nextByte p) % 2 ^ 33 = (place p + 1) % 2 ^ 33 ∧
       (previousByte p).offset.toNat ≤ 1 ∧ place (previousByte p) % 2 ^ 33 = (place p + 2 ^ 33 - 1) % 2 ^ 33)) ∧
  (∀ (a : BitAddress) (offset : Long),
     let place (a : BitAddress) : Int := 16 * a.word.toNat + a.bit.toNat
     offset.toInt + a.bit.toNat < 2 ^ 31 → place (bump a offset) % 2 ^ 36 = (place a + offset.toInt) % 2 ^ 36) ∧
  (∀ (f : BitBltFlags) (dst src : Bool),
     let s := if f.srcFunc = .complement then !src else src
     (f.dstFunc = .null → bitFunction f dst src = s) ∧
     (f.dstFunc = .and → (bitFunction f dst src = true ↔ s = true ∧ dst = true)) ∧
     (f.dstFunc = .or → (bitFunction f dst src = true ↔ s = true ∨ dst = true)) ∧
     (f.dstFunc = .xor → (bitFunction f dst src = true ↔ s ≠ dst)))

/-! BITBLT and TXTBLT (47_bitblt_txtblt.md). -/

/-- BITBLT, uninterrupted, of a legal argument (R583 to R587, R589): every line of the destination gets its bits one at a time in the
direction `Setup` chose, each the function of the old destination bit and the source bit (R577); the argument pointer is popped.
The preferred directions are parameters (log 37), and overlapping operands follow the code, the model's choice (log 38).

Restarted from a saved line (R583, R590; the form of the saved state is the model's choice, D16, log 36): the lines still to be done are
done, as if there had been no interruption.

Suspended by an interrupt after its first line (R583, R590; log 36): the argument pointer and the number of the next line are on the
stack, and `PC` is back at the instruction. The devices raise wakeups only, one turn before each of the 12 words of the record, the four
word accesses of each bit, and the test, which the implementation makes (R531; log 27).

A line of a first entry in which a bit cannot be moved, at any line and bit (R591, the spec's decision D15; log 35): the page or write
protect fault names the first word that fails, destination before source before the store. In the first line the whole instruction is
undone; in a later one the lines before it stay moved, nothing of this one is, and the argument pointer and its number are on the
stack, where `savedSP` now is too, so that the restart begins at it. The form of the fault is the model's choice (log 5). -/
def Obligations.BitBltResults : Prop :=
  (∀ (s : State) (ptr : Word), s.quiet → s.holds 0 [ptr] → s.readableAll (s.recordAddresses ptr 12) → s.bitBltLegal ptr →
     let b := s.bitBltOf ptr
     b.linesLeft = b.arg.height.toNat ∧
     (s.movable b b.arg.height.toNat →
       exec .bitblt s = .next { (s.reads (s.recordAddresses ptr 12)).moveLines b b.arg.height.toNat with sp := 0 })) ∧
  (∀ (s : State) (ptr line : Word), s.quiet → s.holds 0 [ptr, line] → s.readableAll (s.recordAddresses ptr 12) →
     s.bitBltLegal ptr → s.restartable ptr (s.record ptr 12) →
     let b := bitBltResume (s.bitBltOf ptr) line
     s.movable b b.linesLeft →
     exec .bitblt s = .next { (s.reads (s.recordAddresses ptr 12)).moveLines b b.linesLeft with
       sp := 0, suspended := s.suspensionLeft ptr }) ∧
  (∀ (s : State) (ptr : Word), s.onlyWakeups → s.holds 0 [ptr] → 2 ≤ s.stack.length →
     s.readableAll (s.recordAddresses ptr 12) → s.bitBltLegal ptr →
     let b := s.bitBltOf ptr
     let u := s.takeTurns (13 + 4 * b.arg.width.toNat)
     (s.takeTurns (12 + 4 * b.arg.width.toNat)).testOmitted = false → interruptPending u = true → b.arg.height ≠ 0 → s.movable b 1 →
     exec .bitblt s = .next { ((s.reads (s.recordAddresses ptr 12)).moveLines b 1).result 0 [ptr, (nextLine b).line] [] with
       wp := u.wp, turns := u.turns, pc := s.savedPC
       suspended := some ⟨s.savedPC, [ptr, (nextLine b).line], ptr, s.record ptr 12⟩ }) ∧
  (∀ (s : State) (ptr : Word) (n k : Nat) (kind : FaultKind) (va : Long), s.quiet → s.holds 0 [ptr] → 2 ≤ s.stack.length →
     s.savedSP = s.sp → s.readableAll (s.recordAddresses ptr 12) → s.bitBltLegal ptr →
     let b := s.bitBltOf ptr
     let line := skipLines n b
     let dst (j : Nat) : Long := (bitBltTarget line j).word
     let src (j : Nat) : Long := (bitBltOrigin line j).word
     n < b.arg.height.toNat → k < b.arg.width.toNat → s.movable b n →
     (∀ j < k, s.storable (dst j) ∧ s.readable (src j)) →
     ((kind = .pageFault ∧ va = dst k ∧ (s.entryOf va).isVacant = true) ∨
       (kind = .pageFault ∧ va = src k ∧ s.readable (dst k) ∧ (s.entryOf va).isVacant = true) ∨
       (kind = .writeProtectFault ∧ va = dst k ∧ s.readable va ∧ s.readable (src k) ∧ (s.entryOf va).isProtected = true)) →
     let t := s.reads (s.recordAddresses ptr 12)
     (n = 0 → exec .bitblt s = .next (takeException (.fault kind va) t)) ∧
     (0 < n → exec .bitblt s = .next { (t.moveLines b n).result 0 [ptr, line.line] [] with
       savedSP := 2, pc := s.savedPC, exception := some (.fault kind va)
       suspended := some ⟨s.savedPC, [ptr, line.line], ptr, s.record ptr 12⟩ }))

/-- BITBLT, entered first or again, changes no byte of memory outside the words its destination bits lie in, however it ends, and nothing
but memory, the map, the stack pointers, the stack, `PC` and `WP`, with the model's own records (log 18, 51). The devices raise wakeups
only: what their own stores do is in Environment. -/
def Obligations.BitBltFrame : Prop :=
  ∀ s t : State, s.onlyWakeups → exec .bitblt s = .next t →
    let top (k : Nat) : Word := s.stack.getD (s.sp - 1 - k) 0
    let b := if s.sp = 1 then s.bitBltOf (top 0) else bitBltResume (s.bitBltOf (top 1)) (top 0)
    t = { s with
        stack := t.stack, sp := t.sp, pc := t.pc, savedSP := t.savedSP, wp := t.wp, map := t.map, mem := t.mem
        turns := t.turns, codeWrites := t.codeWrites, freeIndex := t.freeIndex, suspended := t.suspended
        exception := t.exception } ∧
    ∀ a, (∀ j < b.linesLeft, ∀ k < b.arg.width.toNat, ¬ s.inWord (bitBltTarget (skipLines j b) k).word a) →
      t.byteAt a = s.byteAt a

/-- TXTBLT of a legal argument in the format or the resolve function, uninterrupted, completes (R605, R606): with the five operands
updated and a result of 0, 1 or 2 on top, or, for a scan longer than the bound of log 40, still scanning. The display function:
TxtBltDisplay. Where the resolve function stores, what it stores to must be no other name of what it reads (R106). That no position may
be beyond 32767, and what makes an argument legal, is the model's reading of R604 (log 39). None of the words that the scan reads may be
an overhead word of the current frames (R79; log 58).

A fault at the first character (R605, R683, R688; the form of the fault is the model's choice, log 5): the operands that the execution
began with are on the stack again and `PC` is back at the instruction; resolve stores the position before it reads the character.
Where any other fault leaves the operands: TxtBltFrame. -/
def Obligations.TxtBltCompletes : Prop :=
  (∀ (s : State) (index bitPos printPos count ptr : Word), s.quiet → s.holds 0 [index, bitPos, printPos, count, ptr] →
    (∀ va, s.writable va) → s.clear (s.scanWords ptr ⟨index, bitPos, printPos, count⟩) →
    s.txtBltLegal ptr ⟨index, bitPos, printPos, count⟩ → s.restartable ptr (s.record ptr 13) →
    let a := txtBltArg (s.record ptr 13)
    s.positionsFit a ⟨index, bitPos, printPos, count⟩ →
    a.function ≠ .display →
    (a.function = .resolve → Memory.wf s.mem = true ∧ (∀ va vb, s.realAddress va = s.realAddress vb → va = vb) ∧
      ∀ i : Word, i.toNat ≤ a.last.toNat → (index.toNat ≤ i.toNat ∨ a.last = 0xFFFF) → s.storable (a.coord + i.setWidth 32)) →
    ∃ t : State, exec .txtblt s = .next t ∧ t.exception = s.exception ∧
      ((∃ i b p c r : Word, t.holds 0 [i, b, p, c, r] ∧ t.pc = s.pc ∧ r.toNat ≤ 2 ∧ t.scan = s.scan) ∨
        (a.last = 0xFFFF ∧ t.sp = 0 ∧ ∃ u, t.scan = some ⟨ptr, s.record ptr 13, u, s.freeIndex⟩))) ∧
  (∀ (s : State) (index bitPos printPos count ptr : Word), s.undisturbed → s.holds 0 [index, bitPos, printPos, count, ptr] →
    s.savedSP = s.sp → s.readableAll (s.recordAddresses ptr 13) → s.txtBltLegal ptr ⟨index, bitPos, printPos, count⟩ →
    s.restartable ptr (s.record ptr 13) →
    let a := txtBltArg (s.record ptr 13)
    let text := a.text + (index >>> 1).setWidth 32
    let entry := a.coord + index.setWidth 32
    let t := { s.reads (s.recordAddresses ptr 13) with suspended := s.suspensionLeft ptr }
    bitPos.toNat ≤ 32767 → index.toNat ≤ a.last.toNat →
    (a.function ≠ .resolve → (s.entryOf text).isVacant = true →
      exec .txtblt s = .next (takeException (.fault .pageFault text) t)) ∧
    (a.function = .resolve →
      ((s.entryOf entry).isVacant = true → exec .txtblt s = .next (takeException (.fault .pageFault entry) t)) ∧
      ((s.entryOf entry).isVacant = false → (s.entryOf entry).isProtected = true →
        exec .txtblt s = .next (takeException (.fault .writeProtectFault entry) t)) ∧
      (s.storable entry → (s.entryOf text).isVacant = true →
        exec .txtblt s = .next (takeException (.fault .pageFault text) (t.storeWord entry bitPos)))))

/-- The ends of a TXTBLT in the format function (R602, R605, R607): at an index past the last one with result 0, at a stop character
with 2, at the margin with 1, each with the operands as they are; and one last character that is processed adds its widths, and one
to `count` if it is a pad character.

The resolve function (R605, R609): the bit position is stored at the character's entry of `coord`, also for a stop character and for one
at the margin where the margin applies, and no other byte changes; a last character that is processed adds its widths, and for a pad character `space`, one more while `count` is negative.

Suspended by an interrupt after its first character, in either function (R605): the operands after that character and the argument
pointer are on the stack, as on entry, and `PC` is back at the instruction (the model's record of it: log 51). The packing of the flags is
the spec's decision D17 (log 33), the margin rule and the functions that justify its D9 (log 32). The words that are read are no overhead
words of the current frames (R79; log 58). -/
def Obligations.TxtBltFormatAndResolve : Prop :=
  ∀ (s : State) (index bitPos printPos count ptr : Word), s.undisturbed → s.holds 0 [index, bitPos, printPos, count, ptr] →
    (∀ va, s.writable va) → s.clear (s.recordAddresses ptr 13) → s.txtBltLegal ptr ⟨index, bitPos, printPos, count⟩ →
    s.restartable ptr (s.record ptr 13) → s.cfg.fontFormat = .packed →
    let a := txtBltArg (s.record ptr 13)
    let v := s.characterAt a index
    let looks : Prop := index.toNat ≤ a.last.toNat ∧ s.clear (s.characterWords a index)
    let stop := v.flags.getLsbD 6
    let same : List Word := [index, bitPos, printPos, count]
    let next := v.after a index bitPos printPos count
    let fits : Prop := (printPos + v.printing).toNat ≤ a.margin.toNat
    let goesOn : Prop := (s.cfg.txtbltMarginAll = true ∨ a.function = .format) → fits
    let ends (t : State) (ws : List Word) : Prop := exec .txtblt s = .next t ∧
      t = { s.result 0 ws [] with
        map := t.map, mem := t.mem, codeWrites := t.codeWrites, freeIndex := t.freeIndex
        suspended := s.suspensionLeft ptr }
    let suspends (t : State) : Prop := exec .txtblt s = .next t ∧
      t = { s.result 0 (next ++ [ptr]) [] with
        map := t.map, mem := t.mem, codeWrites := t.codeWrites, freeIndex := t.freeIndex, pc := s.savedPC
        suspended := some ⟨s.savedPC, next ++ [ptr], ptr, s.record ptr 13⟩ }
    let storesNothing (t : State) : Prop := t.mem = s.mem ∧ t.codeWrites = s.codeWrites
    let storesCoord (t : State) : Prop := t.wordAt (a.coord + index.setWidth 32) = bitPos ∧
      ∀ x, ¬ s.inWord (a.coord + index.setWidth 32) x → t.byteAt x = s.byteAt x
    bitPos.toNat ≤ 32767 →
    (a.function = .format →
      (a.last.toNat < index.toNat → ∃ t, ends t (same ++ [0]) ∧ storesNothing t) ∧
      (looks → stop = true → ∃ t, ends t (same ++ [2]) ∧ storesNothing t) ∧
      (looks → stop = false → ¬ fits → ∃ t, ends t (same ++ [1]) ∧ storesNothing t) ∧
      (looks → stop = false → fits →
        (interruptPending s = true → ∃ t, suspends t ∧ storesNothing t) ∧
        (interruptPending s = false → index = a.last → index ≠ 0xFFFF → (next.getD 1 0).toNat ≤ 32767 →
          ∃ t, ends t (next ++ [0]) ∧ storesNothing t))) ∧
    (a.function = .resolve → Memory.wf s.mem = true → s.storable (a.coord + index.setWidth 32) →
      (∀ va ∈ s.characterWords a index, s.realAddress va ≠ s.realAddress (a.coord + index.setWidth 32)) →
      (looks → stop = true → ∃ t, ends t (same ++ [2]) ∧ storesCoord t) ∧
      (looks → stop = false → ¬ goesOn → ∃ t, ends t (same ++ [1]) ∧ storesCoord t) ∧
      (looks → stop = false → goesOn →
        (interruptPending s = true → ∃ t, suspends t ∧ storesCoord t) ∧
        (interruptPending s = false → index = a.last → index ≠ 0xFFFF → (next.getD 1 0).toNat ≤ 32767 →
          ∃ t, ends t (next ++ [0]) ∧ storesCoord t)))

/-- The display function of TXTBLT on a last character (R603, R605, R608, R609): the bits of its raster are ored into the destination,
line `n` at `n` times `dstBpl` bits from `dst` and its first column at the bit position, less one with a left kern column; no other bit of
memory changes; and the operands go on by its widths, for a pad character also by `space`, one more while `count` is negative. On any
character, if an interrupt is pending: the same, with the argument pointer on top of the operands and `PC` back at the instruction. The
packing of the flags is the spec's decision D17 and that of the raster information PRESUMED (log 33), the functions that justify its
D9 (log 32); the running index of the raster has 16 bits, the model's choice (log 56), and so is the limit of 32767 on positions past
the character (log 39). The words that are read are no overhead words of the current frames (R79; log 58).

A character with a column past the `dstBpl` bits of a line, for which the bitmap is not wide enough (R604), is refused: the model's choice
for what R4 and U20 leave undefined (log 39). -/
def Obligations.TxtBltDisplay : Prop :=
  ∀ (s : State) (index bitPos printPos count ptr : Word), s.undisturbed → s.holds 0 [index, bitPos, printPos, count, ptr] →
    (∀ va, s.writable va) → s.clear (s.recordAddresses ptr 13) → s.txtBltLegal ptr ⟨index, bitPos, printPos, count⟩ →
    s.restartable ptr (s.record ptr 13) → s.cfg.fontFormat = .packed → Memory.wf s.mem = true →
    let a := txtBltArg (s.record ptr 13)
    let v := s.characterAt a index
    let pos := bitPos - boolWord (v.raster.getLsbD 15)
    let height := (s.wordAt (a.font + 10)).toNat
    let width := v.width.toNat
    let target (n k : Nat) : BitAddress := displayTarget a pos n k
    let next := v.after a index bitPos printPos count
    let wide : Prop := ∀ k < width, (pos + BitVec.ofNat 16 k).toNat < a.dstBpl.toNat
    bitPos.toNat ≤ 32767 → a.function = .display → index.toNat ≤ a.last.toNat → v.flags.getLsbD 6 = false →
    (s.cfg.txtbltMarginAll = true → (printPos + v.printing).toNat ≤ a.margin.toNat) →
    s.clear (s.characterWords a index) → (∀ m < height * width, s.isOverhead (s.rasterWordAt a v m) = false) →
    (∀ n < height, ∀ k < width, s.storable (target n k).word ∧
      (∀ va ∈ s.characterWords a index, s.realAddress va ≠ s.realAddress (target n k).word) ∧
      ∀ m < height * width, s.realAddress (s.rasterWordAt a v m) ≠ s.realAddress (target n k).word) →
    (height ≠ 0 → ¬ wide → exec .txtblt s = .refused .txtBltArgument) ∧
    (wide → (interruptPending s = true ∨ index = a.last ∧ index ≠ 0xFFFF ∧ (next.getD 1 0).toNat ≤ 32767) →
    ∃ t, exec .txtblt s = .next t ∧
      (interruptPending s = false → t = { s.result 0 (next ++ [0]) [] with
        map := t.map, mem := t.mem, codeWrites := t.codeWrites, freeIndex := t.freeIndex
        suspended := s.suspensionLeft ptr }) ∧
      (interruptPending s = true → t = { s.result 0 (next ++ [ptr]) [] with
        map := t.map, mem := t.mem, codeWrites := t.codeWrites, freeIndex := t.freeIndex, pc := s.savedPC
        suspended := some ⟨s.savedPC, next ++ [ptr], ptr, s.record ptr 13⟩ }) ∧
      ∀ x : BitAddress, t.bitAt x = true ↔
        s.bitAt x = true ∨ ∃ n < height, ∃ k < width,
          s.realAddress (target n k).word = s.realAddress x.word ∧ (target n k).bit = x.bit ∧
            s.rasterBitAt a v (n * width + k) = true)

/-- TXTBLT changes only the stack, `SP`, `PC`, the map, memory and `WP`, with the model's own records (log 18, 40, 51); the format function
changes no byte, resolve only the words of `coord` for the characters of the scan, display only the words that the destination lines
have in their `dstBpl` bits, as many as the font is high (R604, R605, R608; for bits past them log 39), where the font's height is not itself in
their way. The devices raise wakeups only: what their own stores do is in Environment.

If it ends in an exception, that is a fault, and it leaves the operands as this execution found them: no word of the stack is changed,
`SP` is at `savedSP` and `PC` at `savedPC`, and nothing goes on scanning (R605, R683). If it ends in none, `PC` stays past it, or the
instruction is suspended: `PC` is back and the argument pointer is on top of the stack (R605). -/
def Obligations.TxtBltFrame : Prop :=
  ∀ s t : State, s.onlyWakeups → exec .txtblt s = .next t →
    let top (k : Nat) : Word := s.stack.getD (s.sp - 1 - k) 0
    let a := txtBltArg (s.record (top 0) 13)
    t = { s with
        stack := t.stack, sp := t.sp, pc := t.pc, wp := t.wp, map := t.map, mem := t.mem, turns := t.turns
        codeWrites := t.codeWrites, freeIndex := t.freeIndex, scan := t.scan, suspended := t.suspended
        exception := t.exception } ∧
    (∀ x : Nat,
      (a.function = .resolve → ∀ i : Word, i.toNat ≤ a.last.toNat → ((top 4).toNat ≤ i.toNat ∨ a.last = 0xFFFF) →
        ¬ s.inWord (a.coord + i.setWidth 32) x) →
      (a.function = .display → ∀ n < (s.wordAt (a.font + 10)).toNat, ∀ o : Word, o.toNat < a.dstBpl.toNat →
        let va := (bump (displayLineAt a n) (lengthenSigned o)).word
        s.realAddress va ≠ s.realAddress (a.font + 10) ∧ ¬ s.inWord va x) →
      t.byteAt x = s.byteAt x) ∧
    ((∃ kind va, t.exception = some (.fault kind va)) ∧
        t.stack = s.stack ∧ t.sp = s.savedSP ∧ t.pc = s.savedPC ∧ t.scan = s.scan ∨
      t.exception = s.exception ∧ (t.pc = s.pc ∨ t.pc = s.savedPC ∧ ∃ i b p c : Word, t.holds 0 [i, b, p, c, top 0]))

/-! Control links (48_control_transfers.md). -/

/-- Control links (R622 to R625): data, tag and fill, the type by the two low bits, the frame and the indirect pointer a link gives; a
link of another type is refused, the model's choice for an `ERROR` (R5, U1).

Frame overhead words (R74, R75, R77, R78) and the entries of the system data table (R135, an inference of the spec): their places and
fields; the link that starts the machine at reset is an indirect one (R731, its constants PRESUMED, log 4).

The control links of a module (R80, R81, R629): the `codelinks` bit of its global frame's overhead selects the place, before the overhead
words or before the word that the code base points to; a link there is read low word first; one outside the code base's bank is refused.
That link 0 is the nearest to what the links precede, and that a set bit selects the code segment, is DEDUCED (log 59); that the bit is read as
memory stands, with no access, is the model's choice (log 60). -/
def Obligations.ControlLinks : Prop :=
  (∀ (link : Long) (s : State),
     (taggedControlLink link).data.toNat = link.toNat % 65536 / 4 ∧ (taggedControlLink link).tag.toNat = link.toNat % 4 ∧
     (taggedControlLink link).fill.toNat = link.toNat / 65536 ∧ (taggedControlLink link).toLink = link ∧
     (controlLinkType link = .frame ↔ link.toNat % 4 = 0) ∧ (controlLinkType link = .indirect ↔ link.toNat % 4 = 2) ∧
     (controlLinkType link = .procedure ↔ link.toNat % 2 = 1) ∧
     makeFrameLink link s = (if link.toNat % 4 = 0 then .ok (Long.low link) s else .error (.refused .controlLinkType) s) ∧
     makeIndirectLink link s = (if link.toNat % 4 = 2 then .ok (Long.low link) s else .error (.refused .controlLinkType) s)) ∧
  (∀ (s : State) (frame : Word) (i : Nat),
     let word (k : Word) : Word := s.wordAt (s.lengthenPointer (frame - k))
     let local_ := s.localOverhead frame
     let global := s.globalOverhead frame
     local_.word.fsi.toNat = (word 4).toNat % 256 ∧ local_.word.available.toNat = (word 4).toNat / 256 ∧
     local_.returnlink = word 3 ∧ local_.globallink = word 2 ∧ local_.pc = word 1 ∧
     global.available = word 4 ∧ global.word.available.toNat = (word 3).toNat / 4 ∧
     (global.word.trapxfers = true ↔ (word 3).toNat / 2 % 2 = 1) ∧ (global.word.codelinks = true ↔ (word 3).toNat % 2 = 1) ∧
     global.codebase = Long.ofHalves (word 1) (word 2) ∧
     (sdEntry s.cfg i).toNat = (s.cfg.mSD.toNat + 2 * i) % 65536) ∧
  (∀ (s : State) (i : Nat),
     let codelinks : Bool := (s.wordAt (s.lengthenPointer (s.gf - 3))).getLsbD 0
     let beforeFrame : Long := s.lengthenPointer (s.gf - 4 - BitVec.ofNat 16 (2 * i + 2))
     let beforeCode : Long := s.cb - BitVec.ofNat 32 (2 * i + 2)
     let va : Long := if codelinks then beforeCode else beforeFrame
     let inBank : Prop := codelinks = true → 2 * i + 2 ≤ s.cb.toNat % 65536
     s.linkPlace = (if codelinks then .codeSegment else .globalFrame) ∧
     s.linkAddress .globalFrame i = beforeFrame ∧ s.linkAddress .codeSegment i = beforeCode ∧
     (s.undisturbed → inBank → s.readable va → s.readable (va + 1) →
       fetchControlLink i s = .ok (s.longAt va) ((s.touch va .read).touch (va + 1) .read)) ∧
     (¬ inBank → fetchControlLink i s = .error (.refused .codeCrossesBank) s)) ∧
  controlLinkType (bootLink State.reset.cfg) = .indirect ∧ bootLink State.reset.cfg = 0x202

/-! Instructions that stop or trap. -/

/-- The instructions whose routines are lost are refused by name (R640).

Operand bytes that the manual reserves are refused (R177, R205, R206, R270; log 23): `ROB` and `WOB` outside 1 to 4, `SHIFTSB` outside
-15 to 15.

What programs must not do is refused: `SM` and `SMF` of a real page that another page has, or of the page of the code (R106, R125; log 16,
17); an access to a real page without memory (R117; log 15), a plain load or store of an overhead word of the current frames (R79; log 18,
58), a read of the code that leaves its bank (R124; log 53), an instruction in a misplaced context (R79, R81; log 53). To refuse them is the model's choice (log 7). -/
def Obligations.Refusals : Prop :=
  (∀ (s : State) (alpha : Byte) (w : Word),
     ∀ p ∈ ([(.brk, "BRK"), (.llkb alpha, "LLKB"), (.rkib alpha, "RKIB"), (.rkdib alpha, "RKDIB"), (.lkb alpha, "LKB"),
       (.efc0, "EFC0"), (.efc1, "EFC1"), (.efc2, "EFC2"), (.efc3, "EFC3"), (.efc4, "EFC4"), (.efc5, "EFC5"), (.efc6, "EFC6"),
       (.efc7, "EFC7"), (.efc8, "EFC8"), (.efc9, "EFC9"), (.efc10, "EFC10"), (.efc11, "EFC11"), (.efc12, "EFC12"),
       (.efcb alpha, "EFCB"), (.lfc w, "LFC"), (.sfc, "SFC"), (.ret, "RET"), (.kfcb alpha, "KFCB"), (.me, "ME"), (.mx, "MX"),
       (.mw, "MW"), (.mr, "MR"), (.nc, "NC"), (.bc, "BC"), (.req, "REQ"), (.af, "AF"), (.ff, "FF"), (.pi, "PI"), (.po, "PO"),
       (.por, "POR"), (.spp, "SPP"), (.di, "DI"), (.ei, "EI"), (.dsk alpha, "DSK"), (.xe alpha, "XE"), (.xf alpha, "XF"),
       (.lsk alpha, "LSK")] : List (Instr × String)), exec p.1 s = .refused (.lostInstruction p.2)) ∧
  (∀ (s : State) (base : Nat) (u v : Word) (alpha : Byte), s.holds base [u, v] →
     ((alpha.toNat < 1 ∨ 4 < alpha.toNat) →
       exec (.rob alpha) s = .refused .reservedOperand ∧ exec (.wob alpha) s = .refused .reservedOperand) ∧
     ((alpha.toInt < -15 ∨ 15 < alpha.toInt) → exec (.shiftsb alpha) s = .refused .reservedOperand)) ∧
  (∀ (s : State) (base : Nat) (vpLow vpHigh rpLow rpHigh mf : Word),
     let vp := (Long.ofHalves vpHigh vpLow).toNat
     let rp := Long.ofHalves rpHigh rpLow
     s.cfg.virtualPage vp = true →
     (s.holds base [vpLow, vpHigh, rpLow, rpHigh, mf] →
       (vacantFlags mf = false → aliased s vp rp = true → exec .sm s = .refused .aliasedRealPage) ∧
       ((vacantFlags mf = true ∨ aliased s vp rp = false) → codePageViolation s vp mf = true →
         exec .sm s = .refused .currentCodePage)) ∧
     (s.holds base [vpLow, vpHigh, mf] → (s.readMap vp).isVacant = false →
       (vacantFlags mf = false → aliased s vp (s.readMap vp).real = true → exec .smf s = .refused .aliasedRealPage) ∧
       ((vacantFlags mf = true ∨ aliased s vp (s.readMap vp).real = false) → codePageViolation s vp mf = true →
         exec .smf s = .refused .currentCodePage))) ∧
  (∀ (s : State) (base : Nat) (u v : Word) (alpha : Byte), s.undisturbed → s.holds base [u, v] →
     let va := s.lengthenPointer v
     ((s.entryOf va).isVacant = false → s.cfg.realPage (s.realAddress va / 256) = false →
       exec .r0 s = .refused .realMemoryGap ∧
       ((s.entryOf va).isProtected = false → exec .w0 s = .refused .realMemoryGap)) ∧
     (∀ p ∈ ([(.w0, va), (.wb alpha, s.lengthenPointer (v + alpha.setWidth 16)), (.psb alpha, s.lengthenPointer (u + alpha.setWidth 16)),
         (.sl0, s.lengthenPointer s.lf), (.slb alpha, s.lengthenPointer (s.lf + alpha.setWidth 16)),
         (.sgb alpha, s.lengthenPointer (s.gf + alpha.setWidth 16))] : List (Instr × Long)),
       s.writable p.2 → s.isOverhead p.2 = true → exec p.1 s = .refused .overheadAccess) ∧
     (∀ p ∈ ([(.r0, va), (.rb alpha, s.lengthenPointer (v + alpha.setWidth 16)), (.rl0, Long.ofHalves v u),
         (.rlb alpha, Long.ofHalves v u + alpha.setWidth 32), (.ll0, s.lengthenPointer s.lf),
         (.llb alpha, s.lengthenPointer (s.lf + alpha.setWidth 16)), (.lg0, s.lengthenPointer s.gf),
         (.lgb alpha, s.lengthenPointer (s.gf + alpha.setWidth 16))] : List (Instr × Long)),
       s.present p.2 → s.isOverhead p.2 = true → exec p.1 s = .refused .overheadAccess) ∧
     (s.codeInBank v = false → exec (.rc 0) s = .refused .codeCrossesBank)) ∧
  (∀ s : State, s.exception = none → s.scan = none → s.timeoutNow = false →
     let t := s.withEnvironment
     interruptPending t = false → t.running = true → t.contextLegal = false → step s = .refused .misplacedContext)

/-- What BITBLT and TXTBLT refuse, and where they end in StackError (the refusals are the model's choice for an `ERROR` and for what the
manual calls undefined: R5, U18, U20, U25; log 34, 39, 51): an argument record that is not aligned, an argument with one of the errors, for
TXTBLT also one whose operands overlap or leave their bank or whose position is beyond 32767, and a restart with a changed record. A
stack with other words than the operands is a StackError (R50, R583, R605; log 6). -/
def Obligations.BlockTransferStops : Prop :=
  ∀ (s : State) (base : Nat) (index bitPos printPos count ptr line : Word), s.undisturbed →
    let suspendedWith (ws : List Word) : Prop := ∃ old, s.suspended = some ⟨s.savedPC, s.stack.take s.sp, ptr, old⟩ ∧ old ≠ ws
    (s.sp = 0 → exec .bitblt s = .fault .stackError) ∧
    (s.holds 0 [ptr] →
      (ptr &&& 0x000F ≠ 0 → exec .bitblt s = .refused .bitBltArgument) ∧
      (ptr &&& 0x000F = 0 → s.readableAll (s.recordAddresses ptr 12) → bitBltError (bitBltArg (s.record ptr 12)) = true →
        exec .bitblt s = .refused .bitBltArgument)) ∧
    (s.holds base [ptr, line] →
      (ptr &&& 0x000F ≠ 0 → exec .bitblt s = .refused .bitBltArgument) ∧
      (ptr &&& 0x000F = 0 → s.readableAll (s.recordAddresses ptr 12) →
        (suspendedWith (s.record ptr 12) → exec .bitblt s = .refused .changedArgument) ∧
        (s.restartable ptr (s.record ptr 12) →
          (bitBltError (bitBltArg (s.record ptr 12)) = true → exec .bitblt s = .refused .bitBltArgument) ∧
          (bitBltError (bitBltArg (s.record ptr 12)) = false → base ≠ 0 → exec .bitblt s = .fault .stackError)))) ∧
    (s.sp ≠ 5 → exec .txtblt s = .fault .stackError) ∧
    (s.holds 0 [index, bitPos, printPos, count, ptr] →
      (ptr &&& 0x000F ≠ 0 → exec .txtblt s = .refused .txtBltArgument) ∧
      (ptr &&& 0x000F = 0 → s.readableAll (s.recordAddresses ptr 13) →
        (suspendedWith (s.record ptr 13) → exec .txtblt s = .refused .changedArgument) ∧
        (s.restartable ptr (s.record ptr 13) →
          (txtBltArgError (txtBltArg (s.record ptr 13)) = true ∨
              s.txtBltMemoryError ptr (txtBltArg (s.record ptr 13)) ⟨index, bitPos, printPos, count⟩ = true ∨
              32767 < bitPos.toNat) →
          exec .txtblt s = .refused .txtBltArgument)))

end Statements
end

