-- ==== Sys2Proof/Laws/State.lean ====
section
/-! SUPPORT. One lemma per field for each named update of the state, so that no proof unfolds an update. -/

namespace Sys2Proof.Machine

/-! `State.writeMap` -/

@[simp] theorem State.writeMap_cfg (s : State) (vp : Nat) (g : Word) (r : Long) :
    (s.writeMap vp g r).cfg = s.cfg := by unfold State.writeMap; split <;> rfl
@[simp] theorem State.writeMap_stack (s : State) (vp : Nat) (g : Word) (r : Long) :
    (s.writeMap vp g r).stack = s.stack := by unfold State.writeMap; split <;> rfl
@[simp] theorem State.writeMap_sp (s : State) (vp : Nat) (g : Word) (r : Long) :
    (s.writeMap vp g r).sp = s.sp := by unfold State.writeMap; split <;> rfl
@[simp] theorem State.writeMap_psb (s : State) (vp : Nat) (g : Word) (r : Long) :
    (s.writeMap vp g r).psb = s.psb := by unfold State.writeMap; split <;> rfl
@[simp] theorem State.writeMap_mds (s : State) (vp : Nat) (g : Word) (r : Long) :
    (s.writeMap vp g r).mds = s.mds := by unfold State.writeMap; split <;> rfl
@[simp] theorem State.writeMap_lf (s : State) (vp : Nat) (g : Word) (r : Long) :
    (s.writeMap vp g r).lf = s.lf := by unfold State.writeMap; split <;> rfl
@[simp] theorem State.writeMap_gf (s : State) (vp : Nat) (g : Word) (r : Long) :
    (s.writeMap vp g r).gf = s.gf := by unfold State.writeMap; split <;> rfl
@[simp] theorem State.writeMap_cb (s : State) (vp : Nat) (g : Word) (r : Long) :
    (s.writeMap vp g r).cb = s.cb := by unfold State.writeMap; split <;> rfl
@[simp] theorem State.writeMap_pc (s : State) (vp : Nat) (g : Word) (r : Long) :
    (s.writeMap vp g r).pc = s.pc := by unfold State.writeMap; split <;> rfl
@[simp] theorem State.writeMap_pid (s : State) (vp : Nat) (g : Word) (r : Long) :
    (s.writeMap vp g r).pid = s.pid := by unfold State.writeMap; split <;> rfl
@[simp] theorem State.writeMap_mp (s : State) (vp : Nat) (g : Word) (r : Long) :
    (s.writeMap vp g r).mp = s.mp := by unfold State.writeMap; split <;> rfl
@[simp] theorem State.writeMap_it (s : State) (vp : Nat) (g : Word) (r : Long) :
    (s.writeMap vp g r).it = s.it := by unfold State.writeMap; split <;> rfl
@[simp] theorem State.writeMap_wm (s : State) (vp : Nat) (g : Word) (r : Long) :
    (s.writeMap vp g r).wm = s.wm := by unfold State.writeMap; split <;> rfl
@[simp] theorem State.writeMap_wp (s : State) (vp : Nat) (g : Word) (r : Long) :
    (s.writeMap vp g r).wp = s.wp := by unfold State.writeMap; split <;> rfl
@[simp] theorem State.writeMap_wdc (s : State) (vp : Nat) (g : Word) (r : Long) :
    (s.writeMap vp g r).wdc = s.wdc := by unfold State.writeMap; split <;> rfl
@[simp] theorem State.writeMap_ptc (s : State) (vp : Nat) (g : Word) (r : Long) :
    (s.writeMap vp g r).ptc = s.ptc := by unfold State.writeMap; split <;> rfl
@[simp] theorem State.writeMap_xts (s : State) (vp : Nat) (g : Word) (r : Long) :
    (s.writeMap vp g r).xts = s.xts := by unfold State.writeMap; split <;> rfl
@[simp] theorem State.writeMap_breakByte (s : State) (vp : Nat) (g : Word) (r : Long) :
    (s.writeMap vp g r).breakByte = s.breakByte := by unfold State.writeMap; split <;> rfl
@[simp] theorem State.writeMap_savedPC (s : State) (vp : Nat) (g : Word) (r : Long) :
    (s.writeMap vp g r).savedPC = s.savedPC := by unfold State.writeMap; split <;> rfl
@[simp] theorem State.writeMap_savedSP (s : State) (vp : Nat) (g : Word) (r : Long) :
    (s.writeMap vp g r).savedSP = s.savedSP := by unfold State.writeMap; split <;> rfl
@[simp] theorem State.writeMap_running (s : State) (vp : Nat) (g : Word) (r : Long) :
    (s.writeMap vp g r).running = s.running := by unfold State.writeMap; split <;> rfl
@[simp] theorem State.writeMap_time (s : State) (vp : Nat) (g : Word) (r : Long) :
    (s.writeMap vp g r).time = s.time := by unfold State.writeMap; split <;> rfl
@[simp] theorem State.writeMap_mem (s : State) (vp : Nat) (g : Word) (r : Long) :
    (s.writeMap vp g r).mem = s.mem := by unfold State.writeMap; split <;> rfl
@[simp] theorem State.writeMap_exception (s : State) (vp : Nat) (g : Word) (r : Long) :
    (s.writeMap vp g r).exception = s.exception := by unfold State.writeMap; split <;> rfl
@[simp] theorem State.writeMap_freeIndex (s : State) (vp : Nat) (g : Word) (r : Long) :
    (s.writeMap vp g r).freeIndex = s.freeIndex := by unfold State.writeMap; split <;> rfl
@[simp] theorem State.writeMap_inputs (s : State) (vp : Nat) (g : Word) (r : Long) :
    (s.writeMap vp g r).inputs = s.inputs := by unfold State.writeMap; split <;> rfl
@[simp] theorem State.writeMap_turns (s : State) (vp : Nat) (g : Word) (r : Long) :
    (s.writeMap vp g r).turns = s.turns := by unfold State.writeMap; split <;> rfl
@[simp] theorem State.writeMap_codeWrites (s : State) (vp : Nat) (g : Word) (r : Long) :
    (s.writeMap vp g r).codeWrites = s.codeWrites := by unfold State.writeMap; split <;> rfl
@[simp] theorem State.writeMap_scan (s : State) (vp : Nat) (g : Word) (r : Long) :
    (s.writeMap vp g r).scan = s.scan := by unfold State.writeMap; split <;> rfl
@[simp] theorem State.writeMap_suspended (s : State) (vp : Nat) (g : Word) (r : Long) :
    (s.writeMap vp g r).suspended = s.suspended := by unfold State.writeMap; split <;> rfl

/-- What a successful access changes: the map, and for a page resident in real memory the count of free values. -/
theorem State.touch_cases (s : State) (va : Long) (a : Access) : ∃ m n, s.touch va a = { s with map := m, freeIndex := n } := by
  unfold State.touch State.writeMap
  split
  · dsimp only; split
    · exact ⟨_, _, rfl⟩
    · split <;> exact ⟨_, _, rfl⟩
  · split <;> exact ⟨_, _, rfl⟩

/-! `State.touch` -/

@[simp] theorem State.touch_cfg (s : State) (va : Long) (a : Access) :
    (s.touch va a).cfg = s.cfg := by obtain ⟨m, n, h⟩ := s.touch_cases va a; rw [h]
@[simp] theorem State.touch_stack (s : State) (va : Long) (a : Access) :
    (s.touch va a).stack = s.stack := by obtain ⟨m, n, h⟩ := s.touch_cases va a; rw [h]
@[simp] theorem State.touch_sp (s : State) (va : Long) (a : Access) :
    (s.touch va a).sp = s.sp := by obtain ⟨m, n, h⟩ := s.touch_cases va a; rw [h]
@[simp] theorem State.touch_psb (s : State) (va : Long) (a : Access) :
    (s.touch va a).psb = s.psb := by obtain ⟨m, n, h⟩ := s.touch_cases va a; rw [h]
@[simp] theorem State.touch_mds (s : State) (va : Long) (a : Access) :
    (s.touch va a).mds = s.mds := by obtain ⟨m, n, h⟩ := s.touch_cases va a; rw [h]
@[simp] theorem State.touch_lf (s : State) (va : Long) (a : Access) :
    (s.touch va a).lf = s.lf := by obtain ⟨m, n, h⟩ := s.touch_cases va a; rw [h]
@[simp] theorem State.touch_gf (s : State) (va : Long) (a : Access) :
    (s.touch va a).gf = s.gf := by obtain ⟨m, n, h⟩ := s.touch_cases va a; rw [h]
@[simp] theorem State.touch_cb (s : State) (va : Long) (a : Access) :
    (s.touch va a).cb = s.cb := by obtain ⟨m, n, h⟩ := s.touch_cases va a; rw [h]
@[simp] theorem State.touch_pc (s : State) (va : Long) (a : Access) :
    (s.touch va a).pc = s.pc := by obtain ⟨m, n, h⟩ := s.touch_cases va a; rw [h]
@[simp] theorem State.touch_pid (s : State) (va : Long) (a : Access) :
    (s.touch va a).pid = s.pid := by obtain ⟨m, n, h⟩ := s.touch_cases va a; rw [h]
@[simp] theorem State.touch_mp (s : State) (va : Long) (a : Access) :
    (s.touch va a).mp = s.mp := by obtain ⟨m, n, h⟩ := s.touch_cases va a; rw [h]
@[simp] theorem State.touch_it (s : State) (va : Long) (a : Access) :
    (s.touch va a).it = s.it := by obtain ⟨m, n, h⟩ := s.touch_cases va a; rw [h]
@[simp] theorem State.touch_wm (s : State) (va : Long) (a : Access) :
    (s.touch va a).wm = s.wm := by obtain ⟨m, n, h⟩ := s.touch_cases va a; rw [h]
@[simp] theorem State.touch_wp (s : State) (va : Long) (a : Access) :
    (s.touch va a).wp = s.wp := by obtain ⟨m, n, h⟩ := s.touch_cases va a; rw [h]
@[simp] theorem State.touch_wdc (s : State) (va : Long) (a : Access) :
    (s.touch va a).wdc = s.wdc := by obtain ⟨m, n, h⟩ := s.touch_cases va a; rw [h]
@[simp] theorem State.touch_ptc (s : State) (va : Long) (a : Access) :
    (s.touch va a).ptc = s.ptc := by obtain ⟨m, n, h⟩ := s.touch_cases va a; rw [h]
@[simp] theorem State.touch_xts (s : State) (va : Long) (a : Access) :
    (s.touch va a).xts = s.xts := by obtain ⟨m, n, h⟩ := s.touch_cases va a; rw [h]
@[simp] theorem State.touch_breakByte (s : State) (va : Long) (a : Access) :
    (s.touch va a).breakByte = s.breakByte := by obtain ⟨m, n, h⟩ := s.touch_cases va a; rw [h]
@[simp] theorem State.touch_savedPC (s : State) (va : Long) (a : Access) :
    (s.touch va a).savedPC = s.savedPC := by obtain ⟨m, n, h⟩ := s.touch_cases va a; rw [h]
@[simp] theorem State.touch_savedSP (s : State) (va : Long) (a : Access) :
    (s.touch va a).savedSP = s.savedSP := by obtain ⟨m, n, h⟩ := s.touch_cases va a; rw [h]
@[simp] theorem State.touch_running (s : State) (va : Long) (a : Access) :
    (s.touch va a).running = s.running := by obtain ⟨m, n, h⟩ := s.touch_cases va a; rw [h]
@[simp] theorem State.touch_time (s : State) (va : Long) (a : Access) :
    (s.touch va a).time = s.time := by obtain ⟨m, n, h⟩ := s.touch_cases va a; rw [h]
@[simp] theorem State.touch_mem (s : State) (va : Long) (a : Access) :
    (s.touch va a).mem = s.mem := by obtain ⟨m, n, h⟩ := s.touch_cases va a; rw [h]
@[simp] theorem State.touch_exception (s : State) (va : Long) (a : Access) :
    (s.touch va a).exception = s.exception := by obtain ⟨m, n, h⟩ := s.touch_cases va a; rw [h]
@[simp] theorem State.touch_inputs (s : State) (va : Long) (a : Access) :
    (s.touch va a).inputs = s.inputs := by obtain ⟨m, n, h⟩ := s.touch_cases va a; rw [h]
@[simp] theorem State.touch_turns (s : State) (va : Long) (a : Access) :
    (s.touch va a).turns = s.turns := by obtain ⟨m, n, h⟩ := s.touch_cases va a; rw [h]
@[simp] theorem State.touch_codeWrites (s : State) (va : Long) (a : Access) :
    (s.touch va a).codeWrites = s.codeWrites := by obtain ⟨m, n, h⟩ := s.touch_cases va a; rw [h]
@[simp] theorem State.touch_scan (s : State) (va : Long) (a : Access) :
    (s.touch va a).scan = s.scan := by obtain ⟨m, n, h⟩ := s.touch_cases va a; rw [h]
@[simp] theorem State.touch_suspended (s : State) (va : Long) (a : Access) :
    (s.touch va a).suspended = s.suspended := by obtain ⟨m, n, h⟩ := s.touch_cases va a; rw [h]

/-! `State.putWord` -/

@[simp] theorem State.putWord_cfg (s : State) (va : Long) (ra : Nat) (w : Word) : (s.putWord va ra w).cfg = s.cfg := rfl
@[simp] theorem State.putWord_stack (s : State) (va : Long) (ra : Nat) (w : Word) : (s.putWord va ra w).stack = s.stack := rfl
@[simp] theorem State.putWord_sp (s : State) (va : Long) (ra : Nat) (w : Word) : (s.putWord va ra w).sp = s.sp := rfl
@[simp] theorem State.putWord_psb (s : State) (va : Long) (ra : Nat) (w : Word) : (s.putWord va ra w).psb = s.psb := rfl
@[simp] theorem State.putWord_mds (s : State) (va : Long) (ra : Nat) (w : Word) : (s.putWord va ra w).mds = s.mds := rfl
@[simp] theorem State.putWord_lf (s : State) (va : Long) (ra : Nat) (w : Word) : (s.putWord va ra w).lf = s.lf := rfl
@[simp] theorem State.putWord_gf (s : State) (va : Long) (ra : Nat) (w : Word) : (s.putWord va ra w).gf = s.gf := rfl
@[simp] theorem State.putWord_cb (s : State) (va : Long) (ra : Nat) (w : Word) : (s.putWord va ra w).cb = s.cb := rfl
@[simp] theorem State.putWord_pc (s : State) (va : Long) (ra : Nat) (w : Word) : (s.putWord va ra w).pc = s.pc := rfl
@[simp] theorem State.putWord_pid (s : State) (va : Long) (ra : Nat) (w : Word) : (s.putWord va ra w).pid = s.pid := rfl
@[simp] theorem State.putWord_mp (s : State) (va : Long) (ra : Nat) (w : Word) : (s.putWord va ra w).mp = s.mp := rfl
@[simp] theorem State.putWord_it (s : State) (va : Long) (ra : Nat) (w : Word) : (s.putWord va ra w).it = s.it := rfl
@[simp] theorem State.putWord_wm (s : State) (va : Long) (ra : Nat) (w : Word) : (s.putWord va ra w).wm = s.wm := rfl
@[simp] theorem State.putWord_wp (s : State) (va : Long) (ra : Nat) (w : Word) : (s.putWord va ra w).wp = s.wp := rfl
@[simp] theorem State.putWord_wdc (s : State) (va : Long) (ra : Nat) (w : Word) : (s.putWord va ra w).wdc = s.wdc := rfl
@[simp] theorem State.putWord_ptc (s : State) (va : Long) (ra : Nat) (w : Word) : (s.putWord va ra w).ptc = s.ptc := rfl
@[simp] theorem State.putWord_xts (s : State) (va : Long) (ra : Nat) (w : Word) : (s.putWord va ra w).xts = s.xts := rfl
@[simp] theorem State.putWord_breakByte (s : State) (va : Long) (ra : Nat) (w : Word) :
    (s.putWord va ra w).breakByte = s.breakByte := rfl
@[simp] theorem State.putWord_savedPC (s : State) (va : Long) (ra : Nat) (w : Word) :
    (s.putWord va ra w).savedPC = s.savedPC := rfl
@[simp] theorem State.putWord_savedSP (s : State) (va : Long) (ra : Nat) (w : Word) :
    (s.putWord va ra w).savedSP = s.savedSP := rfl
@[simp] theorem State.putWord_running (s : State) (va : Long) (ra : Nat) (w : Word) :
    (s.putWord va ra w).running = s.running := rfl
@[simp] theorem State.putWord_time (s : State) (va : Long) (ra : Nat) (w : Word) : (s.putWord va ra w).time = s.time := rfl
@[simp] theorem State.putWord_map (s : State) (va : Long) (ra : Nat) (w : Word) : (s.putWord va ra w).map = s.map := rfl
@[simp] theorem State.putWord_exception (s : State) (va : Long) (ra : Nat) (w : Word) :
    (s.putWord va ra w).exception = s.exception := rfl
@[simp] theorem State.putWord_freeIndex (s : State) (va : Long) (ra : Nat) (w : Word) :
    (s.putWord va ra w).freeIndex = s.freeIndex := rfl
@[simp] theorem State.putWord_inputs (s : State) (va : Long) (ra : Nat) (w : Word) : (s.putWord va ra w).inputs = s.inputs := rfl
@[simp] theorem State.putWord_turns (s : State) (va : Long) (ra : Nat) (w : Word) : (s.putWord va ra w).turns = s.turns := rfl
@[simp] theorem State.putWord_scan (s : State) (va : Long) (ra : Nat) (w : Word) : (s.putWord va ra w).scan = s.scan := rfl
@[simp] theorem State.putWord_suspended (s : State) (va : Long) (ra : Nat) (w : Word) :
    (s.putWord va ra w).suspended = s.suspended := rfl

@[simp] theorem State.putWord_mem (s : State) (va : Long) (ra : Nat) (w : Word) :
    (s.putWord va ra w).mem = Memory.setWord s.mem ra w := rfl

/-! `State.storeWord` -/

@[simp] theorem State.storeWord_cfg (s : State) (va : Long) (w : Word) :
    (s.storeWord va w).cfg = s.cfg := by simp [State.storeWord]
@[simp] theorem State.storeWord_stack (s : State) (va : Long) (w : Word) :
    (s.storeWord va w).stack = s.stack := by simp [State.storeWord]
@[simp] theorem State.storeWord_sp (s : State) (va : Long) (w : Word) : (s.storeWord va w).sp = s.sp := by simp [State.storeWord]
@[simp] theorem State.storeWord_psb (s : State) (va : Long) (w : Word) :
    (s.storeWord va w).psb = s.psb := by simp [State.storeWord]
@[simp] theorem State.storeWord_mds (s : State) (va : Long) (w : Word) :
    (s.storeWord va w).mds = s.mds := by simp [State.storeWord]
@[simp] theorem State.storeWord_lf (s : State) (va : Long) (w : Word) : (s.storeWord va w).lf = s.lf := by simp [State.storeWord]
@[simp] theorem State.storeWord_gf (s : State) (va : Long) (w : Word) : (s.storeWord va w).gf = s.gf := by simp [State.storeWord]
@[simp] theorem State.storeWord_cb (s : State) (va : Long) (w : Word) : (s.storeWord va w).cb = s.cb := by simp [State.storeWord]
@[simp] theorem State.storeWord_pc (s : State) (va : Long) (w : Word) : (s.storeWord va w).pc = s.pc := by simp [State.storeWord]
@[simp] theorem State.storeWord_pid (s : State) (va : Long) (w : Word) :
    (s.storeWord va w).pid = s.pid := by simp [State.storeWord]
@[simp] theorem State.storeWord_mp (s : State) (va : Long) (w : Word) : (s.storeWord va w).mp = s.mp := by simp [State.storeWord]
@[simp] theorem State.storeWord_it (s : State) (va : Long) (w : Word) : (s.storeWord va w).it = s.it := by simp [State.storeWord]
@[simp] theorem State.storeWord_wm (s : State) (va : Long) (w : Word) : (s.storeWord va w).wm = s.wm := by simp [State.storeWord]
@[simp] theorem State.storeWord_wp (s : State) (va : Long) (w : Word) : (s.storeWord va w).wp = s.wp := by simp [State.storeWord]
@[simp] theorem State.storeWord_wdc (s : State) (va : Long) (w : Word) :
    (s.storeWord va w).wdc = s.wdc := by simp [State.storeWord]
@[simp] theorem State.storeWord_ptc (s : State) (va : Long) (w : Word) :
    (s.storeWord va w).ptc = s.ptc := by simp [State.storeWord]
@[simp] theorem State.storeWord_xts (s : State) (va : Long) (w : Word) :
    (s.storeWord va w).xts = s.xts := by simp [State.storeWord]
@[simp] theorem State.storeWord_breakByte (s : State) (va : Long) (w : Word) :
    (s.storeWord va w).breakByte = s.breakByte := by simp [State.storeWord]
@[simp] theorem State.storeWord_savedPC (s : State) (va : Long) (w : Word) :
    (s.storeWord va w).savedPC = s.savedPC := by simp [State.storeWord]
@[simp] theorem State.storeWord_savedSP (s : State) (va : Long) (w : Word) :
    (s.storeWord va w).savedSP = s.savedSP := by simp [State.storeWord]
@[simp] theorem State.storeWord_running (s : State) (va : Long) (w : Word) :
    (s.storeWord va w).running = s.running := by simp [State.storeWord]
@[simp] theorem State.storeWord_time (s : State) (va : Long) (w : Word) :
    (s.storeWord va w).time = s.time := by simp [State.storeWord]
@[simp] theorem State.storeWord_exception (s : State) (va : Long) (w : Word) :
    (s.storeWord va w).exception = s.exception := by simp [State.storeWord]
@[simp] theorem State.storeWord_inputs (s : State) (va : Long) (w : Word) :
    (s.storeWord va w).inputs = s.inputs := by simp [State.storeWord]
@[simp] theorem State.storeWord_turns (s : State) (va : Long) (w : Word) :
    (s.storeWord va w).turns = s.turns := by simp [State.storeWord]
@[simp] theorem State.storeWord_scan (s : State) (va : Long) (w : Word) :
    (s.storeWord va w).scan = s.scan := by simp [State.storeWord]
@[simp] theorem State.storeWord_suspended (s : State) (va : Long) (w : Word) :
    (s.storeWord va w).suspended = s.suspended := by simp [State.storeWord]

@[simp] theorem State.storeWord_map (s : State) (va : Long) (w : Word) : (s.storeWord va w).map = (s.touch va .write).map := rfl
@[simp] theorem State.storeWord_freeIndex (s : State) (va : Long) (w : Word) :
    (s.storeWord va w).freeIndex = (s.touch va .write).freeIndex := rfl
@[simp] theorem State.storeWord_mem (s : State) (va : Long) (w : Word) :
    (s.storeWord va w).mem = Memory.setWord s.mem (s.realAddress va) w := by simp [State.storeWord]
@[simp] theorem State.storeWord_codeWrites (s : State) (va : Long) (w : Word) :
    (s.storeWord va w).codeWrites =
      if s.mayHoldCode va then (va, s.wordAt va) :: s.codeWrites else s.codeWrites := by
  simp [State.storeWord, State.putWord, State.mayHoldCode, State.wordAt]

/-! `State.result` -/

@[simp] theorem State.result_cfg (s : State) (base : Nat) (ws above : List Word) : (s.result base ws above).cfg = s.cfg := rfl
@[simp] theorem State.result_psb (s : State) (base : Nat) (ws above : List Word) : (s.result base ws above).psb = s.psb := rfl
@[simp] theorem State.result_mds (s : State) (base : Nat) (ws above : List Word) : (s.result base ws above).mds = s.mds := rfl
@[simp] theorem State.result_lf (s : State) (base : Nat) (ws above : List Word) : (s.result base ws above).lf = s.lf := rfl
@[simp] theorem State.result_gf (s : State) (base : Nat) (ws above : List Word) : (s.result base ws above).gf = s.gf := rfl
@[simp] theorem State.result_cb (s : State) (base : Nat) (ws above : List Word) : (s.result base ws above).cb = s.cb := rfl
@[simp] theorem State.result_pc (s : State) (base : Nat) (ws above : List Word) : (s.result base ws above).pc = s.pc := rfl
@[simp] theorem State.result_pid (s : State) (base : Nat) (ws above : List Word) : (s.result base ws above).pid = s.pid := rfl
@[simp] theorem State.result_mp (s : State) (base : Nat) (ws above : List Word) : (s.result base ws above).mp = s.mp := rfl
@[simp] theorem State.result_it (s : State) (base : Nat) (ws above : List Word) : (s.result base ws above).it = s.it := rfl
@[simp] theorem State.result_wm (s : State) (base : Nat) (ws above : List Word) : (s.result base ws above).wm = s.wm := rfl
@[simp] theorem State.result_wp (s : State) (base : Nat) (ws above : List Word) : (s.result base ws above).wp = s.wp := rfl
@[simp] theorem State.result_wdc (s : State) (base : Nat) (ws above : List Word) : (s.result base ws above).wdc = s.wdc := rfl
@[simp] theorem State.result_ptc (s : State) (base : Nat) (ws above : List Word) : (s.result base ws above).ptc = s.ptc := rfl
@[simp] theorem State.result_xts (s : State) (base : Nat) (ws above : List Word) : (s.result base ws above).xts = s.xts := rfl
@[simp] theorem State.result_breakByte (s : State) (base : Nat) (ws above : List Word) :
    (s.result base ws above).breakByte = s.breakByte := rfl
@[simp] theorem State.result_savedPC (s : State) (base : Nat) (ws above : List Word) :
    (s.result base ws above).savedPC = s.savedPC := rfl
@[simp] theorem State.result_savedSP (s : State) (base : Nat) (ws above : List Word) :
    (s.result base ws above).savedSP = s.savedSP := rfl
@[simp] theorem State.result_running (s : State) (base : Nat) (ws above : List Word) :
    (s.result base ws above).running = s.running := rfl
@[simp] theorem State.result_time (s : State) (base : Nat) (ws above : List Word) : (s.result base ws above).time = s.time := rfl
@[simp] theorem State.result_map (s : State) (base : Nat) (ws above : List Word) : (s.result base ws above).map = s.map := rfl
@[simp] theorem State.result_mem (s : State) (base : Nat) (ws above : List Word) : (s.result base ws above).mem = s.mem := rfl
@[simp] theorem State.result_exception (s : State) (base : Nat) (ws above : List Word) :
    (s.result base ws above).exception = s.exception := rfl
@[simp] theorem State.result_freeIndex (s : State) (base : Nat) (ws above : List Word) :
    (s.result base ws above).freeIndex = s.freeIndex := rfl
@[simp] theorem State.result_inputs (s : State) (base : Nat) (ws above : List Word) :
    (s.result base ws above).inputs = s.inputs := rfl
@[simp] theorem State.result_turns (s : State) (base : Nat) (ws above : List Word) :
    (s.result base ws above).turns = s.turns := rfl
@[simp] theorem State.result_codeWrites (s : State) (base : Nat) (ws above : List Word) :
    (s.result base ws above).codeWrites = s.codeWrites := rfl
@[simp] theorem State.result_scan (s : State) (base : Nat) (ws above : List Word) : (s.result base ws above).scan = s.scan := rfl
@[simp] theorem State.result_suspended (s : State) (base : Nat) (ws above : List Word) :
    (s.result base ws above).suspended = s.suspended := rfl

@[simp] theorem State.result_sp (s : State) (base : Nat) (ws above : List Word) :
    (s.result base ws above).sp = base + ws.length := rfl
@[simp] theorem State.result_stack (s : State) (base : Nat) (ws above : List Word) :
    (s.result base ws above).stack = setWords s.stack base (ws ++ above) := rfl

/-! `State.reads` -/

@[simp] theorem State.reads_cfg (s : State) (vas : List Long) : (s.reads vas).cfg = s.cfg := by
  induction vas generalizing s with
  | nil => rfl
  | cons v vs ih => exact (ih (s.touch v .read)).trans (by simp)
@[simp] theorem State.reads_stack (s : State) (vas : List Long) : (s.reads vas).stack = s.stack := by
  induction vas generalizing s with
  | nil => rfl
  | cons v vs ih => exact (ih (s.touch v .read)).trans (by simp)
@[simp] theorem State.reads_sp (s : State) (vas : List Long) : (s.reads vas).sp = s.sp := by
  induction vas generalizing s with
  | nil => rfl
  | cons v vs ih => exact (ih (s.touch v .read)).trans (by simp)
@[simp] theorem State.reads_psb (s : State) (vas : List Long) : (s.reads vas).psb = s.psb := by
  induction vas generalizing s with
  | nil => rfl
  | cons v vs ih => exact (ih (s.touch v .read)).trans (by simp)
@[simp] theorem State.reads_mds (s : State) (vas : List Long) : (s.reads vas).mds = s.mds := by
  induction vas generalizing s with
  | nil => rfl
  | cons v vs ih => exact (ih (s.touch v .read)).trans (by simp)
@[simp] theorem State.reads_lf (s : State) (vas : List Long) : (s.reads vas).lf = s.lf := by
  induction vas generalizing s with
  | nil => rfl
  | cons v vs ih => exact (ih (s.touch v .read)).trans (by simp)
@[simp] theorem State.reads_gf (s : State) (vas : List Long) : (s.reads vas).gf = s.gf := by
  induction vas generalizing s with
  | nil => rfl
  | cons v vs ih => exact (ih (s.touch v .read)).trans (by simp)
@[simp] theorem State.reads_cb (s : State) (vas : List Long) : (s.reads vas).cb = s.cb := by
  induction vas generalizing s with
  | nil => rfl
  | cons v vs ih => exact (ih (s.touch v .read)).trans (by simp)
@[simp] theorem State.reads_pc (s : State) (vas : List Long) : (s.reads vas).pc = s.pc := by
  induction vas generalizing s with
  | nil => rfl
  | cons v vs ih => exact (ih (s.touch v .read)).trans (by simp)
@[simp] theorem State.reads_pid (s : State) (vas : List Long) : (s.reads vas).pid = s.pid := by
  induction vas generalizing s with
  | nil => rfl
  | cons v vs ih => exact (ih (s.touch v .read)).trans (by simp)
@[simp] theorem State.reads_mp (s : State) (vas : List Long) : (s.reads vas).mp = s.mp := by
  induction vas generalizing s with
  | nil => rfl
  | cons v vs ih => exact (ih (s.touch v .read)).trans (by simp)
@[simp] theorem State.reads_it (s : State) (vas : List Long) : (s.reads vas).it = s.it := by
  induction vas generalizing s with
  | nil => rfl
  | cons v vs ih => exact (ih (s.touch v .read)).trans (by simp)
@[simp] theorem State.reads_wm (s : State) (vas : List Long) : (s.reads vas).wm = s.wm := by
  induction vas generalizing s with
  | nil => rfl
  | cons v vs ih => exact (ih (s.touch v .read)).trans (by simp)
@[simp] theorem State.reads_wp (s : State) (vas : List Long) : (s.reads vas).wp = s.wp := by
  induction vas generalizing s with
  | nil => rfl
  | cons v vs ih => exact (ih (s.touch v .read)).trans (by simp)
@[simp] theorem State.reads_wdc (s : State) (vas : List Long) : (s.reads vas).wdc = s.wdc := by
  induction vas generalizing s with
  | nil => rfl
  | cons v vs ih => exact (ih (s.touch v .read)).trans (by simp)
@[simp] theorem State.reads_ptc (s : State) (vas : List Long) : (s.reads vas).ptc = s.ptc := by
  induction vas generalizing s with
  | nil => rfl
  | cons v vs ih => exact (ih (s.touch v .read)).trans (by simp)
@[simp] theorem State.reads_xts (s : State) (vas : List Long) : (s.reads vas).xts = s.xts := by
  induction vas generalizing s with
  | nil => rfl
  | cons v vs ih => exact (ih (s.touch v .read)).trans (by simp)
@[simp] theorem State.reads_breakByte (s : State) (vas : List Long) : (s.reads vas).breakByte = s.breakByte := by
  induction vas generalizing s with
  | nil => rfl
  | cons v vs ih => exact (ih (s.touch v .read)).trans (by simp)
@[simp] theorem State.reads_savedPC (s : State) (vas : List Long) : (s.reads vas).savedPC = s.savedPC := by
  induction vas generalizing s with
  | nil => rfl
  | cons v vs ih => exact (ih (s.touch v .read)).trans (by simp)
@[simp] theorem State.reads_savedSP (s : State) (vas : List Long) : (s.reads vas).savedSP = s.savedSP := by
  induction vas generalizing s with
  | nil => rfl
  | cons v vs ih => exact (ih (s.touch v .read)).trans (by simp)
@[simp] theorem State.reads_running (s : State) (vas : List Long) : (s.reads vas).running = s.running := by
  induction vas generalizing s with
  | nil => rfl
  | cons v vs ih => exact (ih (s.touch v .read)).trans (by simp)
@[simp] theorem State.reads_time (s : State) (vas : List Long) : (s.reads vas).time = s.time := by
  induction vas generalizing s with
  | nil => rfl
  | cons v vs ih => exact (ih (s.touch v .read)).trans (by simp)
@[simp] theorem State.reads_mem (s : State) (vas : List Long) : (s.reads vas).mem = s.mem := by
  induction vas generalizing s with
  | nil => rfl
  | cons v vs ih => exact (ih (s.touch v .read)).trans (by simp)
@[simp] theorem State.reads_exception (s : State) (vas : List Long) : (s.reads vas).exception = s.exception := by
  induction vas generalizing s with
  | nil => rfl
  | cons v vs ih => exact (ih (s.touch v .read)).trans (by simp)
@[simp] theorem State.reads_inputs (s : State) (vas : List Long) : (s.reads vas).inputs = s.inputs := by
  induction vas generalizing s with
  | nil => rfl
  | cons v vs ih => exact (ih (s.touch v .read)).trans (by simp)
@[simp] theorem State.reads_turns (s : State) (vas : List Long) : (s.reads vas).turns = s.turns := by
  induction vas generalizing s with
  | nil => rfl
  | cons v vs ih => exact (ih (s.touch v .read)).trans (by simp)
@[simp] theorem State.reads_codeWrites (s : State) (vas : List Long) : (s.reads vas).codeWrites = s.codeWrites := by
  induction vas generalizing s with
  | nil => rfl
  | cons v vs ih => exact (ih (s.touch v .read)).trans (by simp)
@[simp] theorem State.reads_scan (s : State) (vas : List Long) : (s.reads vas).scan = s.scan := by
  induction vas generalizing s with
  | nil => rfl
  | cons v vs ih => exact (ih (s.touch v .read)).trans (by simp)
@[simp] theorem State.reads_suspended (s : State) (vas : List Long) : (s.reads vas).suspended = s.suspended := by
  induction vas generalizing s with
  | nil => rfl
  | cons v vs ih => exact (ih (s.touch v .read)).trans (by simp)

/-! `State.copyWord` -/

@[simp] theorem State.copyWord_cfg (s : State) (src dst : Long) : (s.copyWord src dst).cfg = s.cfg := by simp [State.copyWord]
@[simp] theorem State.copyWord_stack (s : State) (src dst : Long) :
    (s.copyWord src dst).stack = s.stack := by simp [State.copyWord]
@[simp] theorem State.copyWord_sp (s : State) (src dst : Long) : (s.copyWord src dst).sp = s.sp := by simp [State.copyWord]
@[simp] theorem State.copyWord_psb (s : State) (src dst : Long) : (s.copyWord src dst).psb = s.psb := by simp [State.copyWord]
@[simp] theorem State.copyWord_mds (s : State) (src dst : Long) : (s.copyWord src dst).mds = s.mds := by simp [State.copyWord]
@[simp] theorem State.copyWord_lf (s : State) (src dst : Long) : (s.copyWord src dst).lf = s.lf := by simp [State.copyWord]
@[simp] theorem State.copyWord_gf (s : State) (src dst : Long) : (s.copyWord src dst).gf = s.gf := by simp [State.copyWord]
@[simp] theorem State.copyWord_cb (s : State) (src dst : Long) : (s.copyWord src dst).cb = s.cb := by simp [State.copyWord]
@[simp] theorem State.copyWord_pc (s : State) (src dst : Long) : (s.copyWord src dst).pc = s.pc := by simp [State.copyWord]
@[simp] theorem State.copyWord_pid (s : State) (src dst : Long) : (s.copyWord src dst).pid = s.pid := by simp [State.copyWord]
@[simp] theorem State.copyWord_mp (s : State) (src dst : Long) : (s.copyWord src dst).mp = s.mp := by simp [State.copyWord]
@[simp] theorem State.copyWord_it (s : State) (src dst : Long) : (s.copyWord src dst).it = s.it := by simp [State.copyWord]
@[simp] theorem State.copyWord_wm (s : State) (src dst : Long) : (s.copyWord src dst).wm = s.wm := by simp [State.copyWord]
@[simp] theorem State.copyWord_wp (s : State) (src dst : Long) : (s.copyWord src dst).wp = s.wp := by simp [State.copyWord]
@[simp] theorem State.copyWord_wdc (s : State) (src dst : Long) : (s.copyWord src dst).wdc = s.wdc := by simp [State.copyWord]
@[simp] theorem State.copyWord_ptc (s : State) (src dst : Long) : (s.copyWord src dst).ptc = s.ptc := by simp [State.copyWord]
@[simp] theorem State.copyWord_xts (s : State) (src dst : Long) : (s.copyWord src dst).xts = s.xts := by simp [State.copyWord]
@[simp] theorem State.copyWord_breakByte (s : State) (src dst : Long) :
    (s.copyWord src dst).breakByte = s.breakByte := by simp [State.copyWord]
@[simp] theorem State.copyWord_savedPC (s : State) (src dst : Long) :
    (s.copyWord src dst).savedPC = s.savedPC := by simp [State.copyWord]
@[simp] theorem State.copyWord_savedSP (s : State) (src dst : Long) :
    (s.copyWord src dst).savedSP = s.savedSP := by simp [State.copyWord]
@[simp] theorem State.copyWord_running (s : State) (src dst : Long) :
    (s.copyWord src dst).running = s.running := by simp [State.copyWord]
@[simp] theorem State.copyWord_time (s : State) (src dst : Long) : (s.copyWord src dst).time = s.time := by simp [State.copyWord]
@[simp] theorem State.copyWord_exception (s : State) (src dst : Long) :
    (s.copyWord src dst).exception = s.exception := by simp [State.copyWord]
@[simp] theorem State.copyWord_inputs (s : State) (src dst : Long) :
    (s.copyWord src dst).inputs = s.inputs := by simp [State.copyWord]
@[simp] theorem State.copyWord_turns (s : State) (src dst : Long) :
    (s.copyWord src dst).turns = s.turns := by simp [State.copyWord]
@[simp] theorem State.copyWord_scan (s : State) (src dst : Long) : (s.copyWord src dst).scan = s.scan := by simp [State.copyWord]
@[simp] theorem State.copyWord_suspended (s : State) (src dst : Long) :
    (s.copyWord src dst).suspended = s.suspended := by simp [State.copyWord]

/-- What a device's access changes: the map, memory, the words of the code segment it has stored to, and the count of free values. -/
theorem State.deviceAccess_cases (s : State) (d : DeviceAccess) :
    ∃ m n c k, s.deviceAccess d = { s with map := m, mem := n, codeWrites := c, freeIndex := k } := by
  unfold State.deviceAccess
  dsimp only
  split
  · split
    · obtain ⟨m, k, h⟩ := s.touch_cases (by assumption) .read
      rw [h]; exact ⟨_, _, _, _, rfl⟩
    · exact ⟨_, _, _, _, rfl⟩
  · split
    · obtain ⟨m, k, h⟩ := s.touch_cases (by assumption) .write
      rw [h]; exact ⟨_, _, _, _, rfl⟩
    · exact ⟨_, _, _, _, rfl⟩

/-- What devices' accesses change. -/
theorem State.deviceAccesses_cases (s : State) (ds : List DeviceAccess) :
    ∃ m n c k, s.deviceAccesses ds = { s with map := m, mem := n, codeWrites := c, freeIndex := k } := by
  induction ds generalizing s with
  | nil => exact ⟨_, _, _, _, rfl⟩
  | cons d ds ih =>
    obtain ⟨m, n, c, k, h⟩ := s.deviceAccess_cases d
    obtain ⟨m', n', c', k', h'⟩ := ih (s.deviceAccess d)
    exact ⟨m', n', c', k', by rw [show s.deviceAccesses (d :: ds) = (s.deviceAccess d).deviceAccesses ds from rfl, h', h]⟩

/-! `State.deviceAccesses` -/

@[simp] theorem State.deviceAccesses_cfg (s : State) (ds : List DeviceAccess) : (s.deviceAccesses ds).cfg = s.cfg := by
  obtain ⟨m, n, c, k, h⟩ := s.deviceAccesses_cases ds; rw [h]
@[simp] theorem State.deviceAccesses_stack (s : State) (ds : List DeviceAccess) : (s.deviceAccesses ds).stack = s.stack := by
  obtain ⟨m, n, c, k, h⟩ := s.deviceAccesses_cases ds; rw [h]
@[simp] theorem State.deviceAccesses_sp (s : State) (ds : List DeviceAccess) : (s.deviceAccesses ds).sp = s.sp := by
  obtain ⟨m, n, c, k, h⟩ := s.deviceAccesses_cases ds; rw [h]
@[simp] theorem State.deviceAccesses_psb (s : State) (ds : List DeviceAccess) : (s.deviceAccesses ds).psb = s.psb := by
  obtain ⟨m, n, c, k, h⟩ := s.deviceAccesses_cases ds; rw [h]
@[simp] theorem State.deviceAccesses_mds (s : State) (ds : List DeviceAccess) : (s.deviceAccesses ds).mds = s.mds := by
  obtain ⟨m, n, c, k, h⟩ := s.deviceAccesses_cases ds; rw [h]
@[simp] theorem State.deviceAccesses_lf (s : State) (ds : List DeviceAccess) : (s.deviceAccesses ds).lf = s.lf := by
  obtain ⟨m, n, c, k, h⟩ := s.deviceAccesses_cases ds; rw [h]
@[simp] theorem State.deviceAccesses_gf (s : State) (ds : List DeviceAccess) : (s.deviceAccesses ds).gf = s.gf := by
  obtain ⟨m, n, c, k, h⟩ := s.deviceAccesses_cases ds; rw [h]
@[simp] theorem State.deviceAccesses_cb (s : State) (ds : List DeviceAccess) : (s.deviceAccesses ds).cb = s.cb := by
  obtain ⟨m, n, c, k, h⟩ := s.deviceAccesses_cases ds; rw [h]
@[simp] theorem State.deviceAccesses_pc (s : State) (ds : List DeviceAccess) : (s.deviceAccesses ds).pc = s.pc := by
  obtain ⟨m, n, c, k, h⟩ := s.deviceAccesses_cases ds; rw [h]
@[simp] theorem State.deviceAccesses_pid (s : State) (ds : List DeviceAccess) : (s.deviceAccesses ds).pid = s.pid := by
  obtain ⟨m, n, c, k, h⟩ := s.deviceAccesses_cases ds; rw [h]
@[simp] theorem State.deviceAccesses_mp (s : State) (ds : List DeviceAccess) : (s.deviceAccesses ds).mp = s.mp := by
  obtain ⟨m, n, c, k, h⟩ := s.deviceAccesses_cases ds; rw [h]
@[simp] theorem State.deviceAccesses_it (s : State) (ds : List DeviceAccess) : (s.deviceAccesses ds).it = s.it := by
  obtain ⟨m, n, c, k, h⟩ := s.deviceAccesses_cases ds; rw [h]
@[simp] theorem State.deviceAccesses_wm (s : State) (ds : List DeviceAccess) : (s.deviceAccesses ds).wm = s.wm := by
  obtain ⟨m, n, c, k, h⟩ := s.deviceAccesses_cases ds; rw [h]
@[simp] theorem State.deviceAccesses_wp (s : State) (ds : List DeviceAccess) : (s.deviceAccesses ds).wp = s.wp := by
  obtain ⟨m, n, c, k, h⟩ := s.deviceAccesses_cases ds; rw [h]
@[simp] theorem State.deviceAccesses_wdc (s : State) (ds : List DeviceAccess) : (s.deviceAccesses ds).wdc = s.wdc := by
  obtain ⟨m, n, c, k, h⟩ := s.deviceAccesses_cases ds; rw [h]
@[simp] theorem State.deviceAccesses_ptc (s : State) (ds : List DeviceAccess) : (s.deviceAccesses ds).ptc = s.ptc := by
  obtain ⟨m, n, c, k, h⟩ := s.deviceAccesses_cases ds; rw [h]
@[simp] theorem State.deviceAccesses_xts (s : State) (ds : List DeviceAccess) : (s.deviceAccesses ds).xts = s.xts := by
  obtain ⟨m, n, c, k, h⟩ := s.deviceAccesses_cases ds; rw [h]
@[simp] theorem State.deviceAccesses_breakByte (s : State) (ds : List DeviceAccess) : (s.deviceAccesses ds).breakByte = s.breakByte := by
  obtain ⟨m, n, c, k, h⟩ := s.deviceAccesses_cases ds; rw [h]
@[simp] theorem State.deviceAccesses_savedPC (s : State) (ds : List DeviceAccess) : (s.deviceAccesses ds).savedPC = s.savedPC := by
  obtain ⟨m, n, c, k, h⟩ := s.deviceAccesses_cases ds; rw [h]
@[simp] theorem State.deviceAccesses_savedSP (s : State) (ds : List DeviceAccess) : (s.deviceAccesses ds).savedSP = s.savedSP := by
  obtain ⟨m, n, c, k, h⟩ := s.deviceAccesses_cases ds; rw [h]
@[simp] theorem State.deviceAccesses_running (s : State) (ds : List DeviceAccess) : (s.deviceAccesses ds).running = s.running := by
  obtain ⟨m, n, c, k, h⟩ := s.deviceAccesses_cases ds; rw [h]
@[simp] theorem State.deviceAccesses_time (s : State) (ds : List DeviceAccess) : (s.deviceAccesses ds).time = s.time := by
  obtain ⟨m, n, c, k, h⟩ := s.deviceAccesses_cases ds; rw [h]
@[simp] theorem State.deviceAccesses_exception (s : State) (ds : List DeviceAccess) : (s.deviceAccesses ds).exception = s.exception := by
  obtain ⟨m, n, c, k, h⟩ := s.deviceAccesses_cases ds; rw [h]
@[simp] theorem State.deviceAccesses_inputs (s : State) (ds : List DeviceAccess) : (s.deviceAccesses ds).inputs = s.inputs := by
  obtain ⟨m, n, c, k, h⟩ := s.deviceAccesses_cases ds; rw [h]
@[simp] theorem State.deviceAccesses_turns (s : State) (ds : List DeviceAccess) : (s.deviceAccesses ds).turns = s.turns := by
  obtain ⟨m, n, c, k, h⟩ := s.deviceAccesses_cases ds; rw [h]
@[simp] theorem State.deviceAccesses_scan (s : State) (ds : List DeviceAccess) : (s.deviceAccesses ds).scan = s.scan := by
  obtain ⟨m, n, c, k, h⟩ := s.deviceAccesses_cases ds; rw [h]
@[simp] theorem State.deviceAccesses_suspended (s : State) (ds : List DeviceAccess) : (s.deviceAccesses ds).suspended = s.suspended := by
  obtain ⟨m, n, c, k, h⟩ := s.deviceAccesses_cases ds; rw [h]

/-! `State.takeTurn` -/

@[simp] theorem State.takeTurn_cfg (s : State) : (s.takeTurn).cfg = s.cfg := by unfold State.takeTurn; split <;> simp
@[simp] theorem State.takeTurn_stack (s : State) : (s.takeTurn).stack = s.stack := by unfold State.takeTurn; split <;> simp
@[simp] theorem State.takeTurn_sp (s : State) : (s.takeTurn).sp = s.sp := by unfold State.takeTurn; split <;> simp
@[simp] theorem State.takeTurn_psb (s : State) : (s.takeTurn).psb = s.psb := by unfold State.takeTurn; split <;> simp
@[simp] theorem State.takeTurn_mds (s : State) : (s.takeTurn).mds = s.mds := by unfold State.takeTurn; split <;> simp
@[simp] theorem State.takeTurn_lf (s : State) : (s.takeTurn).lf = s.lf := by unfold State.takeTurn; split <;> simp
@[simp] theorem State.takeTurn_gf (s : State) : (s.takeTurn).gf = s.gf := by unfold State.takeTurn; split <;> simp
@[simp] theorem State.takeTurn_cb (s : State) : (s.takeTurn).cb = s.cb := by unfold State.takeTurn; split <;> simp
@[simp] theorem State.takeTurn_pc (s : State) : (s.takeTurn).pc = s.pc := by unfold State.takeTurn; split <;> simp
@[simp] theorem State.takeTurn_pid (s : State) : (s.takeTurn).pid = s.pid := by unfold State.takeTurn; split <;> simp
@[simp] theorem State.takeTurn_mp (s : State) : (s.takeTurn).mp = s.mp := by unfold State.takeTurn; split <;> simp
@[simp] theorem State.takeTurn_it (s : State) : (s.takeTurn).it = s.it := by unfold State.takeTurn; split <;> simp
@[simp] theorem State.takeTurn_wm (s : State) : (s.takeTurn).wm = s.wm := by unfold State.takeTurn; split <;> simp
@[simp] theorem State.takeTurn_wdc (s : State) : (s.takeTurn).wdc = s.wdc := by unfold State.takeTurn; split <;> simp
@[simp] theorem State.takeTurn_ptc (s : State) : (s.takeTurn).ptc = s.ptc := by unfold State.takeTurn; split <;> simp
@[simp] theorem State.takeTurn_xts (s : State) : (s.takeTurn).xts = s.xts := by unfold State.takeTurn; split <;> simp
@[simp] theorem State.takeTurn_breakByte (s : State) :
    (s.takeTurn).breakByte = s.breakByte := by unfold State.takeTurn; split <;> simp
@[simp] theorem State.takeTurn_savedPC (s : State) : (s.takeTurn).savedPC = s.savedPC := by unfold State.takeTurn; split <;> simp
@[simp] theorem State.takeTurn_savedSP (s : State) : (s.takeTurn).savedSP = s.savedSP := by unfold State.takeTurn; split <;> simp
@[simp] theorem State.takeTurn_running (s : State) : (s.takeTurn).running = s.running := by unfold State.takeTurn; split <;> simp
@[simp] theorem State.takeTurn_time (s : State) : (s.takeTurn).time = s.time := by unfold State.takeTurn; split <;> simp
@[simp] theorem State.takeTurn_exception (s : State) :
    (s.takeTurn).exception = s.exception := by unfold State.takeTurn; split <;> simp
@[simp] theorem State.takeTurn_inputs (s : State) : (s.takeTurn).inputs = s.inputs := by unfold State.takeTurn; split <;> simp
@[simp] theorem State.takeTurn_scan (s : State) : (s.takeTurn).scan = s.scan := by unfold State.takeTurn; split <;> simp
@[simp] theorem State.takeTurn_suspended (s : State) :
    (s.takeTurn).suspended = s.suspended := by unfold State.takeTurn; split <;> simp

@[simp] theorem State.takeTurn_turns (s : State) : s.takeTurn.turns = s.turns.tail := by
  unfold State.takeTurn; split <;> simp [*]

theorem State.takeTurn_undisturbed {s : State} (h : s.undisturbed) : s.takeTurn = s := by
  rw [State.undisturbed] at h
  simp [State.takeTurn, h]

/-! `State.withEnvironment` -/

@[simp] theorem State.withEnvironment_cfg (s : State) : (s.withEnvironment).cfg = s.cfg := by
  unfold State.withEnvironment applyInput; split <;> simp
@[simp] theorem State.withEnvironment_stack (s : State) : (s.withEnvironment).stack = s.stack := by
  unfold State.withEnvironment applyInput; split <;> simp
@[simp] theorem State.withEnvironment_sp (s : State) : (s.withEnvironment).sp = s.sp := by
  unfold State.withEnvironment applyInput; split <;> simp
@[simp] theorem State.withEnvironment_psb (s : State) : (s.withEnvironment).psb = s.psb := by
  unfold State.withEnvironment applyInput; split <;> simp
@[simp] theorem State.withEnvironment_mds (s : State) : (s.withEnvironment).mds = s.mds := by
  unfold State.withEnvironment applyInput; split <;> simp
@[simp] theorem State.withEnvironment_lf (s : State) : (s.withEnvironment).lf = s.lf := by
  unfold State.withEnvironment applyInput; split <;> simp
@[simp] theorem State.withEnvironment_gf (s : State) : (s.withEnvironment).gf = s.gf := by
  unfold State.withEnvironment applyInput; split <;> simp
@[simp] theorem State.withEnvironment_cb (s : State) : (s.withEnvironment).cb = s.cb := by
  unfold State.withEnvironment applyInput; split <;> simp
@[simp] theorem State.withEnvironment_pc (s : State) : (s.withEnvironment).pc = s.pc := by
  unfold State.withEnvironment applyInput; split <;> simp
@[simp] theorem State.withEnvironment_pid (s : State) : (s.withEnvironment).pid = s.pid := by
  unfold State.withEnvironment applyInput; split <;> simp
@[simp] theorem State.withEnvironment_mp (s : State) : (s.withEnvironment).mp = s.mp := by
  unfold State.withEnvironment applyInput; split <;> simp
@[simp] theorem State.withEnvironment_wm (s : State) : (s.withEnvironment).wm = s.wm := by
  unfold State.withEnvironment applyInput; split <;> simp
@[simp] theorem State.withEnvironment_wdc (s : State) : (s.withEnvironment).wdc = s.wdc := by
  unfold State.withEnvironment applyInput; split <;> simp
@[simp] theorem State.withEnvironment_xts (s : State) : (s.withEnvironment).xts = s.xts := by
  unfold State.withEnvironment applyInput; split <;> simp
@[simp] theorem State.withEnvironment_breakByte (s : State) : (s.withEnvironment).breakByte = s.breakByte := by
  unfold State.withEnvironment applyInput; split <;> simp
@[simp] theorem State.withEnvironment_savedPC (s : State) : (s.withEnvironment).savedPC = s.savedPC := by
  unfold State.withEnvironment applyInput; split <;> simp
@[simp] theorem State.withEnvironment_savedSP (s : State) : (s.withEnvironment).savedSP = s.savedSP := by
  unfold State.withEnvironment applyInput; split <;> simp
@[simp] theorem State.withEnvironment_running (s : State) : (s.withEnvironment).running = s.running := by
  unfold State.withEnvironment applyInput; split <;> simp
@[simp] theorem State.withEnvironment_exception (s : State) : (s.withEnvironment).exception = s.exception := by
  unfold State.withEnvironment applyInput; split <;> simp
@[simp] theorem State.withEnvironment_scan (s : State) : (s.withEnvironment).scan = s.scan := by
  unfold State.withEnvironment applyInput; split <;> simp
@[simp] theorem State.withEnvironment_suspended (s : State) : (s.withEnvironment).suspended = s.suspended := by
  unfold State.withEnvironment applyInput; split <;> simp

/-! `State.saveContext` -/

@[simp] theorem State.saveContext_cfg (s : State) : (s.saveContext).cfg = s.cfg := rfl
@[simp] theorem State.saveContext_stack (s : State) : (s.saveContext).stack = s.stack := rfl
@[simp] theorem State.saveContext_sp (s : State) : (s.saveContext).sp = s.sp := rfl
@[simp] theorem State.saveContext_psb (s : State) : (s.saveContext).psb = s.psb := rfl
@[simp] theorem State.saveContext_mds (s : State) : (s.saveContext).mds = s.mds := rfl
@[simp] theorem State.saveContext_lf (s : State) : (s.saveContext).lf = s.lf := rfl
@[simp] theorem State.saveContext_gf (s : State) : (s.saveContext).gf = s.gf := rfl
@[simp] theorem State.saveContext_cb (s : State) : (s.saveContext).cb = s.cb := rfl
@[simp] theorem State.saveContext_pc (s : State) : (s.saveContext).pc = s.pc := rfl
@[simp] theorem State.saveContext_pid (s : State) : (s.saveContext).pid = s.pid := rfl
@[simp] theorem State.saveContext_mp (s : State) : (s.saveContext).mp = s.mp := rfl
@[simp] theorem State.saveContext_it (s : State) : (s.saveContext).it = s.it := rfl
@[simp] theorem State.saveContext_wm (s : State) : (s.saveContext).wm = s.wm := rfl
@[simp] theorem State.saveContext_wp (s : State) : (s.saveContext).wp = s.wp := rfl
@[simp] theorem State.saveContext_wdc (s : State) : (s.saveContext).wdc = s.wdc := rfl
@[simp] theorem State.saveContext_ptc (s : State) : (s.saveContext).ptc = s.ptc := rfl
@[simp] theorem State.saveContext_xts (s : State) : (s.saveContext).xts = s.xts := rfl
@[simp] theorem State.saveContext_breakByte (s : State) : (s.saveContext).breakByte = s.breakByte := rfl
@[simp] theorem State.saveContext_running (s : State) : (s.saveContext).running = s.running := rfl
@[simp] theorem State.saveContext_time (s : State) : (s.saveContext).time = s.time := rfl
@[simp] theorem State.saveContext_map (s : State) : (s.saveContext).map = s.map := rfl
@[simp] theorem State.saveContext_mem (s : State) : (s.saveContext).mem = s.mem := rfl
@[simp] theorem State.saveContext_exception (s : State) : (s.saveContext).exception = s.exception := rfl
@[simp] theorem State.saveContext_freeIndex (s : State) : (s.saveContext).freeIndex = s.freeIndex := rfl
@[simp] theorem State.saveContext_inputs (s : State) : (s.saveContext).inputs = s.inputs := rfl
@[simp] theorem State.saveContext_turns (s : State) : (s.saveContext).turns = s.turns := rfl
@[simp] theorem State.saveContext_codeWrites (s : State) : (s.saveContext).codeWrites = s.codeWrites := rfl
@[simp] theorem State.saveContext_scan (s : State) : (s.saveContext).scan = s.scan := rfl
@[simp] theorem State.saveContext_suspended (s : State) : (s.saveContext).suspended = s.suspended := rfl

@[simp] theorem State.saveContext_savedPC (s : State) : s.saveContext.savedPC = s.pc := rfl
@[simp] theorem State.saveContext_savedSP (s : State) : s.saveContext.savedSP = s.sp := rfl

/-! `returnFromException` -/

@[simp] theorem returnFromException_cfg (s : State) : (returnFromException s).cfg = s.cfg := rfl
@[simp] theorem returnFromException_stack (s : State) : (returnFromException s).stack = s.stack := rfl
@[simp] theorem returnFromException_sp (s : State) : (returnFromException s).sp = s.sp := rfl
@[simp] theorem returnFromException_psb (s : State) : (returnFromException s).psb = s.psb := rfl
@[simp] theorem returnFromException_mds (s : State) : (returnFromException s).mds = s.mds := rfl
@[simp] theorem returnFromException_lf (s : State) : (returnFromException s).lf = s.lf := rfl
@[simp] theorem returnFromException_gf (s : State) : (returnFromException s).gf = s.gf := rfl
@[simp] theorem returnFromException_cb (s : State) : (returnFromException s).cb = s.cb := rfl
@[simp] theorem returnFromException_pc (s : State) : (returnFromException s).pc = s.pc := rfl
@[simp] theorem returnFromException_pid (s : State) : (returnFromException s).pid = s.pid := rfl
@[simp] theorem returnFromException_mp (s : State) : (returnFromException s).mp = s.mp := rfl
@[simp] theorem returnFromException_it (s : State) : (returnFromException s).it = s.it := rfl
@[simp] theorem returnFromException_wm (s : State) : (returnFromException s).wm = s.wm := rfl
@[simp] theorem returnFromException_wp (s : State) : (returnFromException s).wp = s.wp := rfl
@[simp] theorem returnFromException_wdc (s : State) : (returnFromException s).wdc = s.wdc := rfl
@[simp] theorem returnFromException_ptc (s : State) : (returnFromException s).ptc = s.ptc := rfl
@[simp] theorem returnFromException_xts (s : State) : (returnFromException s).xts = s.xts := rfl
@[simp] theorem returnFromException_breakByte (s : State) : (returnFromException s).breakByte = s.breakByte := rfl
@[simp] theorem returnFromException_savedPC (s : State) : (returnFromException s).savedPC = s.savedPC := rfl
@[simp] theorem returnFromException_savedSP (s : State) : (returnFromException s).savedSP = s.savedSP := rfl
@[simp] theorem returnFromException_running (s : State) : (returnFromException s).running = s.running := rfl
@[simp] theorem returnFromException_time (s : State) : (returnFromException s).time = s.time := rfl
@[simp] theorem returnFromException_map (s : State) : (returnFromException s).map = s.map := rfl
@[simp] theorem returnFromException_mem (s : State) : (returnFromException s).mem = s.mem := rfl
@[simp] theorem returnFromException_freeIndex (s : State) : (returnFromException s).freeIndex = s.freeIndex := rfl
@[simp] theorem returnFromException_inputs (s : State) : (returnFromException s).inputs = s.inputs := rfl
@[simp] theorem returnFromException_turns (s : State) : (returnFromException s).turns = s.turns := rfl
@[simp] theorem returnFromException_codeWrites (s : State) : (returnFromException s).codeWrites = s.codeWrites := rfl
@[simp] theorem returnFromException_scan (s : State) : (returnFromException s).scan = s.scan := rfl
@[simp] theorem returnFromException_suspended (s : State) : (returnFromException s).suspended = s.suspended := rfl

@[simp] theorem returnFromException_exception (s : State) : (returnFromException s).exception = none := rfl

/-! `takeException` -/

@[simp] theorem takeException_cfg (e : Exception) (s : State) : (takeException e s).cfg = s.cfg := by cases e <;> rfl
@[simp] theorem takeException_stack (e : Exception) (s : State) : (takeException e s).stack = s.stack := by cases e <;> rfl
@[simp] theorem takeException_psb (e : Exception) (s : State) : (takeException e s).psb = s.psb := by cases e <;> rfl
@[simp] theorem takeException_mds (e : Exception) (s : State) : (takeException e s).mds = s.mds := by cases e <;> rfl
@[simp] theorem takeException_lf (e : Exception) (s : State) : (takeException e s).lf = s.lf := by cases e <;> rfl
@[simp] theorem takeException_gf (e : Exception) (s : State) : (takeException e s).gf = s.gf := by cases e <;> rfl
@[simp] theorem takeException_cb (e : Exception) (s : State) : (takeException e s).cb = s.cb := by cases e <;> rfl
@[simp] theorem takeException_pid (e : Exception) (s : State) : (takeException e s).pid = s.pid := by cases e <;> rfl
@[simp] theorem takeException_mp (e : Exception) (s : State) : (takeException e s).mp = s.mp := by cases e <;> rfl
@[simp] theorem takeException_it (e : Exception) (s : State) : (takeException e s).it = s.it := by cases e <;> rfl
@[simp] theorem takeException_wm (e : Exception) (s : State) : (takeException e s).wm = s.wm := by cases e <;> rfl
@[simp] theorem takeException_wp (e : Exception) (s : State) : (takeException e s).wp = s.wp := by cases e <;> rfl
@[simp] theorem takeException_wdc (e : Exception) (s : State) : (takeException e s).wdc = s.wdc := by cases e <;> rfl
@[simp] theorem takeException_ptc (e : Exception) (s : State) : (takeException e s).ptc = s.ptc := by cases e <;> rfl
@[simp] theorem takeException_xts (e : Exception) (s : State) : (takeException e s).xts = s.xts := by cases e <;> rfl
@[simp] theorem takeException_breakByte (e : Exception) (s : State) :
    (takeException e s).breakByte = s.breakByte := by cases e <;> rfl
@[simp] theorem takeException_savedPC (e : Exception) (s : State) : (takeException e s).savedPC = s.savedPC := by cases e <;> rfl
@[simp] theorem takeException_savedSP (e : Exception) (s : State) : (takeException e s).savedSP = s.savedSP := by cases e <;> rfl
@[simp] theorem takeException_running (e : Exception) (s : State) : (takeException e s).running = s.running := by cases e <;> rfl
@[simp] theorem takeException_time (e : Exception) (s : State) : (takeException e s).time = s.time := by cases e <;> rfl
@[simp] theorem takeException_map (e : Exception) (s : State) : (takeException e s).map = s.map := by cases e <;> rfl
@[simp] theorem takeException_mem (e : Exception) (s : State) : (takeException e s).mem = s.mem := by cases e <;> rfl
@[simp] theorem takeException_freeIndex (e : Exception) (s : State) :
    (takeException e s).freeIndex = s.freeIndex := by cases e <;> rfl
@[simp] theorem takeException_inputs (e : Exception) (s : State) : (takeException e s).inputs = s.inputs := by cases e <;> rfl
@[simp] theorem takeException_turns (e : Exception) (s : State) : (takeException e s).turns = s.turns := by cases e <;> rfl
@[simp] theorem takeException_codeWrites (e : Exception) (s : State) :
    (takeException e s).codeWrites = s.codeWrites := by cases e <;> rfl
@[simp] theorem takeException_scan (e : Exception) (s : State) : (takeException e s).scan = s.scan := by cases e <;> rfl
@[simp] theorem takeException_suspended (e : Exception) (s : State) :
    (takeException e s).suspended = s.suspended := by cases e <;> rfl

@[simp] theorem takeException_exception (e : Exception) (s : State) : (takeException e s).exception = some e := by
  cases e <;> rfl

end Sys2Proof.Machine
end

