-- ==== Sys2Proof/Laws/Memory.lean ====
section
/-! SUPPORT. What the operations on memory and on the map do: a read after a write, other addresses, and the canonical
form. -/

namespace Sys2Proof.Machine

section Sparse
variable {α : Type} [DecidableEq α] {d : Nat → α}

theorem sparseGet_put_other (l : List (Nat × α)) {j k : Nat} (v : α) (h : j ≠ k) :
    sparseGet d j (sparsePut d k v l) = sparseGet d j l := by
  induction l with
  | nil => simp only [sparsePut]; split <;> simp [sparseGet, Ne.symm h]
  | cons p ps ih =>
    simp only [sparsePut]
    split
    · simp only [sparseGet, ih]
    · split
      · rename_i hp
        split <;> simp [sparseGet, hp, Ne.symm h]
      · split <;> simp [sparseGet, Ne.symm h]

/-- A value that is listed is read back, whatever the list. -/
theorem sparseGet_put_listed (l : List (Nat × α)) {k : Nat} {v : α} (h : v ≠ d k) :
    sparseGet d k (sparsePut d k v l) = v := by
  induction l with
  | nil => simp [sparsePut, h, sparseGet]
  | cons p ps ih =>
    simp only [sparsePut, h, if_false]
    split
    · rename_i hp
      simp [sparseGet, Nat.ne_of_lt hp, ih]
    · split <;> simp [sparseGet]

omit [DecidableEq α] in
theorem sparseAbove_iff {k : Nat} {l : List (Nat × α)} : sparseAbove k l = true ↔ ∀ p ∈ l, k < p.1 := by
  simp [sparseAbove]

omit [DecidableEq α] in
theorem sparseGet_above {k : Nat} {l : List (Nat × α)} (h : sparseAbove k l = true) : sparseGet d k l = d k := by
  rw [sparseAbove_iff] at h
  induction l with
  | nil => rfl
  | cons p ps ih =>
    have hp := h p List.mem_cons_self
    simp only [sparseGet, Nat.ne_of_gt hp, if_false]
    exact ih fun q hq => h q (List.mem_cons_of_mem _ hq)

omit [DecidableEq α] in
theorem sparseAbove_mono {j k : Nat} {l : List (Nat × α)} (hjk : j ≤ k) (h : sparseAbove k l = true) :
    sparseAbove j l = true := by
  rw [sparseAbove_iff] at h ⊢
  exact fun p hp => Nat.lt_of_le_of_lt hjk (h p hp)

theorem sparsePut_mem {k : Nat} {v : α} {l : List (Nat × α)} {p : Nat × α} (h : p ∈ sparsePut d k v l) :
    p = (k, v) ∨ p ∈ l := by
  induction l with
  | nil =>
    simp only [sparsePut] at h
    split at h
    · simp_all
    · simp_all
  | cons q qs ih =>
    simp only [sparsePut] at h
    split at h
    · rcases List.mem_cons.1 h with rfl | h
      · exact .inr List.mem_cons_self
      · exact (ih h).imp_right (List.mem_cons_of_mem _)
    · split at h <;> split at h <;> simp_all <;> tauto

theorem sparseAbove_put {j k : Nat} {v : α} {l : List (Nat × α)} (h : sparseAbove j l = true) (hjk : j < k) :
    sparseAbove j (sparsePut d k v l) = true := by
  rw [sparseAbove_iff] at h ⊢
  intro p hp
  rcases sparsePut_mem hp with rfl | hp
  · exact hjk
  · exact h p hp

/-- `sparsePut` keeps the canonical form. -/
theorem sparsePut_wf {l : List (Nat × α)} (k : Nat) (v : α) (h : sparseWf d l = true) :
    sparseWf d (sparsePut d k v l) = true := by
  induction l with
  | nil => simp only [sparsePut]; split <;> simp_all [sparseWf, sparseAbove]
  | cons p ps ih =>
    simp only [sparseWf, Bool.and_eq_true, decide_eq_true_eq] at h
    obtain ⟨⟨ha, hd⟩, hw⟩ := h
    simp only [sparsePut]
    split
    · rename_i hlt
      simp only [sparseWf, Bool.and_eq_true, decide_eq_true_eq]
      exact ⟨⟨sparseAbove_put ha hlt, hd⟩, ih hw⟩
    · rename_i hlt
      split
      · rename_i heq
        split
        · exact hw
        · rename_i hv
          simp only [sparseWf, Bool.and_eq_true, decide_eq_true_eq]
          exact ⟨⟨heq ▸ ha, hv⟩, hw⟩
      · rename_i heq
        have hk : k < p.1 := by omega
        split
        · simp [sparseWf, ha, hd, hw]
        · rename_i hv
          simp only [sparseWf, Bool.and_eq_true, decide_eq_true_eq]
          refine ⟨⟨?_, hv⟩, ⟨ha, hd⟩, hw⟩
          rw [sparseAbove_iff]
          intro q hq
          rcases List.mem_cons.1 hq with rfl | hq
          · exact hk
          · exact Nat.lt_trans hk (sparseAbove_iff.1 ha q hq)

/-- In canonical form every value is read back. -/
theorem sparseGet_put_same {l : List (Nat × α)} (k : Nat) (v : α) (h : sparseWf d l = true) :
    sparseGet d k (sparsePut d k v l) = v := by
  by_cases hv : v = d k
  · induction l with
    | nil => simp [sparsePut, hv, sparseGet]
    | cons p ps ih =>
      simp only [sparseWf, Bool.and_eq_true, decide_eq_true_eq] at h
      obtain ⟨⟨ha, hd⟩, hw⟩ := h
      simp only [sparsePut]
      split
      · rename_i hlt
        simp only [sparseGet, Nat.ne_of_lt hlt, if_false]
        exact ih hw
      · split
        · rename_i heq
          rw [sparseGet_above (heq ▸ ha), hv]
        · rename_i hlt heq
          have hk : k < p.1 := by omega
          simp only [sparseGet, heq, if_false]
          rw [sparseGet_above (sparseAbove_mono (Nat.le_of_lt hk) ha), hv]
  · exact sparseGet_put_listed l hv

end Sparse

/-! Bytes and words of real memory. -/

theorem Memory.byteAt_setByte_other (m : List Host.Cell) {a b : Nat} (v : Byte) (h : a ≠ b) :
    Memory.byteAt (Memory.setByte m b v) a = Memory.byteAt m a := sparseGet_put_other m v h

theorem Memory.byteAt_setByte_same {m : List Host.Cell} (a : Nat) (v : Byte) (h : Memory.wf m = true) :
    Memory.byteAt (Memory.setByte m a v) a = v := sparseGet_put_same a v h

theorem Memory.setByte_wf {m : List Host.Cell} (a : Nat) (v : Byte) (h : Memory.wf m = true) :
    Memory.wf (Memory.setByte m a v) = true := sparsePut_wf a v h

theorem Memory.setWord_wf {m : List Host.Cell} (a : Nat) (w : Word) (h : Memory.wf m = true) :
    Memory.wf (Memory.setWord m a w) = true := setByte_wf _ _ (setByte_wf _ _ h)

/-- Storing a word leaves every byte alone but its two. -/
theorem Memory.byteAt_setWord_other (m : List Host.Cell) {a ra : Nat} (w : Word) (h0 : a ≠ 2 * ra) (h1 : a ≠ 2 * ra + 1) :
    Memory.byteAt (Memory.setWord m ra w) a = Memory.byteAt m a := by
  rw [setWord, byteAt_setByte_other _ _ h1, byteAt_setByte_other _ _ h0]

theorem Word.left_append_right (w : Word) : Word.left w ++ Word.right w = w := by
  apply BitVec.eq_of_getLsbD_eq
  intro i hi
  simp only [Word.left, Word.right, BitVec.getLsbD_append, BitVec.getLsbD_extractLsb']
  split
  · simp_all
  · rw [show 8 + (i - 8) = i by omega]; simp; omega

/-- In canonical form a word is read back where it was stored. -/
theorem Memory.wordAt_setWord_same {m : List Host.Cell} (a : Nat) (w : Word) (h : Memory.wf m = true) :
    Memory.wordAt (Memory.setWord m a w) a = w := by
  rw [wordAt, setWord, byteAt_setByte_other _ _ (by omega), byteAt_setByte_same _ _ h,
    byteAt_setByte_same _ _ (setByte_wf _ _ h), Word.left_append_right]

theorem Memory.wordAt_setWord_other (m : List Host.Cell) {a b : Nat} (w : Word) (h : a ≠ b) :
    Memory.wordAt (Memory.setWord m b w) a = Memory.wordAt m a := by
  rw [wordAt, wordAt, byteAt_setWord_other _ _ (by omega) (by omega), byteAt_setWord_other _ _ (by omega) (by omega)]

/-! The map. -/

theorem State.readMap_congr {s t : State} (hc : t.cfg = s.cfg) (hm : t.map = s.map) (vp : Nat) :
    t.readMap vp = s.readMap vp := by
  simp [State.readMap, hc, hm]

theorem State.readMap_writeMap_other (s : State) {vp vq : Nat} (g : Word) (r : Long) (h : vq ≠ vp) :
    (s.writeMap vp g r).readMap vq = s.readMap vq := by
  simp only [State.readMap, State.writeMap_cfg]
  split
  · unfold State.writeMap
    split
    · exact sparseGet_put_other _ _ h
    · rfl
  · rfl

/-- In canonical form `ReadMap` after `WriteMap` of an implemented page gives the entry that was stored (R105). -/
theorem State.readMap_writeMap_same {s : State} {vp : Nat} (g : Word) (r : Long) (hw : Map.wf s.cfg s.map = true)
    (hp : s.cfg.virtualPage vp = true) : (s.writeMap vp g r).readMap vp = storedMapEntry s.cfg g r := by
  simp only [State.readMap, hp, if_true, State.writeMap]
  exact sparseGet_put_same _ _ hw

theorem State.writeMap_wf {s : State} (vp : Nat) (g : Word) (r : Long) (hw : Map.wf s.cfg s.map = true) :
    Map.wf (s.writeMap vp g r).cfg (s.writeMap vp g r).map = true := by
  unfold State.writeMap
  split
  · exact sparsePut_wf _ _ hw
  · exact hw

/-! An access that succeeds changes no entry but for flags that no later access depends on. -/

/-- An access at `va` passes the map's tests (R108). -/
def State.accessible (s : State) (va : Long) (a : Access) : Prop :=
  (s.entryOf va).isVacant = false ∧ (a = .write → (s.entryOf va).isProtected = false)

theorem State.present.accessible {s : State} {va : Long} (h : s.present va) : s.accessible va .read := ⟨h.1, fun h => by cases h⟩

theorem State.readable.accessible {s : State} {va : Long} (h : s.readable va) : s.accessible va .read := h.1.accessible

theorem State.storable.readable {s : State} {va : Long} (h : s.storable va) : s.readable va := ⟨h.1.1, h.2⟩

theorem State.writable.accessible {s : State} {va : Long} (h : s.writable va) : s.accessible va .write := ⟨h.1.1, fun _ => h.2⟩

theorem implementedMapFlags_low (f : Word) (c : Config) (i : Nat) (hi : i < 3) :
    (f &&& implementedMapFlags c).getLsbD i = f.getLsbD i := by
  have : i = 0 ∨ i = 1 ∨ i = 2 := by omega
  rcases this with rfl | rfl | rfl <;> simp [implementedMapFlags]

theorem vacantFlags_implemented (f : Word) (c : Config) : vacantFlags (f &&& implementedMapFlags c) = vacantFlags f := by
  simp only [vacantFlags, implementedMapFlags_low _ _ _ (show 0 < 3 by omega), implementedMapFlags_low _ _ _ (show 1 < 3 by omega),
    implementedMapFlags_low _ _ _ (show 2 < 3 by omega)]

theorem State.virtualPage_of_present {s : State} {vp : Nat} (h : (s.readMap vp).isVacant = false) :
    s.cfg.virtualPage vp = true := by
  by_contra hc
  simp [State.readMap, hc, MapEntry.isVacant, vacantFlags] at h

/-- An entry that is not vacant and has a flag is read back as it was written, whatever the list of the map. -/
theorem State.readMap_writeMap_flagged {s : State} {vp : Nat} {g : Word} (r : Long) (hp : s.cfg.virtualPage vp = true)
    (hv : vacantFlags g = false) (hb : g.getLsbD 0 = true ∨ g.getLsbD 1 = true) :
    (s.writeMap vp g r).readMap vp = ⟨g &&& implementedMapFlags s.cfg, r⟩ := by
  have he : storedMapEntry s.cfg g r = ⟨g &&& implementedMapFlags s.cfg, r⟩ := by
    simp [storedMapEntry, vacantFlags_implemented, hv]
  simp only [State.readMap, State.writeMap, hp, if_true, he]
  refine sparseGet_put_listed _ fun h => ?_
  have hf := congrArg MapEntry.flags h
  simp only [MapEntry.initial] at hf
  split at hf
  · have h0 := congrArg (BitVec.getLsbD · 0) hf
    have h1 := congrArg (BitVec.getLsbD · 1) hf
    simp only [implementedMapFlags_low _ _ _ (show 0 < 3 by omega), implementedMapFlags_low _ _ _ (show 1 < 3 by omega)] at h0 h1
    rcases hb with hb | hb <;> simp_all
  · have := vacantFlags_implemented g s.cfg
    rw [hf, hv] at this
    exact absurd this (by decide)

theorem residentFlags_low (f : Word) (a : Access) (choice : Word) :
    (residentFlags f a choice).getLsbD 2 = f.getLsbD 2 ∧ (f.getLsbD 0 = true → (residentFlags f a choice).getLsbD 0 = true) ∧
      (a = .read → (residentFlags f a choice).getLsbD 1 = f.getLsbD 1) := by
  cases a <;> simp +contextual [residentFlags, touchFlags]

theorem residentFlags_changed {f : Word} {a : Access} {choice : Word} (h : residentFlags f a choice ≠ f) :
    (residentFlags f a choice).getLsbD 0 = true ∨ (residentFlags f a choice).getLsbD 1 = true := by
  by_contra hc
  simp only [not_or, Bool.not_eq_true] at hc
  refine h (BitVec.eq_of_getLsbD_eq fun i hi => ?_)
  have hi : i = 0 ∨ i = 1 ∨ 2 ≤ i := by omega
  rcases hi with rfl | rfl | hi
  · rw [hc.1]; cases hf : f.getLsbD 0
    · rfl
    · exact absurd ((residentFlags_low f a choice).2.1 hf) (by rw [hc.1]; exact Bool.false_ne_true)
  · rw [hc.2]; have := hc.2
    cases a <;> simp_all [residentFlags, touchFlags]
  · have h3 : (3#16).getLsbD i = false := by
      obtain ⟨k, rfl⟩ : ∃ k, i = k + 2 := ⟨i - 2, by omega⟩
      simp [BitVec.getLsbD_ofNat, Nat.testBit_succ]
    have h1 : (1#16).getLsbD i = false := by
      obtain ⟨k, rfl⟩ : ∃ k, i = k + 2 := ⟨i - 2, by omega⟩
      simp [BitVec.getLsbD_ofNat, Nat.testBit_succ]
    cases a <;> simp [residentFlags, touchFlags, h1, h3]

theorem residentFlags_vacant {f : Word} {a : Access} (choice : Word) (hv : vacantFlags f = false)
    (hp : a = .write → f.getLsbD 2 = false) : vacantFlags (residentFlags f a choice) = false := by
  obtain ⟨h2, h0, h1⟩ := residentFlags_low f a choice
  cases a with
  | write => rw [vacantFlags, h2, hp rfl]; rfl
  | read =>
    simp only [vacantFlags, h2, h1 rfl] at hv ⊢
    by_cases hf : f.getLsbD 0 = true
    · simp [h0 hf]
    · simp_all

/-- The entry of a page after a successful access, where the flags are maintained (R108, R110). -/
theorem State.readMap_touch_same {s : State} {va : Long} (a : Access) (h : (s.entryOf va).isVacant = false)
    (hr : s.cfg.residentPage (virtualPageOf va) = false) :
    (s.touch va a).readMap (virtualPageOf va) =
      ⟨touchFlags (s.entryOf va).flags a &&& implementedMapFlags s.cfg, (s.entryOf va).real⟩ := by
  have hb : (touchFlags (s.entryOf va).flags a).getLsbD 0 = true := by cases a <;> simp [touchFlags]
  simp only [State.touch, hr, Bool.false_eq_true, if_false]
  exact State.readMap_writeMap_flagged _ (State.virtualPage_of_present h) (by simp only [vacantFlags, hb]; simp) (.inl hb)

theorem State.readMap_freeIndex (s : State) (n vp : Nat) : { s with freeIndex := n }.readMap vp = s.readMap vp := rfl

theorem State.readMap_touch_other (s : State) {va : Long} {vp : Nat} (a : Access) (h : vp ≠ virtualPageOf va) :
    (s.touch va a).readMap vp = s.readMap vp := by
  unfold State.touch
  split
  · dsimp only
    rw [State.readMap_freeIndex]
    split
    · rfl
    · exact State.readMap_writeMap_other s _ _ h
  · exact State.readMap_writeMap_other s _ _ h

/-- After a successful access every page has the real page it had, is vacant or not as before, and protected or not. -/
theorem State.readMap_touch {s : State} {va : Long} {a : Access} (h : s.accessible va a) (vp : Nat) :
    ((s.touch va a).readMap vp).real = (s.readMap vp).real ∧
      ((s.touch va a).readMap vp).isVacant = (s.readMap vp).isVacant ∧
      ((s.touch va a).readMap vp).isProtected = (s.readMap vp).isProtected := by
  by_cases hp : vp = virtualPageOf va
  · subst hp
    have hv := State.virtualPage_of_present h.1
    by_cases hr : s.cfg.residentPage (virtualPageOf va) = true
    · simp only [State.touch, hr, if_true, State.readMap_freeIndex]
      split
      · exact ⟨rfl, rfl, rfl⟩
      · rename_i hne
        have hva := residentFlags_vacant (f := (s.entryOf va).flags) (Config.freeWord s.freeIndex) h.1 h.2
        rw [State.readMap_writeMap_flagged _ hv hva (residentFlags_changed hne)]
        refine ⟨rfl, ?_, ?_⟩
        · rw [show s.readMap (virtualPageOf va) = s.entryOf va from rfl, h.1]
          exact (vacantFlags_implemented _ _).trans hva
        · exact (implementedMapFlags_low _ _ _ (by omega)).trans (residentFlags_low _ _ _).1
    · rw [Bool.not_eq_true] at hr
      rw [State.readMap_touch_same a h.1 hr]
      have h0 : (touchFlags (s.entryOf va).flags a).getLsbD 0 = true := by cases a <;> simp [touchFlags]
      have h2 : (touchFlags (s.entryOf va).flags a).getLsbD 2 = (s.entryOf va).flags.getLsbD 2 := by
        cases a <;> simp [touchFlags]
      refine ⟨rfl, ?_, (implementedMapFlags_low _ _ _ (by omega)).trans h2⟩
      rw [show s.readMap (virtualPageOf va) = s.entryOf va from rfl, h.1]
      refine (vacantFlags_implemented _ _).trans ?_
      simp [vacantFlags, h0]
  · rw [State.readMap_touch_other s a hp]
    exact ⟨rfl, rfl, rfl⟩

theorem State.realAddress_touch {s : State} {va : Long} {a : Access} (h : s.accessible va a) (vb : Long) :
    (s.touch va a).realAddress vb = s.realAddress vb := by
  simp [State.realAddress, State.entryOf, (State.readMap_touch h (virtualPageOf vb)).1]

theorem State.wordAt_touch {s : State} {va : Long} {a : Access} (h : s.accessible va a) (vb : Long) :
    (s.touch va a).wordAt vb = s.wordAt vb := by
  simp [State.wordAt, State.realAddress_touch h]

theorem State.present_touch {s : State} {va : Long} {a : Access} (h : s.accessible va a) (vb : Long) :
    (s.touch va a).present vb ↔ s.present vb := by
  simp [State.present, State.realAddress_touch h, State.entryOf, (State.readMap_touch h (virtualPageOf vb)).2.1]

theorem State.isVacant_touch {s : State} {va : Long} {a : Access} (h : s.accessible va a) (vb : Long) :
    ((s.touch va a).entryOf vb).isVacant = (s.entryOf vb).isVacant := (State.readMap_touch h _).2.1

theorem State.isProtected_touch {s : State} {va : Long} {a : Access} (h : s.accessible va a) (vb : Long) :
    ((s.touch va a).entryOf vb).isProtected = (s.entryOf vb).isProtected := (State.readMap_touch h _).2.2

theorem State.writable_touch {s : State} {va : Long} {a : Access} (h : s.accessible va a) (vb : Long) :
    (s.touch va a).writable vb ↔ s.writable vb := by
  simp [State.writable, State.present_touch h, State.entryOf, (State.readMap_touch h (virtualPageOf vb)).2.2]

theorem State.isOverhead_congr {s t : State} (hl : t.lf = s.lf) (hg : t.gf = s.gf) (hd : t.mds = s.mds) (va : Long) :
    t.isOverhead va = s.isOverhead va := by simp [State.isOverhead, hl, hg, hd]

theorem State.readable_touch {s : State} {va : Long} {a : Access} (h : s.accessible va a) (vb : Long) :
    (s.touch va a).readable vb ↔ s.readable vb := by
  simp [State.readable, State.present_touch h, State.isOverhead_congr (s := s)]

theorem State.storable_touch {s : State} {va : Long} {a : Access} (h : s.accessible va a) (vb : Long) :
    (s.touch va a).storable vb ↔ s.storable vb := by
  simp [State.storable, State.writable_touch h, State.isOverhead_congr (s := s)]

/-! What depends on the map, the configuration and, for overhead words, the frames only. -/

theorem State.entryOf_congr {s t : State} (hc : t.cfg = s.cfg) (hm : t.map = s.map) (va : Long) :
    t.entryOf va = s.entryOf va := State.readMap_congr hc hm _

theorem State.realAddress_congr {s t : State} (hc : t.cfg = s.cfg) (hm : t.map = s.map) (va : Long) :
    t.realAddress va = s.realAddress va := by simp [State.realAddress, State.entryOf_congr hc hm]

theorem State.present_congr {s t : State} (hc : t.cfg = s.cfg) (hm : t.map = s.map) (va : Long) :
    t.present va ↔ s.present va := by
  simp [State.present, State.entryOf_congr hc hm, State.realAddress_congr hc hm, hc]

theorem State.readable_congr {s t : State} (hc : t.cfg = s.cfg) (hm : t.map = s.map) (hl : t.lf = s.lf) (hg : t.gf = s.gf)
    (hd : t.mds = s.mds) (va : Long) : t.readable va ↔ s.readable va := by
  simp [State.readable, State.present_congr hc hm, State.isOverhead_congr hl hg hd]

theorem State.writable_congr {s t : State} (hc : t.cfg = s.cfg) (hm : t.map = s.map) (va : Long) :
    t.writable va ↔ s.writable va := by
  simp [State.writable, State.entryOf_congr hc hm, State.present_congr hc hm]

theorem State.wordAt_congr {s t : State} (hc : t.cfg = s.cfg) (hm : t.map = s.map) (he : t.mem = s.mem) (va : Long) :
    t.wordAt va = s.wordAt va := by simp [State.wordAt, State.realAddress_congr hc hm, he]

theorem State.storable_congr {s t : State} (hc : t.cfg = s.cfg) (hm : t.map = s.map) (hl : t.lf = s.lf) (hg : t.gf = s.gf)
    (hd : t.mds = s.mds) (va : Long) : t.storable va ↔ s.storable va := by
  simp [State.storable, State.writable_congr hc hm, State.isOverhead_congr hl hg hd]

theorem State.realAddress_storeWord {s : State} {va : Long} (h : s.writable va) (w : Word) (vb : Long) :
    (s.storeWord va w).realAddress vb = s.realAddress vb :=
  (State.realAddress_congr (by simp) (by simp) vb).trans (State.realAddress_touch h.accessible vb)

theorem State.present_storeWord {s : State} {va : Long} (h : s.writable va) (w : Word) (vb : Long) :
    (s.storeWord va w).present vb ↔ s.present vb :=
  (State.present_congr (by simp) (by simp) vb).trans (State.present_touch h.accessible vb)

theorem State.isVacant_storeWord {s : State} {va : Long} (h : s.writable va) (w : Word) (vb : Long) :
    ((s.storeWord va w).entryOf vb).isVacant = (s.entryOf vb).isVacant :=
  (congrArg MapEntry.isVacant (State.entryOf_congr (by simp) (by simp) vb)).trans (State.isVacant_touch h.accessible vb)

theorem State.isProtected_storeWord {s : State} {va : Long} (h : s.writable va) (w : Word) (vb : Long) :
    ((s.storeWord va w).entryOf vb).isProtected = (s.entryOf vb).isProtected :=
  (congrArg MapEntry.isProtected (State.entryOf_congr (by simp) (by simp) vb)).trans (State.isProtected_touch h.accessible vb)

theorem State.readable_storeWord {s : State} {va : Long} (h : s.writable va) (w : Word) (vb : Long) :
    (s.storeWord va w).readable vb ↔ s.readable vb :=
  (State.readable_congr (by simp) (by simp) (by simp) (by simp) (by simp) vb).trans (State.readable_touch h.accessible vb)

theorem State.writable_storeWord {s : State} {va : Long} (h : s.writable va) (w : Word) (vb : Long) :
    (s.storeWord va w).writable vb ↔ s.writable vb :=
  (State.writable_congr (by simp) (by simp) vb).trans (State.writable_touch h.accessible vb)

theorem State.storable_storeWord {s : State} {va : Long} (h : s.writable va) (w : Word) (vb : Long) :
    (s.storeWord va w).storable vb ↔ s.storable vb :=
  (State.storable_congr (by simp) (by simp) (by simp) (by simp) (by simp) vb).trans (State.storable_touch h.accessible vb)

/-- Storing a word leaves every byte alone but the two of that word. -/
theorem State.byteAt_storeWord (s : State) {va : Long} {a : Nat} (w : Word) (h : ¬ s.inWord va a) :
    (s.storeWord va w).byteAt a = s.byteAt a := by
  simp only [State.inWord, not_or] at h
  rw [State.byteAt, State.storeWord_mem]
  exact Memory.byteAt_setWord_other _ _ h.1 h.2

/-! The canonical forms, through the accesses of processor and devices. -/

theorem State.touch_wf {s : State} (va : Long) (a : Access) (hw : Map.wf s.cfg s.map = true) :
    Map.wf (s.touch va a).cfg (s.touch va a).map = true := by
  unfold State.touch
  split
  · dsimp only
    split
    · exact hw
    · exact State.writeMap_wf _ _ _ hw
  · exact State.writeMap_wf _ _ _ hw

theorem State.putWord_memoryWf {s : State} (va : Long) (ra : Nat) (w : Word) (hw : Memory.wf s.mem = true) :
    Memory.wf (s.putWord va ra w).mem = true := Memory.setWord_wf _ _ hw

/-- A device's access keeps memory and map in canonical form. -/
theorem State.deviceAccess_wf {s : State} (d : DeviceAccess) (hm : Memory.wf s.mem = true) (hw : Map.wf s.cfg s.map = true) :
    Memory.wf (s.deviceAccess d).mem = true ∧ Map.wf (s.deviceAccess d).cfg (s.deviceAccess d).map = true := by
  unfold State.deviceAccess
  dsimp only
  split
  · split
    · exact ⟨by simpa using hm, State.touch_wf _ _ hw⟩
    · exact ⟨hm, hw⟩
  · split
    · exact ⟨State.putWord_memoryWf _ _ _ (by simpa using hm), State.touch_wf _ _ hw⟩
    · exact ⟨hm, hw⟩

theorem State.deviceAccesses_wf {s : State} (ds : List DeviceAccess) (hm : Memory.wf s.mem = true)
    (hw : Map.wf s.cfg s.map = true) :
    Memory.wf (s.deviceAccesses ds).mem = true ∧ Map.wf (s.deviceAccesses ds).cfg (s.deviceAccesses ds).map = true := by
  induction ds generalizing s with
  | nil => exact ⟨hm, hw⟩
  | cons d ds ih =>
    have h := State.deviceAccess_wf d hm hw
    exact ih h.1 h.2

theorem State.takeTurn_wf {s : State} (hm : Memory.wf s.mem = true) (hw : Map.wf s.cfg s.map = true) :
    Memory.wf s.takeTurn.mem = true ∧ Map.wf s.takeTurn.cfg s.takeTurn.map = true := by
  unfold State.takeTurn
  split
  · exact ⟨hm, hw⟩
  · exact State.deviceAccesses_wf _ hm hw

end Sys2Proof.Machine
end

