-- ==== Sys2Proof/Laws/Ops.lean ====
section
/-! SUPPORT. What each shared operation does: its result where it succeeds, and everything else it can do. -/

namespace Sys2Proof.Machine

/-! Routines. -/

@[simp] theorem act_bind {α β : Type} (m : Act α) (f : α → Act β) (s : State) :
    (m >>= f) s = match m s with
      | .ok a t => f a t
      | .error e t => .error e t := by
  simp only [bind, EStateM.bind]
  cases m s <;> rfl

theorem bind_ok {α β : Type} {m : Act α} {f : α → Act β} {s t : State} {a : α} (h : m s = .ok a t) :
    (m >>= f) s = f a t := by
  rw [act_bind, h]

theorem bind_error {α β : Type} {m : Act α} {f : α → Act β} {s t : State} {e : Raise} (h : m s = .error e t) :
    (m >>= f) s = .error e t := by
  rw [act_bind, h]

@[simp] theorem act_map {α β : Type} (f : α → β) (m : Act α) (s : State) :
    (f <$> m) s = match m s with
      | .ok a t => .ok (f a) t
      | .error e t => .error e t := by
  simp only [Functor.map, EStateM.map]
  cases m s <;> rfl

@[simp] theorem act_pure {α : Type} (a : α) (s : State) : (pure a : Act α) s = .ok a s := rfl

@[simp] theorem act_get (s : State) : (get : Act State) s = .ok s s := rfl

@[simp] theorem act_set (t s : State) : (set t : Act PUnit) s = .ok ⟨⟩ t := rfl

@[simp] theorem act_modify (f : State → State) (s : State) : (modify f : Act PUnit) s = .ok ⟨⟩ (f s) := rfl

@[simp] theorem act_throw {α : Type} (e : Raise) (s : State) : (throw e : Act α) s = .error e s := rfl

@[simp] theorem act_ite {α : Type} (c : Prop) [Decidable c] (m n : Act α) (s : State) :
    (if c then m else n) s = if c then m s else n s := by split <;> rfl

@[simp] theorem raiseTrap_apply {α : Type} (t : Trap) (s : State) :
    (raiseTrap t : Act α) s = .error (.exception (.trap t)) s := rfl

@[simp] theorem refuse_apply {α : Type} (r : Refusal) (s : State) : (refuse r : Act α) s = .error (.refused r) s := rfl

theorem complete_ok {m : Act Unit} {s t : State} (h : m s = .ok () t) : complete m s = .next t := by
  simp [complete, h]

theorem complete_exception {m : Act Unit} {s t : State} {e : Exception} (h : m s = .error (.exception e) t) :
    complete m s = .next (takeException e t) := by
  simp [complete, h]

/-- Everything a completed routine can answer. -/
theorem complete_cases {m : Act Unit} {s t : State} (h : complete m s = .next t) :
    m s = .ok () t ∨ ∃ e u, m s = .error (.exception e) u ∧ t = takeException e u := by
  unfold complete at h
  split at h
  · rename_i hm; cases h; exact .inl hm
  · rename_i hm; cases h; exact .inr ⟨_, _, hm, rfl⟩
  · cases h
  · cases h

/-! The evaluation stack. -/

theorem push_ok {s : State} (w : Word) (h : s.sp < s.stack.length) :
    push w s = .ok () { s with stack := s.stack.set s.sp w, sp := s.sp + 1 } := by
  simp [push, h]

theorem push_full {s : State} (w : Word) (h : ¬ s.sp < s.stack.length) : push w s = .error .stackError s := by
  simp [push, h]

theorem pop_ok {s : State} (h : s.sp ≠ 0) : pop s = .ok (s.stack.getD (s.sp - 1) 0) { s with sp := s.sp - 1 } := by
  simp [pop, h]

theorem pop_empty {s : State} (h : s.sp = 0) : pop s = .error .stackError s := by
  simp [pop, h]

theorem recover_ok {s : State} (h : s.sp < s.stack.length) : recover s = .ok () { s with sp := s.sp + 1 } := by
  simp [recover, h]

theorem recover_full {s : State} (h : ¬ s.sp < s.stack.length) : recover s = .error .stackError s := by
  simp [recover, h]

theorem discard_ok {s : State} (h : s.sp ≠ 0) : discard s = .ok () { s with sp := s.sp - 1 } := by
  simp [discard, h]

theorem discard_empty {s : State} (h : s.sp = 0) : discard s = .error .stackError s := by
  simp [discard, h]

theorem minimalStack_ok {s : State} (h : s.sp = 0) : minimalStack s = .ok () s := by
  simp [minimalStack, h]

theorem pushLong_ok {s : State} (u : Long) (h : s.sp + 1 < s.stack.length) :
    pushLong u s =
      .ok () { s with stack := (s.stack.set s.sp (Long.low u)).set (s.sp + 1) (Long.high u), sp := s.sp + 2 } := by
  simp [pushLong, push, show s.sp < s.stack.length by omega, h]

theorem popLong_ok {s : State} (h : 2 ≤ s.sp) :
    popLong s = .ok (Long.ofHalves (s.stack.getD (s.sp - 1) 0) (s.stack.getD (s.sp - 2) 0)) { s with sp := s.sp - 2 } := by
  have h1 : s.sp ≠ 0 := by omega
  have h2 : s.sp - 1 ≠ 0 := by omega
  simp [popLong, pop, h1, h2, Nat.sub_sub]

@[simp] theorem Long.low_ofHalves (h l : Word) : Long.low (Long.ofHalves h l) = l := by
  apply BitVec.eq_of_getLsbD_eq
  intro i hi
  simp [Long.low, BitVec.getLsbD_append, hi]

@[simp] theorem Long.high_ofHalves (h l : Word) : Long.high (Long.ofHalves h l) = h := by
  apply BitVec.eq_of_getLsbD_eq
  intro i hi
  simp [Long.high, BitVec.getLsbD_append, hi]

@[simp] theorem Long.ofHalves_high_low (u : Long) : Long.ofHalves (Long.high u) (Long.low u) = u := by
  apply BitVec.eq_of_getLsbD_eq
  intro i hi
  simp only [Long.high, Long.low, Long.ofHalves, BitVec.getLsbD_append, BitVec.getLsbD_extractLsb']
  split
  · simp_all
  · rw [show 16 + (i - 16) = i by omega]; simp; omega

/-! Memory. -/

/-- A device's turn before an access. -/
@[simp] theorem deviceTurn_apply (s : State) : deviceTurn s = .ok () s.takeTurn := rfl

theorem State.undisturbed.turn {s : State} (h : s.undisturbed) : s.takeTurn = s := State.takeTurn_undisturbed h

theorem State.undisturbed.touch {s : State} (h : s.undisturbed) (va : Long) (a : Access) : (s.touch va a).undisturbed :=
  (State.touch_turns s va a).trans h

theorem translate_ok {s : State} {va : Long} {a : Access} (h : s.accessible va a) :
    translate va a s = .ok (s.realAddress va) (s.touch va a) := by
  have : ¬ (a = .write ∧ (s.entryOf va).isProtected = true) := fun ⟨h1, h2⟩ => by simp [h.2 h1] at h2
  simp [translate, h.1, this]

theorem translate_vacant {s : State} {va : Long} (a : Access) (hv : (s.entryOf va).isVacant = true) :
    translate va a s = .error (.exception (.fault .pageFault va)) s := by
  simp [translate, hv]

theorem translate_protected {s : State} {va : Long} (hv : (s.entryOf va).isVacant = false)
    (hp : (s.entryOf va).isProtected = true) :
    translate va .write s = .error (.exception (.fault .writeProtectFault va)) s := by
  simp [translate, hv, hp]

/-- Everything `translate` can do. -/
theorem translate_cases (s : State) (va : Long) (a : Access) :
    (s.accessible va a ∧ translate va a s = .ok (s.realAddress va) (s.touch va a)) ∨
      ∃ k, translate va a s = .error (.exception (.fault k va)) s := by
  by_cases hv : (s.entryOf va).isVacant = true
  · exact .inr ⟨_, translate_vacant a hv⟩
  · rw [Bool.not_eq_true] at hv
    by_cases hp : a = .write ∧ (s.entryOf va).isProtected = true
    · obtain ⟨rfl, hp⟩ := hp
      exact .inr ⟨_, translate_protected hv hp⟩
    · have ha : s.accessible va a := ⟨hv, fun h => by simpa [h] using hp⟩
      exact .inl ⟨ha, translate_ok ha⟩

theorem checkReal_ok {s : State} {ra : Nat} (h : s.cfg.realPage (ra / 256) = true) : checkReal ra s = .ok () s := by
  simp [checkReal, h]

theorem checkOverhead_ok {s : State} {va : Long} (h : s.isOverhead va = false) : checkOverhead va s = .ok () s := by
  simp [checkOverhead, h]

theorem State.isOverhead_touch (s : State) (va : Long) (a : Access) (vb : Long) :
    (s.touch va a).isOverhead vb = s.isOverhead vb := State.isOverhead_congr (by simp) (by simp) (by simp) _

theorem fetchOverhead_ok {s : State} {va : Long} (hu : s.undisturbed) (h : s.present va) :
    fetchOverhead va s = .ok (s.wordAt va) (s.touch va .read) := by
  simp [fetchOverhead, hu.turn, translate_ok h.accessible, checkReal, h.2, State.wordAt]

theorem fetch_ok {s : State} {va : Long} (hu : s.undisturbed) (h : s.readable va) :
    fetch va s = .ok (s.wordAt va) (s.touch va .read) := by
  simp [fetch, hu.turn, translate_ok h.accessible, checkReal, h.1.2, checkOverhead, State.isOverhead_touch, h.2, State.wordAt]

/-- A plain load of an overhead word of the current frames (R79, U1). -/
theorem fetch_overhead {s : State} {va : Long} (hu : s.undisturbed) (h : s.present va) (ho : s.isOverhead va = true) :
    fetch va s = .error (.refused .overheadAccess) (s.touch va .read) := by
  simp [fetch, hu.turn, translate_ok h.accessible, checkReal, h.2, checkOverhead, State.isOverhead_touch, ho]

theorem fetch_vacant {s : State} {va : Long} (hu : s.undisturbed) (h : (s.entryOf va).isVacant = true) :
    fetch va s = .error (.exception (.fault .pageFault va)) s := by
  simp [fetch, hu.turn, translate_vacant .read h]

/-- Everything `fetch` can do, after the devices' turn. -/
theorem fetch_cases (s : State) (va : Long) :
    let t := s.takeTurn
    (t.readable va ∧ fetch va s = .ok (t.wordAt va) (t.touch va .read)) ∨
      ((t.entryOf va).isVacant = true ∧ fetch va s = .error (.exception (.fault .pageFault va)) t) ∨
      ((t.entryOf va).isVacant = false ∧ ∃ r, fetch va s = .error (.refused r) (t.touch va .read)) := by
  intro t
  by_cases hv : (t.entryOf va).isVacant = true
  · exact .inr (.inl ⟨hv, by simp [fetch, show s.takeTurn = t from rfl, translate_vacant .read hv]⟩)
  · rw [Bool.not_eq_true] at hv
    have ha : t.accessible va .read := ⟨hv, fun h => by cases h⟩
    by_cases hr : t.cfg.realPage (t.realAddress va / 256) = true
    · have hr' : checkReal (t.realAddress va) (t.touch va .read) = .ok () (t.touch va .read) := checkReal_ok (by simpa using hr)
      by_cases ho : t.isOverhead va = true
      · refine .inr (.inr ⟨hv, .overheadAccess, ?_⟩)
        simp [fetch, show s.takeTurn = t from rfl, translate_ok ha, hr', checkOverhead, State.isOverhead_touch, ho]
      · rw [Bool.not_eq_true] at ho
        refine .inl ⟨⟨⟨hv, hr⟩, ho⟩, ?_⟩
        simp [fetch, show s.takeTurn = t from rfl, translate_ok ha, hr', checkOverhead, State.isOverhead_touch, ho, State.wordAt]
    · refine .inr (.inr ⟨hv, .realMemoryGap, ?_⟩)
      simp only [fetch, act_bind, deviceTurn_apply, show s.takeTurn = t from rfl, translate_ok ha]
      simp only [checkReal, act_bind, act_get, State.touch_cfg, hr, act_ite, Bool.false_eq_true, if_false, refuse_apply]

theorem store_ok {s : State} {va : Long} (w : Word) (hu : s.undisturbed) (h : s.storable va) :
    store va w s = .ok () (s.storeWord va w) := by
  have ho : (s.touch va .write).isOverhead va = false := by rw [State.isOverhead_congr (s := s)] <;> simp [h.2]
  simp [store, hu.turn, translate_ok h.1.accessible, checkReal, h.1.1.2, checkOverhead_ok ho, State.storeWord]

theorem store_vacant {s : State} {va : Long} (w : Word) (hu : s.undisturbed) (h : (s.entryOf va).isVacant = true) :
    store va w s = .error (.exception (.fault .pageFault va)) s := by
  simp [store, hu.turn, translate_vacant .write h]

theorem store_protected {s : State} {va : Long} (w : Word) (hu : s.undisturbed) (hv : (s.entryOf va).isVacant = false)
    (hp : (s.entryOf va).isProtected = true) :
    store va w s = .error (.exception (.fault .writeProtectFault va)) s := by
  simp [store, hu.turn, translate_protected hv hp]

/-- Everything `store` can do, after the devices' turn. -/
theorem store_cases (s : State) (va : Long) (w : Word) :
    let t := s.takeTurn
    (t.storable va ∧ store va w s = .ok () (t.storeWord va w)) ∨
      (∃ k, store va w s = .error (.exception (.fault k va)) t) ∨
      (t.accessible va .write ∧ ∃ r, store va w s = .error (.refused r) (t.touch va .write)) := by
  intro t
  have e : s.takeTurn = t := rfl
  rcases translate_cases t va .write with ⟨ha, h⟩ | ⟨k, h⟩
  · by_cases hr : t.cfg.realPage (t.realAddress va / 256) = true
    · have hr' : checkReal (t.realAddress va) (t.touch va .write) = .ok () (t.touch va .write) := checkReal_ok (by simpa using hr)
      have ho : (t.touch va .write).isOverhead va = t.isOverhead va := State.isOverhead_congr (by simp) (by simp) (by simp) _
      by_cases hov : t.isOverhead va = true
      · refine .inr (.inr ⟨ha, .overheadAccess, ?_⟩)
        simp [store, e, h, hr', checkOverhead, ho, hov]
      · rw [Bool.not_eq_true] at hov
        refine .inl ⟨⟨⟨⟨ha.1, hr⟩, ha.2 rfl⟩, hov⟩, ?_⟩
        simp [store, e, h, hr', checkOverhead, ho, hov, State.storeWord]
    · refine .inr (.inr ⟨ha, .realMemoryGap, ?_⟩)
      simp [store, e, h, checkReal, hr]
  · exact .inr (.inl ⟨k, by simp [store, e, h]⟩)

/-- A word popped after the destination has been mapped. -/
theorem putWord_pop (s : State) (va : Long) :
    { s.touch va .write with sp := (s.touch va .write).sp - 1 }.putWord va (s.realAddress va)
        ((s.touch va .write).stack.getD ((s.touch va .write).sp - 1) 0) =
      { s.storeWord va (s.stack.getD (s.sp - 1) 0) with sp := s.sp - 1 } := by
  rw [← State.touch_stack s va .write, ← State.touch_sp s va .write]
  rfl

theorem storePop_ok {s : State} {va : Long} (hu : s.undisturbed) (h : s.storable va) (hs : s.sp ≠ 0) :
    storePop va s = .ok () { s.storeWord va (s.stack.getD (s.sp - 1) 0) with sp := s.sp - 1 } := by
  have ho : (s.touch va .write).isOverhead va = false := by rw [State.isOverhead_congr (s := s)] <;> simp [h.2]
  have hp := pop_ok (s := s.touch va .write) (by simpa using hs)
  simp only [storePop, act_bind, deviceTurn_apply, hu.turn, translate_ok h.1.accessible, checkOverhead_ok ho, hp,
    checkReal_ok (s := s.touch va .write) (by simpa using h.1.1.2), act_modify, putWord_pop]

/-- Everything `storePop` can do, after the devices' turn. -/
theorem storePop_cases (s : State) (va : Long) :
    let t := s.takeTurn
    (t.storable va ∧ s.sp ≠ 0 ∧
        storePop va s = .ok () { t.storeWord va (s.stack.getD (s.sp - 1) 0) with sp := s.sp - 1 }) ∨
      (t.storable va ∧ s.sp = 0 ∧ storePop va s = .error .stackError (t.touch va .write)) ∨
      (∃ k, storePop va s = .error (.exception (.fault k va)) t) ∨
      (t.accessible va .write ∧ ∃ r, storePop va s = .error (.refused r) (t.touch va .write)) := by
  intro t
  have e : s.takeTurn = t := rfl
  have esp : t.sp = s.sp := State.takeTurn_sp s
  have est : t.stack = s.stack := State.takeTurn_stack s
  rcases translate_cases t va .write with ⟨ha, h⟩ | ⟨k, h⟩
  · by_cases hr : t.cfg.realPage (t.realAddress va / 256) = true
    · have hr' : checkReal (t.realAddress va) (t.touch va .write) = .ok () (t.touch va .write) := checkReal_ok (by simpa using hr)
      have ho : (t.touch va .write).isOverhead va = t.isOverhead va := State.isOverhead_congr (by simp) (by simp) (by simp) _
      by_cases hov : t.isOverhead va = true
      · refine .inr (.inr (.inr ⟨ha, .overheadAccess, ?_⟩))
        simp [storePop, e, h, hr', checkOverhead, ho, hov]
      · rw [Bool.not_eq_true] at hov
        have hst : t.storable va := ⟨⟨⟨ha.1, hr⟩, ha.2 rfl⟩, hov⟩
        by_cases hs : s.sp = 0
        · refine .inr (.inl ⟨hst, hs, ?_⟩)
          simp [storePop, e, h, hr', checkOverhead, ho, hov, pop_empty (s := t.touch va .write) (by simpa [esp] using hs)]
        · refine .inl ⟨hst, hs, ?_⟩
          simp only [storePop, act_bind, deviceTurn_apply, e, h, hr', checkOverhead, act_get, ho, hov, act_ite, Bool.false_eq_true,
            if_false, act_pure, pop_ok (s := t.touch va .write) (by simpa [esp] using hs), act_modify, putWord_pop, esp, est]
    · refine .inr (.inr (.inr ⟨ha, .realMemoryGap, ?_⟩))
      simp [storePop, e, h, checkReal, hr]
  · exact .inr (.inr (.inl ⟨k, by simp [storePop, e, h]⟩))

theorem storeOverheadPop_ok {s : State} {va : Long} (hu : s.undisturbed) (h : s.writable va) (hs : s.sp ≠ 0) :
    storeOverheadPop va s = .ok () { s.storeWord va (s.stack.getD (s.sp - 1) 0) with sp := s.sp - 1 } := by
  have hp := pop_ok (s := s.touch va .write) (by simpa using hs)
  simp only [storeOverheadPop, act_bind, deviceTurn_apply, hu.turn, translate_ok h.accessible, hp,
    checkReal_ok (s := s.touch va .write) (by simpa using h.1.2), act_modify, putWord_pop]

theorem fetchMds_eq (ptr : Word) (s : State) : fetchMds ptr s = fetch (s.lengthenPointer ptr) s := rfl

theorem storeMds_eq (ptr w : Word) (s : State) : storeMds ptr w s = store (s.lengthenPointer ptr) w s := rfl

theorem storeMdsPop_eq (ptr : Word) (s : State) : storeMdsPop ptr s = storePop (s.lengthenPointer ptr) s := rfl

theorem readDblMds_eq (ptr : Word) (s : State) : readDblMds ptr s = readDbl (s.lengthenPointer ptr) s := rfl

theorem readCode_inBank {s : State} {offset : Word} (h : s.codeInBank offset = true) :
    readCode offset s = fetch (s.codeAddress offset) s := by
  simp [readCode, h]

theorem readCode_crosses {s : State} {offset : Word} (h : s.codeInBank offset = false) :
    readCode offset s = .error (.refused .codeCrossesBank) s := by
  simp [readCode, h]

theorem readCode_ok {s : State} {offset : Word} (hu : s.undisturbed) (h : s.codeReadable offset) :
    readCode offset s = .ok (s.wordAt (s.codeAddress offset)) (s.touch (s.codeAddress offset) .read) := by
  rw [readCode_inBank h.1, fetch_ok hu h.2]

theorem lengthenPointer_congr {s t : State} (h : t.mds = s.mds) (ptr : Word) :
    t.lengthenPointer ptr = s.lengthenPointer ptr := by
  simp [State.lengthenPointer, h]

theorem codeAddress_congr {s t : State} (h : t.cb = s.cb) (offset : Word) :
    t.codeAddress offset = s.codeAddress offset := by
  simp [State.codeAddress, h]

theorem codeInBank_congr {s t : State} (h : t.cb = s.cb) (offset : Word) : t.codeInBank offset = s.codeInBank offset := by
  simp [State.codeInBank, h]

theorem readDbl_ok {s : State} {va : Long} (hu : s.undisturbed) (h : s.readable va) (h1 : s.readable (va + 1)) :
    readDbl va s = .ok (s.longAt va) ((s.touch va .read).touch (va + 1) .read) := by
  simp only [readDbl, act_bind, act_pure, fetch_ok hu h,
    fetch_ok (s := s.touch va .read) (hu.touch va .read) ((State.readable_touch h.accessible (va + 1)).2 h1),
    State.wordAt_touch h.accessible, State.longAt]

theorem fetchByte_ok {s : State} {ptr offset : Long} (hu : s.undisturbed) (h : s.readable (byteAddress ptr offset)) :
    fetchByte ptr offset s =
      .ok (selectByte (s.wordAt (byteAddress ptr offset)) offset) (s.touch (byteAddress ptr offset) .read) := by
  simp [fetchByte, fetch_ok hu h]

theorem storeByte_ok {s : State} {ptr offset : Long} (b : Byte) (hu : s.undisturbed) (h : s.storable (byteAddress ptr offset)) :
    storeByte ptr offset b s =
      .ok () ((s.touch (byteAddress ptr offset) .read).storeWord (byteAddress ptr offset)
        (replaceByte (s.wordAt (byteAddress ptr offset)) offset b)) := by
  simp only [storeByte, act_bind, fetch_ok hu h.readable]
  exact store_ok _ (hu.touch _ .read) ((State.storable_touch h.1.1.accessible _).2 h)

/-- A word of the code stream that nothing has stored to is fetched as memory has it. -/
theorem fetchedCode_settled {s : State} {va : Long} (w : Word) (h : ∀ p ∈ s.codeWrites, p.1 ≠ va) :
    fetchedCode va w s = .ok w s := by
  have hf : (s.codeWrites.filter fun p => decide (p.1 = va)) = [] :=
    List.filter_eq_nil_iff.2 fun p hp => by simpa using h p hp
  simp only [fetchedCode, act_bind, act_get, hf, List.map_nil, if_true, act_pure]

theorem getCodeByte_ok {s : State} (hu : s.undisturbed) (h : s.codeReadable (s.pc >>> 1))
    (hw : ∀ p ∈ s.codeWrites, p.1 ≠ s.codeAddress (s.pc >>> 1)) :
    getCodeByte s =
      .ok (if s.pc.getLsbD 0 then Word.right (s.wordAt (s.codeAddress (s.pc >>> 1)))
          else Word.left (s.wordAt (s.codeAddress (s.pc >>> 1))))
        { s.touch (s.codeAddress (s.pc >>> 1)) .read with pc := s.pc + 1 } := by
  simp only [getCodeByte, act_bind, act_get, readCode_ok hu h,
    fetchedCode_settled (s := s.touch (s.codeAddress (s.pc >>> 1)) .read) _ (by simpa using hw), act_modify, act_pure,
    State.touch_pc]

/-! Free values, interrupts and jumps. -/

@[simp] theorem freeWord_apply (s : State) :
    freeWord s = .ok (Config.freeWord s.freeIndex) { s with freeIndex := s.freeIndex + 1 } := rfl

@[simp] theorem freeLong_apply (s : State) :
    freeLong s = .ok (Config.freeLong s.freeIndex) { s with freeIndex := s.freeIndex + 1 } := rfl

@[simp] theorem pollInterrupt_apply (s : State) :
    pollInterrupt s = .ok (!s.testOmitted && interruptPending s.takeTurn) s.takeTurn := rfl

theorem State.testOmitted_undisturbed {s : State} (hu : s.undisturbed) : s.testOmitted = false := by
  simp [State.testOmitted, hu]

@[simp] theorem suspend_apply (s : State) : suspend s = .ok () { s with pc := s.savedPC } := rfl

@[simp] theorem jumpBy_apply (disp : Word) (s : State) : jumpBy disp s = .ok () { s with pc := s.savedPC + disp } := rfl

theorem noteSuspension_apply (ptr : Word) (record : List Word) (s : State) :
    noteSuspension ptr record s = .ok () { s with suspended := some ⟨s.savedPC, s.stack.take s.sp, ptr, record⟩ } := rfl

/-- Everything `checkRestart` can do. -/
theorem checkRestart_cases (start s : State) (ptr : Word) (record : List Word) :
    checkRestart start ptr record s = .ok () s ∨ checkRestart start ptr record s = .ok () { s with suspended := none } ∨
      checkRestart start ptr record s = .error (.refused .changedArgument) s := by
  simp only [checkRestart, act_bind, act_get]
  cases s.suspended with
  | none => exact .inl rfl
  | some u =>
    simp only [act_ite]
    split
    · split
      · exact .inr (.inl rfl)
      · exact .inr (.inr rfl)
    · exact .inl rfl

/-- Fuel beyond what a loop needs changes nothing, where each turn that goes on lowers a measure that is below the fuel. -/
theorem loop_fuel {body : Act Bool} (measure : State → Nat) (hd : ∀ s t, body s = .ok true t → measure t < measure s) (k : Nat) :
    ∀ (n : Nat) (s : State), measure s < n → loop body (n + k) s = loop body n s
  | 0, s, h => absurd h (Nat.not_lt_zero _)
  | n + 1, s, h => by
    rw [Nat.add_right_comm]
    simp only [loop, act_bind]
    cases hb : body s with
    | error e t => rfl
    | ok more t =>
      cases more with
      | false => rfl
      | true => exact loop_fuel measure hd k n t (Nat.lt_of_lt_of_le (hd s t hb) (Nat.lt_succ_iff.1 h))

/-! What every path of a routine keeps. -/

/-- The state in which a routine ends. -/
def endState {α : Type} : EStateM.Result Raise State α → State
  | .ok _ t => t
  | .error _ t => t

/-- From every state, the state in which the routine ends is related to it by `R`. -/
def Keeps {α : Type} (R : State → State → Prop) (m : Act α) : Prop := ∀ s, R s (endState (m s))

section Keeps
variable {R : State → State → Prop} {α β : Type}

theorem keeps_pure (hr : ∀ s, R s s) (a : α) : Keeps R (pure a : Act α) := fun s => hr s

theorem keeps_throw (hr : ∀ s, R s s) (e : Raise) : Keeps R (throw e : Act α) := fun s => hr s

theorem keeps_modify {f : State → State} (h : ∀ s, R s (f s)) : Keeps R (modify f : Act PUnit) := fun s => h s

theorem keeps_bind (ht : ∀ s t u, R s t → R t u → R s u) {m : Act α} {f : α → Act β} (hm : Keeps R m)
    (hf : ∀ a, Keeps R (f a)) : Keeps R (m >>= f) := by
  intro s
  have h := hm s
  rw [act_bind]
  cases hs : m s with
  | ok a t => rw [hs] at h; exact ht _ _ _ h (hf a t)
  | error e t => rw [hs] at h; exact h

theorem keeps_get_bind {f : State → Act β} (hf : ∀ s, R s (endState (f s s))) : Keeps R (get >>= f) := hf

theorem keeps_ite {c : Prop} [Decidable c] {m n : Act α} (hm : Keeps R m) (hn : Keeps R n) :
    Keeps R (if c then m else n) := by split <;> assumption

theorem keeps_loop (hr : ∀ s, R s s) (ht : ∀ s t u, R s t → R t u → R s u) {body : Act Bool} (h : Keeps R body)
    (fuel : Nat) : Keeps R (loop body fuel) := by
  induction fuel with
  | zero => exact keeps_pure hr false
  | succ n ih => exact keeps_bind ht h fun more => keeps_ite ih (keeps_pure hr true)

/-- What a completed routine keeps, its next state keeps, if taking an exception keeps it too. -/
theorem complete_keeps (ht : ∀ s t u, R s t → R t u → R s u) (he : ∀ e s, R s (takeException e s)) {m : Act Unit}
    (hm : Keeps R m) {s t : State} (h : complete m s = .next t) : R s t := by
  have hk := hm s
  rcases complete_cases h with hc | ⟨e, u, hc, rfl⟩
  · rw [hc] at hk; exact hk
  · rw [hc] at hk; exact ht _ _ _ hk (he e u)

end Keeps

end Sys2Proof.Machine
end

