-- ==== Sys2Proof/Laws/Access.lean ====
section
/-! SUPPORT. Accesses from a state with another evaluation stack: what each does to memory and the map does not depend on the
stack. -/

namespace Sys2Proof.Machine

/-- The state with another stack and stack pointer. -/
def State.stacked (s : State) (st : List Word) (n : Nat) : State := { s with stack := st, sp := n }

section Stacked
variable (s : State) (st : List Word) (n : Nat)

@[simp] theorem State.stacked_cfg : (s.stacked st n).cfg = s.cfg := rfl

@[simp] theorem State.stacked_freeIndex : (s.stacked st n).freeIndex = s.freeIndex := rfl

@[simp] theorem State.stacked_entryOf (va : Long) : (s.stacked st n).entryOf va = s.entryOf va := rfl

theorem State.writeMap_stacked (vp : Nat) (g : Word) (r : Long) :
    (s.stacked st n).writeMap vp g r = (s.writeMap vp g r).stacked st n := by
  by_cases h : s.cfg.virtualPage vp = true <;> simp only [State.writeMap, State.stacked_cfg, h, if_true] <;> rfl

theorem State.touch_stacked (va : Long) (a : Access) : (s.stacked st n).touch va a = (s.touch va a).stacked st n := by
  simp only [State.touch, State.stacked_cfg, State.stacked_entryOf, State.stacked_freeIndex, State.writeMap_stacked]
  by_cases hr : s.cfg.residentPage (virtualPageOf va) = true
  · by_cases hf : residentFlags (s.entryOf va).flags a (Config.freeWord s.freeIndex) = (s.entryOf va).flags
    · simp only [hr, if_true, hf]; rfl
    · simp only [hr, if_true, hf, if_false]; rfl
  · simp only [hr]; rfl

theorem State.storeWord_stacked (va : Long) (w : Word) : (s.stacked st n).storeWord va w = (s.storeWord va w).stacked st n := by
  rw [State.storeWord, State.touch_stacked]; rfl

theorem State.reads_stacked (vas : List Long) : (s.stacked st n).reads vas = (s.reads vas).stacked st n := by
  induction vas generalizing s with
  | nil => rfl
  | cons v vs ih => exact (congrArg (State.reads · vs) (s.touch_stacked st n v .read)).trans (ih (s.touch v .read))

theorem push_stacked (w : Word) (h : n < st.length) : push w (s.stacked st n) = .ok () (s.stacked (st.set n w) (n + 1)) :=
  push_ok (s := s.stacked st n) w h

theorem pop_stacked (h : n ≠ 0) : pop (s.stacked st n) = .ok (st.getD (n - 1) 0) (s.stacked st (n - 1)) :=
  pop_ok (s := s.stacked st n) h

variable {s} {va : Long}

theorem fetch_stacked (hu : s.undisturbed) (h : s.readable va) :
    fetch va (s.stacked st n) = .ok (s.wordAt va) ((s.touch va .read).stacked st n) := by
  rw [fetch_ok (s := s.stacked st n) hu h, State.touch_stacked]; rfl

theorem store_stacked (w : Word) (hu : s.undisturbed) (h : s.storable va) :
    store va w (s.stacked st n) = .ok () ((s.storeWord va w).stacked st n) := by
  rw [store_ok (s := s.stacked st n) w hu h, State.storeWord_stacked]

theorem storePop_stacked (hu : s.undisturbed) (h : s.storable va) (hs : n ≠ 0) :
    storePop va (s.stacked st n) = .ok () ((s.storeWord va (st.getD (n - 1) 0)).stacked st (n - 1)) := by
  rw [storePop_ok (s := s.stacked st n) hu h hs, State.storeWord_stacked]; rfl

theorem readDbl_stacked (hu : s.undisturbed) (h : s.readable va) (h1 : s.readable (va + 1)) :
    readDbl va (s.stacked st n) = .ok (s.longAt va) (((s.touch va .read).touch (va + 1) .read).stacked st n) := by
  rw [readDbl_ok (s := s.stacked st n) hu h h1, State.touch_stacked s st n, State.touch_stacked]; rfl

/-! Accesses that fault (R108). -/

/-- The map gives an access at `va` the fault `k`. -/
def State.faultsAt (s : State) (a : Access) (va : Long) (k : FaultKind) : Prop :=
  ((s.entryOf va).isVacant = true ∧ k = .pageFault) ∨
    (a = .write ∧ (s.entryOf va).isVacant = false ∧ (s.entryOf va).isProtected = true ∧ k = .writeProtectFault)

theorem fetch_fault {k : FaultKind} (hu : s.undisturbed) (h : s.faultsAt .read va k) :
    fetch va (s.stacked st n) = .error (.exception (.fault k va)) (s.stacked st n) := by
  obtain ⟨h, rfl⟩ | ⟨h, -⟩ := h
  · exact fetch_vacant (s := s.stacked st n) hu h
  · cases h

theorem store_fault {k : FaultKind} (w : Word) (hu : s.undisturbed) (h : s.faultsAt .write va k) :
    store va w (s.stacked st n) = .error (.exception (.fault k va)) (s.stacked st n) := by
  obtain ⟨h, rfl⟩ | ⟨-, h, h', rfl⟩ := h
  · exact store_vacant (s := s.stacked st n) w hu h
  · exact store_protected (s := s.stacked st n) w hu h h'

theorem storePop_fault {k : FaultKind} (hu : s.undisturbed) (h : s.faultsAt .write va k) :
    storePop va (s.stacked st n) = .error (.exception (.fault k va)) (s.stacked st n) := by
  have hu' : (s.stacked st n).undisturbed := hu
  obtain ⟨h, rfl⟩ | ⟨-, h, h', rfl⟩ := h
  · simp [storePop, hu'.turn, translate_vacant (s := s.stacked st n) .write h]
  · simp [storePop, hu'.turn, translate_protected (s := s.stacked st n) h h']

/-- An access does not change which accesses fault. -/
theorem State.faultsAt_touch {a b : Access} {vb : Long} {k : FaultKind} (h : s.accessible va a) :
    (s.touch va a).faultsAt b vb k ↔ s.faultsAt b vb k := by
  simp [State.faultsAt, State.isVacant_touch h, State.isProtected_touch h]

theorem State.faultsAt_storeWord {b : Access} {vb : Long} {k : FaultKind} (h : s.writable va) (w : Word) :
    (s.storeWord va w).faultsAt b vb k ↔ s.faultsAt b vb k := by
  simp [State.faultsAt, State.isVacant_storeWord h, State.isProtected_storeWord h]

/-- A fault takes `SP` from before the instruction, so that the pointer that the routine left does not show. -/
theorem takeException_fault_stacked {t : State} (k : FaultKind) (va : Long) (h : t.stack = st) :
    takeException (.fault k va) (t.stacked st n) = takeException (.fault k va) t := by
  subst h; rfl

end Stacked

end Sys2Proof.Machine
end

