-- ==== Sys2Proof/Laws/Stack.lean ====
section
/-! SUPPORT. What a stack that holds given words is: its pointer, its words one by one, and that writing a word where it
already is changes nothing. -/

namespace Sys2Proof.Machine

theorem getElem_of_getD {l : List Word} {i : Nat} {a : Word} (h : i < l.length) (e : l.getD i 0 = a) : l[i] = a := by
  simpa [h] using e

theorem set_of_getD {l : List Word} {i : Nat} {a : Word} (h : i < l.length) (e : l.getD i 0 = a) : l.set i a = l := by
  have := getElem_of_getD h e
  subst this
  simp

theorem State.holds1 {s : State} {base : Nat} {a : Word} (h : s.holds base [a]) :
    s.sp = base + 1 ∧
      ∃ (_ : base < s.stack.length),
        (s.stack[base] = a) ∧
        (s.stack.set base a = s.stack) := by
  obtain ⟨h1, h2, g0, -⟩ := h
  simp only [List.length_cons, List.length_nil, Nat.zero_add] at h1
  exact ⟨by omega, by omega,
    getElem_of_getD (by omega) g0,
    set_of_getD (by omega) g0⟩

theorem State.holds2 {s : State} {base : Nat} {a b : Word} (h : s.holds base [a, b]) :
    s.sp = base + 2 ∧
      ∃ (_ : base < s.stack.length) (_ : base + 1 < s.stack.length),
        (s.stack[base] = a ∧ s.stack[base + 1] = b) ∧
        (s.stack.set base a = s.stack ∧ s.stack.set (base + 1) b = s.stack) := by
  obtain ⟨h1, h2, g0, g1, -⟩ := h
  simp only [List.length_cons, List.length_nil, Nat.zero_add] at h1
  exact ⟨by omega, by omega, by omega,
    ⟨getElem_of_getD (by omega) g0, getElem_of_getD (by omega) g1⟩,
    set_of_getD (by omega) g0, set_of_getD (by omega) g1⟩

theorem State.holds3 {s : State} {base : Nat} {a b c : Word} (h : s.holds base [a, b, c]) :
    s.sp = base + 3 ∧
      ∃ (_ : base < s.stack.length) (_ : base + 1 < s.stack.length) (_ : base + 2 < s.stack.length),
        (s.stack[base] = a ∧ s.stack[base + 1] = b ∧ s.stack[base + 2] = c) ∧
        (s.stack.set base a = s.stack ∧ s.stack.set (base + 1) b = s.stack ∧ s.stack.set (base + 2) c = s.stack) := by
  obtain ⟨h1, h2, g0, g1, g2, -⟩ := h
  simp only [List.length_cons, List.length_nil, Nat.zero_add] at h1
  exact ⟨by omega, by omega, by omega, by omega,
    ⟨getElem_of_getD (by omega) g0, getElem_of_getD (by omega) g1, getElem_of_getD (by omega) g2⟩,
    set_of_getD (by omega) g0, set_of_getD (by omega) g1, set_of_getD (by omega) g2⟩

theorem State.holds4 {s : State} {base : Nat} {a b c d : Word} (h : s.holds base [a, b, c, d]) :
    s.sp = base + 4 ∧
      ∃ (_ : base < s.stack.length) (_ : base + 1 < s.stack.length) (_ : base + 2 < s.stack.length) (_ : base + 3 < s.stack.length),
        (s.stack[base] = a ∧ s.stack[base + 1] = b ∧ s.stack[base + 2] = c ∧ s.stack[base + 3] = d) ∧
        (s.stack.set base a = s.stack ∧ s.stack.set (base + 1) b = s.stack ∧ s.stack.set (base + 2) c = s.stack ∧ s.stack.set (base + 3) d = s.stack) := by
  obtain ⟨h1, h2, g0, g1, g2, g3, -⟩ := h
  simp only [List.length_cons, List.length_nil, Nat.zero_add] at h1
  exact ⟨by omega, by omega, by omega, by omega, by omega,
    ⟨getElem_of_getD (by omega) g0, getElem_of_getD (by omega) g1, getElem_of_getD (by omega) g2, getElem_of_getD (by omega) g3⟩,
    set_of_getD (by omega) g0, set_of_getD (by omega) g1, set_of_getD (by omega) g2, set_of_getD (by omega) g3⟩

theorem State.holds5 {s : State} {base : Nat} {a b c d e : Word} (h : s.holds base [a, b, c, d, e]) :
    s.sp = base + 5 ∧
      ∃ (_ : base < s.stack.length) (_ : base + 1 < s.stack.length) (_ : base + 2 < s.stack.length) (_ : base + 3 < s.stack.length) (_ : base + 4 < s.stack.length),
        (s.stack[base] = a ∧ s.stack[base + 1] = b ∧ s.stack[base + 2] = c ∧ s.stack[base + 3] = d ∧ s.stack[base + 4] = e) ∧
        (s.stack.set base a = s.stack ∧ s.stack.set (base + 1) b = s.stack ∧ s.stack.set (base + 2) c = s.stack ∧ s.stack.set (base + 3) d = s.stack ∧ s.stack.set (base + 4) e = s.stack) := by
  obtain ⟨h1, h2, g0, g1, g2, g3, g4, -⟩ := h
  simp only [List.length_cons, List.length_nil, Nat.zero_add] at h1
  exact ⟨by omega, by omega, by omega, by omega, by omega, by omega,
    ⟨getElem_of_getD (by omega) g0, getElem_of_getD (by omega) g1, getElem_of_getD (by omega) g2, getElem_of_getD (by omega) g3, getElem_of_getD (by omega) g4⟩,
    set_of_getD (by omega) g0, set_of_getD (by omega) g1, set_of_getD (by omega) g2, set_of_getD (by omega) g3, set_of_getD (by omega) g4⟩

theorem State.holds6 {s : State} {base : Nat} {a b c d e f : Word} (h : s.holds base [a, b, c, d, e, f]) :
    s.sp = base + 6 ∧
      ∃ (_ : base < s.stack.length) (_ : base + 1 < s.stack.length) (_ : base + 2 < s.stack.length) (_ : base + 3 < s.stack.length) (_ : base + 4 < s.stack.length) (_ : base + 5 < s.stack.length),
        (s.stack[base] = a ∧ s.stack[base + 1] = b ∧ s.stack[base + 2] = c ∧ s.stack[base + 3] = d ∧ s.stack[base + 4] = e ∧ s.stack[base + 5] = f) ∧
        (s.stack.set base a = s.stack ∧ s.stack.set (base + 1) b = s.stack ∧ s.stack.set (base + 2) c = s.stack ∧ s.stack.set (base + 3) d = s.stack ∧ s.stack.set (base + 4) e = s.stack ∧ s.stack.set (base + 5) f = s.stack) := by
  obtain ⟨h1, h2, g0, g1, g2, g3, g4, g5, -⟩ := h
  simp only [List.length_cons, List.length_nil, Nat.zero_add] at h1
  exact ⟨by omega, by omega, by omega, by omega, by omega, by omega, by omega,
    ⟨getElem_of_getD (by omega) g0, getElem_of_getD (by omega) g1, getElem_of_getD (by omega) g2, getElem_of_getD (by omega) g3, getElem_of_getD (by omega) g4, getElem_of_getD (by omega) g5⟩,
    set_of_getD (by omega) g0, set_of_getD (by omega) g1, set_of_getD (by omega) g2, set_of_getD (by omega) g3, set_of_getD (by omega) g4, set_of_getD (by omega) g5⟩

theorem State.holds7 {s : State} {base : Nat} {a b c d e f g : Word} (h : s.holds base [a, b, c, d, e, f, g]) :
    s.sp = base + 7 ∧
      ∃ (_ : base < s.stack.length) (_ : base + 1 < s.stack.length) (_ : base + 2 < s.stack.length) (_ : base + 3 < s.stack.length) (_ : base + 4 < s.stack.length) (_ : base + 5 < s.stack.length) (_ : base + 6 < s.stack.length),
        (s.stack[base] = a ∧ s.stack[base + 1] = b ∧ s.stack[base + 2] = c ∧ s.stack[base + 3] = d ∧ s.stack[base + 4] = e ∧ s.stack[base + 5] = f ∧ s.stack[base + 6] = g) ∧
        (s.stack.set base a = s.stack ∧ s.stack.set (base + 1) b = s.stack ∧ s.stack.set (base + 2) c = s.stack ∧ s.stack.set (base + 3) d = s.stack ∧ s.stack.set (base + 4) e = s.stack ∧ s.stack.set (base + 5) f = s.stack ∧ s.stack.set (base + 6) g = s.stack) := by
  obtain ⟨h1, h2, g0, g1, g2, g3, g4, g5, g6, -⟩ := h
  simp only [List.length_cons, List.length_nil, Nat.zero_add] at h1
  exact ⟨by omega, by omega, by omega, by omega, by omega, by omega, by omega, by omega,
    ⟨getElem_of_getD (by omega) g0, getElem_of_getD (by omega) g1, getElem_of_getD (by omega) g2, getElem_of_getD (by omega) g3, getElem_of_getD (by omega) g4, getElem_of_getD (by omega) g5, getElem_of_getD (by omega) g6⟩,
    set_of_getD (by omega) g0, set_of_getD (by omega) g1, set_of_getD (by omega) g2, set_of_getD (by omega) g3, set_of_getD (by omega) g4, set_of_getD (by omega) g5, set_of_getD (by omega) g6⟩

theorem Long.ofHalves_toNat (a b : Word) : (Long.ofHalves b a).toNat = b.toNat * 65536 + a.toNat := by
  have := a.isLt
  simp only [Long.ofHalves, BitVec.toNat_append]
  rw [← Nat.shiftLeft_add_eq_or_of_lt (by omega), Nat.shiftLeft_eq]

theorem Long.ofHalves_le_iff (a b c d : Word) :
    Long.ofHalves d c ≤ Long.ofHalves b a ↔ d.toNat * 65536 + c.toNat ≤ b.toNat * 65536 + a.toNat := by
  rw [BitVec.le_def, Long.ofHalves_toNat, Long.ofHalves_toNat]

theorem Long.ofHalves_inj (a b c d : Word) : Long.ofHalves b a = Long.ofHalves d c ↔ a = c ∧ b = d := by
  constructor
  · intro h
    have h1 := congrArg Long.low h
    have h2 := congrArg Long.high h
    simp only [Long.low_ofHalves, Long.high_ofHalves] at h1 h2
    exact ⟨h1, h2⟩
  · rintro ⟨rfl, rfl⟩; rfl

theorem Long.ofHalves_eq_zero (a b : Word) : Long.ofHalves b a = 0 ↔ a = 0 ∧ b = 0 := Long.ofHalves_inj a b 0 0

end Sys2Proof.Machine
end

