-- ==== Sys2Proof/Laws/Meanings.lean ====
section
/-! SUPPORT. What each operation that several instructions share does where it succeeds. -/

namespace Sys2Proof.Machine

/-! Stack instructions. -/

theorem unaryWord_ok {s : State} {base : Nat} {u : Word} (f : Word → Word) (h : s.holds base [u]) :
    unaryWord f s = .ok () (s.result base [f u] []) := by
  obtain ⟨h1, _, h3, _⟩ := s.holds1 h
  simp [unaryWord, pop, push, *, State.result, setWords]

theorem unaryLong_ok {s : State} {base : Nat} {a b : Word} (f : Long → Long) (h : s.holds base [a, b]) :
    unaryLong f s =
      .ok () (s.result base [Long.low (f (Long.ofHalves b a)), Long.high (f (Long.ofHalves b a))] []) := by
  obtain ⟨h1, _, _, ⟨h3, h4⟩, _⟩ := s.holds2 h
  simp [unaryLong, popLong, pushLong, pop, push, *, State.result, setWords]

theorem binaryWord_ok {s : State} {base : Nat} {u v : Word} (f : Word → Word → Word) (h : s.holds base [u, v]) :
    binaryWord f s = .ok () (s.result base [f u v] []) := by
  obtain ⟨h1, _, _, ⟨h3, h4⟩, _⟩ := s.holds2 h
  simp [binaryWord, pop, push, *, State.result, setWords]

theorem binaryLong_ok {s : State} {base : Nat} {a b c d : Word} (f : Long → Long → Long) (h : s.holds base [a, b, c, d]) :
    binaryLong f s =
      .ok () (s.result base [Long.low (f (Long.ofHalves b a) (Long.ofHalves d c)),
        Long.high (f (Long.ofHalves b a) (Long.ofHalves d c))] []) := by
  obtain ⟨h1, _, _, _, _, ⟨h3, h4, h5, h6⟩, _⟩ := s.holds4 h
  simp [binaryLong, popLong, pushLong, pop, push, *, State.result, setWords]

/-! Jumps. -/

@[simp] theorem jumpIf_apply (taken : Bool) (disp : Word) (s : State) :
    jumpIf taken disp s = .ok () { s with pc := if taken then s.savedPC + disp else s.pc } := by
  cases taken <;> rfl

theorem jumpOnWord_ok {s : State} {base : Nat} {u : Word} (test : Word → Bool) (disp : Word) (h : s.holds base [u]) :
    jumpOnWord test disp s = .ok () { s with sp := base, pc := if test u then s.savedPC + disp else s.pc } := by
  obtain ⟨h1, _, h3, _⟩ := s.holds1 h
  simp [jumpOnWord, pop, *]

theorem jumpOnPair_ok {s : State} {base : Nat} {u v : Word} (test : Word → Word → Bool) (disp : Word)
    (h : s.holds base [u, v]) :
    jumpOnPair test disp s = .ok () { s with sp := base, pc := if test u v then s.savedPC + disp else s.pc } := by
  obtain ⟨h1, _, _, ⟨h3, h4⟩, _⟩ := s.holds2 h
  simp [jumpOnPair, pop, *]

theorem jumpOnLongPair_ok {s : State} {base : Nat} {a b c d : Word} (test : Long → Long → Bool) (disp : Word)
    (h : s.holds base [a, b, c, d]) :
    jumpOnLongPair test disp s =
      .ok () { s with
        sp := base
        pc := if test (Long.ofHalves b a) (Long.ofHalves d c) then s.savedPC + disp else s.pc } := by
  obtain ⟨h1, _, _, _, _, ⟨h3, h4, h5, h6⟩, _⟩ := s.holds4 h
  simp [jumpOnLongPair, popLong, pop, *]

/-! Loads. -/

section Accesses
variable {s : State} (st : List Word) (n : Nat)

theorem fetchMds_stacked {ptr : Word} (hu : s.undisturbed) (h : s.readable (s.lengthenPointer ptr)) :
    fetchMds ptr (s.stacked st n) =
      .ok (s.wordAt (s.lengthenPointer ptr)) ((s.touch (s.lengthenPointer ptr) .read).stacked st n) :=
  fetch_stacked st n hu h

theorem loadLong_ok {va : Long} (hu : s.undisturbed) (h : s.readable va) (hr : n < st.length) :
    loadLong va (s.stacked st n) = .ok () ((s.touch va .read).stacked (st.set n (s.wordAt va)) (n + 1)) :=
  (bind_ok (fetch_stacked st n hu h)).trans (push_stacked _ st n _ hr)

theorem loadMds_eq (ptr : Word) (s : State) : loadMds ptr s = loadLong (s.lengthenPointer ptr) s := by
  simp only [loadMds, loadLong, act_bind, fetchMds_eq]

theorem readDoubleLong_ok {va : Long} (hu : s.undisturbed) (h : s.readable va) (h1 : s.readable (va + 1))
    (hr : n + 1 < st.length) :
    readDoubleLong va (s.stacked st n) = .ok () (((s.touch va .read).touch (va + 1) .read).stacked
      ((st.set n (s.wordAt va)).set (n + 1) (s.wordAt (va + 1))) (n + 2)) := by
  refine (bind_ok (fetch_stacked st n hu h)).trans ?_
  refine (bind_ok (fetch_stacked st n (hu.touch _ _) ((State.readable_touch h.accessible _).2 h1))).trans ?_
  refine (bind_ok (push_stacked _ st n _ (Nat.lt_of_succ_lt hr))).trans ?_
  rw [push_stacked _ _ _ _ (by simpa using hr), State.wordAt_touch h.accessible]

/-- A second fetch through a short pointer, after a first one. -/
theorem fetchMds_second {p q : Word} (hu : s.undisturbed) (h : s.readable (s.lengthenPointer p))
    (h1 : s.readable (s.lengthenPointer q)) :
    fetchMds q ((s.touch (s.lengthenPointer p) .read).stacked st n) = .ok (s.wordAt (s.lengthenPointer q))
      (((s.touch (s.lengthenPointer p) .read).touch (s.lengthenPointer q) .read).stacked st n) := by
  have e : (s.touch (s.lengthenPointer p) .read).lengthenPointer q = s.lengthenPointer q := lengthenPointer_congr (by simp) q
  rw [fetchMds_stacked st n (hu.touch _ _) (by rw [e]; exact (State.readable_touch h.accessible _).2 h1), e,
    State.wordAt_touch h.accessible]

/-- A second fetch through a short pointer that faults, after a first one. -/
theorem fetchMds_second_fault {va : Long} {q : Word} {k : FaultKind} (hu : s.undisturbed) (h : s.readable va)
    (hf : s.faultsAt .read (s.lengthenPointer q) k) :
    fetchMds q ((s.touch va .read).stacked st n) =
      .error (.exception (.fault k (s.lengthenPointer q))) ((s.touch va .read).stacked st n) := by
  have e : ((s.touch va .read).stacked st n).lengthenPointer q = s.lengthenPointer q :=
    lengthenPointer_congr (by simp [State.stacked]) q
  rw [fetchMds_eq, e]
  exact fetch_fault st n (hu.touch _ _) ((State.faultsAt_touch h.accessible).2 hf)

/-- The second fetch of a frame's double load faults (R361): the first word has been pushed. -/
theorem loadDoubleMds_fault {ptr : Word} {k : FaultKind} (hu : s.undisturbed) (hr : n < st.length)
    (h : s.readable (s.lengthenPointer ptr)) (hf : s.faultsAt .read (s.lengthenPointer (ptr + 1)) k) :
    loadDoubleMds ptr (s.stacked st n) = .error (.exception (.fault k (s.lengthenPointer (ptr + 1))))
      ((s.touch (s.lengthenPointer ptr) .read).stacked (st.set n (s.wordAt (s.lengthenPointer ptr))) (n + 1)) :=
  (bind_ok (fetchMds_stacked st n hu h)).trans <| (bind_ok (push_stacked _ st n _ hr)).trans <|
    bind_error (fetchMds_second_fault _ _ hu h hf)

theorem readDoubleMds_fault {ptr : Word} {k : FaultKind} (hu : s.undisturbed) (h : s.readable (s.lengthenPointer ptr))
    (hf : s.faultsAt .read (s.lengthenPointer (ptr + 1)) k) :
    readDoubleMds ptr (s.stacked st n) = .error (.exception (.fault k (s.lengthenPointer (ptr + 1))))
      ((s.touch (s.lengthenPointer ptr) .read).stacked st n) :=
  (bind_ok (fetchMds_stacked st n hu h)).trans (bind_error (fetchMds_second_fault _ _ hu h hf))

theorem readDoubleLong_fault {va : Long} {k : FaultKind} (hu : s.undisturbed) (h : s.readable va)
    (hf : s.faultsAt .read (va + 1) k) :
    readDoubleLong va (s.stacked st n) = .error (.exception (.fault k (va + 1))) ((s.touch va .read).stacked st n) :=
  (bind_ok (fetch_stacked st n hu h)).trans
    (bind_error (fetch_fault st n (hu.touch _ _) ((State.faultsAt_touch h.accessible).2 hf)))

theorem readDblMds_fault {ptr : Word} {k : FaultKind} (hu : s.undisturbed) (h : s.readable (s.lengthenPointer ptr))
    (hf : s.faultsAt .read (s.lengthenPointer ptr + 1) k) :
    readDblMds ptr (s.stacked st n) = .error (.exception (.fault k (s.lengthenPointer ptr + 1)))
      ((s.touch (s.lengthenPointer ptr) .read).stacked st n) :=
  (bind_ok (fetch_stacked st n hu h)).trans
    (bind_error (fetch_fault st n (hu.touch _ _) ((State.faultsAt_touch h.accessible).2 hf)))

theorem readDoubleMds_ok {ptr : Word} (hu : s.undisturbed) (h : s.readable (s.lengthenPointer ptr))
    (h1 : s.readable (s.lengthenPointer (ptr + 1))) (hr : n + 1 < st.length) :
    readDoubleMds ptr (s.stacked st n) = .ok ()
      (((s.touch (s.lengthenPointer ptr) .read).touch (s.lengthenPointer (ptr + 1)) .read).stacked
        ((st.set n (s.wordAt (s.lengthenPointer ptr))).set (n + 1) (s.wordAt (s.lengthenPointer (ptr + 1)))) (n + 2)) := by
  refine (bind_ok (fetchMds_stacked st n hu h)).trans ?_
  refine (bind_ok (fetchMds_second st n hu h h1)).trans ?_
  refine (bind_ok (push_stacked _ st n _ (Nat.lt_of_succ_lt hr))).trans ?_
  rw [push_stacked _ _ _ _ (by simpa using hr)]

theorem loadDoubleMds_ok {ptr : Word} (hu : s.undisturbed) (h : s.readable (s.lengthenPointer ptr))
    (h1 : s.readable (s.lengthenPointer (ptr + 1))) (hr : n + 1 < st.length) :
    loadDoubleMds ptr (s.stacked st n) = .ok ()
      (((s.touch (s.lengthenPointer ptr) .read).touch (s.lengthenPointer (ptr + 1)) .read).stacked
        ((st.set n (s.wordAt (s.lengthenPointer ptr))).set (n + 1) (s.wordAt (s.lengthenPointer (ptr + 1)))) (n + 2)) := by
  refine (bind_ok (fetchMds_stacked st n hu h)).trans ?_
  refine (bind_ok (push_stacked _ st n _ (Nat.lt_of_succ_lt hr))).trans ?_
  refine (bind_ok (fetchMds_second _ _ hu h h1)).trans ?_
  rw [push_stacked _ _ _ _ (by simpa using hr)]

/-! Stores. -/

theorem storeMdsPop_stacked {ptr : Word} (hu : s.undisturbed) (h : s.storable (s.lengthenPointer ptr)) (hs : n ≠ 0) :
    storeMdsPop ptr (s.stacked st n) =
      .ok () ((s.storeWord (s.lengthenPointer ptr) (st.getD (n - 1) 0)).stacked st (n - 1)) :=
  storePop_stacked st n hu h hs

theorem storeMds_stacked {ptr : Word} (w : Word) (hu : s.undisturbed) (h : s.storable (s.lengthenPointer ptr)) :
    storeMds ptr w (s.stacked st n) = .ok () ((s.storeWord (s.lengthenPointer ptr) w).stacked st n) :=
  store_stacked st n w hu h

theorem State.undisturbed.storeWord (h : s.undisturbed) (va : Long) (w : Word) : (s.storeWord va w).undisturbed :=
  (State.storeWord_turns s va w).trans h

theorem storeDoubleLong_ok {va : Long} (hu : s.undisturbed) (h1 : s.storable (va + 1)) (h : s.storable va) (hs : 2 ≤ n) :
    storeDoubleLong va (s.stacked st n) = .ok ()
      (((s.storeWord (va + 1) (st.getD (n - 1) 0)).storeWord va (st.getD (n - 2) 0)).stacked st (n - 2)) := by
  refine (bind_ok (storePop_stacked st n hu h1 (by omega))).trans ?_
  rw [storePop_stacked st (n - 1) (hu.storeWord _ _) ((State.storable_storeWord h1.1 _ _).2 h) (by omega), Nat.sub_sub]

theorem storeDoubleMds_ok {ptr : Word} (hu : s.undisturbed) (h1 : s.storable (s.lengthenPointer (ptr + 1)))
    (h : s.storable (s.lengthenPointer ptr)) (hs : 2 ≤ n) :
    storeDoubleMds ptr (s.stacked st n) = .ok ()
      (((s.storeWord (s.lengthenPointer (ptr + 1)) (st.getD (n - 1) 0)).storeWord (s.lengthenPointer ptr)
        (st.getD (n - 2) 0)).stacked st (n - 2)) := by
  have e (va : Long) (w : Word) : (s.storeWord va w).lengthenPointer ptr = s.lengthenPointer ptr :=
    lengthenPointer_congr (by simp) _
  refine (bind_ok (storeMdsPop_stacked st n hu h1 (by omega))).trans ?_
  rw [storeMdsPop_stacked st (n - 1) (hu.storeWord _ _) (by rw [e]; exact (State.storable_storeWord h1.1 _ _).2 h)
    (by omega), e, Nat.sub_sub]

/-- The second store of a double store faults (R361, R684): the first word stays stored. -/
theorem storeDoubleLong_fault {va : Long} {k : FaultKind} (hu : s.undisturbed) (h : s.storable (va + 1))
    (hf : s.faultsAt .write va k) (hs : n ≠ 0) :
    storeDoubleLong va (s.stacked st n) = .error (.exception (.fault k va))
      ((s.storeWord (va + 1) (st.getD (n - 1) 0)).stacked st (n - 1)) :=
  (bind_ok (storePop_stacked st n hu h hs)).trans
    (storePop_fault st _ (hu.storeWord _ _) ((State.faultsAt_storeWord h.1 _).2 hf))

theorem storeDoubleMds_fault {ptr : Word} {k : FaultKind} (hu : s.undisturbed)
    (h : s.storable (s.lengthenPointer (ptr + 1))) (hf : s.faultsAt .write (s.lengthenPointer ptr) k) (hs : n ≠ 0) :
    storeDoubleMds ptr (s.stacked st n) = .error (.exception (.fault k (s.lengthenPointer ptr)))
      ((s.storeWord (s.lengthenPointer (ptr + 1)) (st.getD (n - 1) 0)).stacked st (n - 1)) := by
  refine (bind_ok (storeMdsPop_stacked st n hu h hs)).trans ?_
  have e (w : Word) : ((s.storeWord (s.lengthenPointer (ptr + 1)) w).stacked st (n - 1)).lengthenPointer ptr = s.lengthenPointer ptr :=
    lengthenPointer_congr (by simp [State.stacked]) ptr
  rw [storeMdsPop_eq, e]
  exact storePop_fault st _ (hu.storeWord _ _) ((State.faultsAt_storeWord h.1 _).2 hf)

end Accesses

/-! The next states of the statements. -/

@[simp] theorem State.reads_nil (s : State) : s.reads [] = s := rfl

@[simp] theorem State.reads_cons (s : State) (va : Long) (vas : List Long) :
    s.reads (va :: vas) = (s.touch va .read).reads vas := rfl

/-! Control links, and the tests of TXTBLT and of the block transfers. -/

theorem fetchControlLink_apply (i : Nat) (s : State) :
    fetchControlLink i s = if s.linkInBank s.linkPlace i = true then readDbl (s.linkAddress s.linkPlace i) s
      else .error (.refused .codeCrossesBank) s := by
  by_cases h : s.linkInBank s.linkPlace i = true <;> simp [fetchControlLink, h]

theorem txtScan_apply (ptr : Word) (record : List Word) (flagsIndex : Nat) (t : TxtState) (s : State) :
    txtScan ptr record flagsIndex t s =
      if txtBltArgError (txtBltArg record) = true ∨
          { s with freeIndex := flagsIndex }.txtBltMemoryError ptr (txtBltArg record) t = true then .error (.refused .txtBltArgument) s
      else txtLoop ptr record flagsIndex txtBltFuel t s := by
  simp [txtScan]

theorem suspendOrContinue_apply (s : State) :
    suspendOrContinue s = if s.testOmitted = false ∧ interruptPending s.takeTurn = true
      then .ok false { s.takeTurn with pc := s.takeTurn.savedPC } else .ok true s.takeTurn := by
  simp only [suspendOrContinue, act_bind, pollInterrupt_apply]
  cases s.testOmitted <;> cases interruptPending s.takeTurn <;> rfl

theorem State.takeTurns_succ (s : State) (n : Nat) : s.takeTurns (n + 1) = (s.takeTurns n).takeTurn := by
  induction n generalizing s with
  | zero => rfl
  | succ n ih => exact ih s.takeTurn

end Sys2Proof.Machine
end

