-- ==== Sys2Proof/Tests/Slice0.lean ====
section
/-! SUPPORT. Tests: ill-formed terms that are refused, every opcode read from bytes written out from the opcode table, rows of
spec/95_test_vectors.md and of the rules, and for every statement states that meet its hypotheses. -/

set_option Elab.async false

namespace Sys2Proof.Tests
open Sys2Proof Sys2Proof.Machine

/-! What the well-formedness check refuses (R171, R177). -/

theorem test_refuses_rob_0 : Instr.wellFormed (.rob 0) = false := by decide
theorem test_refuses_rob_5 : Instr.wellFormed (.rob 5) = false := by decide
theorem test_refuses_wob_0 : Instr.wellFormed (.wob 0) = false := by decide
theorem test_refuses_wob_5 : Instr.wellFormed (.wob 5) = false := by decide
theorem test_refuses_shiftsb_16 : Instr.wellFormed (.shiftsb 0x10) = false := by decide
theorem test_refuses_shiftsb_minus_16 : Instr.wellFormed (.shiftsb 0xF0) = false := by decide
theorem test_refuses_field_r0f : Instr.wellFormed (.r0f ⟨12, 4⟩) = false := by decide
theorem test_refuses_field_rl0f : Instr.wellFormed (.rl0f ⟨15, 1⟩) = false := by decide
theorem test_refuses_field_w0f : Instr.wellFormed (.w0f ⟨12, 4⟩) = false := by decide
theorem test_refuses_field_ws0f : Instr.wellFormed (.ws0f ⟨12, 4⟩) = false := by decide
theorem test_refuses_field_ps0f : Instr.wellFormed (.ps0f ⟨12, 4⟩) = false := by decide
theorem test_refuses_field_wl0f : Instr.wellFormed (.wl0f ⟨12, 4⟩) = false := by decide
theorem test_refuses_field_rf : Instr.wellFormed (.rf ⟨2, ⟨12, 4⟩⟩) = false := by decide
theorem test_refuses_field_rlf : Instr.wellFormed (.rlf ⟨2, ⟨12, 4⟩⟩) = false := by decide
theorem test_refuses_field_wf : Instr.wellFormed (.wf ⟨2, ⟨12, 4⟩⟩) = false := by decide
theorem test_refuses_field_wlf : Instr.wellFormed (.wlf ⟨2, ⟨12, 4⟩⟩) = false := by decide
theorem test_refuses_field_psf : Instr.wellFormed (.psf ⟨2, ⟨12, 4⟩⟩) = false := by decide
theorem test_refuses_field_pslf : Instr.wellFormed (.pslf ⟨2, ⟨12, 4⟩⟩) = false := by decide
theorem test_refuses_field_rlipf : Instr.wellFormed (.rlipf ⟨2, 1⟩ ⟨12, 4⟩) = false := by decide
theorem test_refuses_field_rlilpf : Instr.wellFormed (.rlilpf ⟨2, 1⟩ ⟨12, 4⟩) = false := by decide
theorem test_refuses_esc_of_an_opcode : Instr.wellFormed (.esc 0x31) = false := by decide +kernel
theorem test_refuses_escl_of_an_opcode : Instr.wellFormed (.escl 0x1E) = false := by decide +kernel
theorem test_accepts_bounds : ([.rob 1, .rob 4, .wob 1, .wob 4, .shiftsb 0xF1, .shiftsb 0x0F, .r0f ⟨15, 0⟩, .rf ⟨0xFF, ⟨0, 15⟩⟩,
    .esc 0x00, .escl 0xFF] : List Instr).all Instr.wellFormed = true := by decide +kernel

/-! Decoding: every row of spec/opcode_table.json, its bytes written out from its match value and its format (R161), the operand
bytes from R170 to R172. -/

/-- Every list of bytes is read as the instruction beside it. -/
def allRead (rows : List (List Byte × Instr)) : Bool := rows.all fun r => decide (decodeBytes r.1 = .instr r.2)

theorem test_decode_map_registers : allRead
    [([0xF7], .lp), ([0xF8, 0x07], .sm), ([0xF8, 0x08], .smf), ([0xF8, 0x09], .gmf), ([0xF9, 0x1E, 0x02], .rob 0x02),
    ([0xF9, 0x1F, 0x02], .wob 0x02), ([0xF8, 0x70], .wrpsb), ([0xF8, 0x71], .wrmds), ([0xF8, 0x72], .wrwp),
    ([0xF8, 0x73], .wrwdc), ([0xF8, 0x74], .wrptc), ([0xF8, 0x75], .writ), ([0xF8, 0x76], .wrxts), ([0xF8, 0x77], .wrmp),
    ([0xF8, 0x78], .rrpsb), ([0xF8, 0x79], .rrmds), ([0xF8, 0x7A], .rrwp), ([0xF8, 0x7B], .rrwdc), ([0xF8, 0x7C], .rrptc),
    ([0xF8, 0x7D], .rrit), ([0xF8, 0x7E], .rrxts)] = true := by decide +kernel

theorem test_decode_stack_a : allRead
    [([0x3C], .bndck), ([0x7B], .shift), ([0x7C, 0xF1], .shiftsb 0xF1), ([0xA2], .recover), ([0xA3], .recover2),
    ([0xA4], .dis), ([0xA5], .dis2), ([0xA6], .exch), ([0xA7], .dexch), ([0xA8], .dup), ([0xA9], .ddup), ([0xAA], .exdis),
    ([0xAB], .neg), ([0xAC], .inc), ([0xAD], .dec), ([0xAE], .dinc), ([0xAF], .dbl), ([0xB0], .ddbl), ([0xB1], .trpl),
    ([0xB2], .and), ([0xB3], .ior), ([0xB4, 0xA5], .addsb 0xA5), ([0xB5], .add), ([0xB6], .sub), ([0xB7], .dadd),
    ([0xB8], .dsub), ([0xB9], .adc), ([0xBA], .acd), ([0xBC], .mul), ([0xBD], .dcmp), ([0xBE], .udcmp), ([0xF8, 0x12], .xor)] = true := by decide +kernel

theorem test_decode_stack_b : allRead
    [([0xF8, 0x13], .dand), ([0xF8, 0x14], .dior), ([0xF8, 0x15], .dxor), ([0xF8, 0x16], .rotate), ([0xF8, 0x17], .dshift),
    ([0xF8, 0x18], .lint), ([0xF8, 0x1C], .udiv), ([0xF8, 0x1D], .ludiv), ([0xF8, 0x24], .bndckl), ([0xF8, 0x25], .nilck),
    ([0xF8, 0x26], .nilckl), ([0xF8, 0x30], .dmul), ([0xF8, 0x31], .sdiv), ([0xF8, 0x32], .sddiv), ([0xF8, 0x33], .uddiv)] = true := by decide +kernel

theorem test_decode_jumps_a : allRead
    [([0x80, 0xA5], .catchPhrase 0xA5), ([0x81], .j2), ([0x82], .j3), ([0x83], .j4), ([0x84], .j5), ([0x85], .j6),
    ([0x86], .j7), ([0x87], .j8), ([0x88, 0xA5], .jb 0xA5), ([0x89, 0x12, 0x34], .jw 0x1234), ([0x8A, 0x21], .jep ⟨2, 1⟩),
    ([0x8B, 0xA5], .jeb 0xA5), ([0x8C, 0x41, 0x06], .jebb 0x41 0x06), ([0x8D, 0x21], .jnep ⟨2, 1⟩),
    ([0x8E, 0xA5], .jneb 0xA5), ([0x8F, 0x41, 0x06], .jnebb 0x41 0x06), ([0x90, 0xA5], .jlb 0xA5),
    ([0x91, 0xA5], .jgeb 0xA5), ([0x92, 0xA5], .jgb 0xA5), ([0x93, 0xA5], .jleb 0xA5), ([0x94, 0xA5], .julb 0xA5),
    ([0x95, 0xA5], .jugeb 0xA5), ([0x96, 0xA5], .jugb 0xA5), ([0x97, 0xA5], .juleb 0xA5), ([0x98], .jz3), ([0x99], .jz4),
    ([0x9A, 0xA5], .jzb 0xA5), ([0x9B], .jnz3), ([0x9C], .jnz4), ([0x9D, 0xA5], .jnzb 0xA5), ([0x9E, 0xA5], .jdeb 0xA5),
    ([0x9F, 0xA5], .jdneb 0xA5)] = true := by decide +kernel

theorem test_decode_jumps_b : allRead
    [([0xA0, 0x12, 0x34], .jib 0x1234), ([0xA1, 0x12, 0x34], .jiw 0x1234), ([0xF8, 0x19], .js)] = true := by decide +kernel

theorem test_decode_immediate_frame_a : allRead
    [([0x01], .ll0), ([0x02], .ll1), ([0x03], .ll2), ([0x04], .ll3), ([0x05], .ll4), ([0x06], .ll5), ([0x07], .ll6),
    ([0x08], .ll7), ([0x09], .ll8), ([0x0A], .ll9), ([0x0B], .ll10), ([0x0C], .ll11), ([0x0D, 0xA5], .llb 0xA5),
    ([0x0E], .lld0), ([0x0F], .lld1), ([0x10], .lld2), ([0x11], .lld3), ([0x12], .lld4), ([0x13], .lld5), ([0x14], .lld6),
    ([0x15], .lld7), ([0x16], .lld8), ([0x17], .lld10), ([0x18, 0xA5], .lldb 0xA5), ([0x19], .sl0), ([0x1A], .sl1),
    ([0x1B], .sl2), ([0x1C], .sl3), ([0x1D], .sl4), ([0x1E], .sl5), ([0x1F], .sl6), ([0x20], .sl7)] = true := by decide +kernel

theorem test_decode_immediate_frame_b : allRead
    [([0x21], .sl8), ([0x22], .sl9), ([0x23], .sl10), ([0x24, 0xA5], .slb 0xA5), ([0x25], .sld0), ([0x26], .sld1),
    ([0x27], .sld2), ([0x28], .sld3), ([0x29], .sld4), ([0x2A], .sld5), ([0x2B], .sld6), ([0x2C], .sld8), ([0x2D], .pl0),
    ([0x2E], .pl1), ([0x2F], .pl2), ([0x30], .pl3), ([0x31, 0xA5], .plb 0xA5), ([0x32], .pld0), ([0x33, 0xA5], .pldb 0xA5),
    ([0x34], .lg0), ([0x35], .lg1), ([0x36], .lg2), ([0x37, 0xA5], .lgb 0xA5), ([0x38], .lgd0), ([0x39], .lgd2),
    ([0x3A, 0xA5], .lgdb 0xA5), ([0x3B, 0xA5], .sgb 0xA5), ([0x75, 0xA5], .sldb 0xA5), ([0x76, 0xA5], .sgdb 0xA5),
    ([0xBB, 0xA5], .al0ib 0xA5), ([0xC0], .li0), ([0xC1], .li1)] = true := by decide +kernel

theorem test_decode_immediate_frame_c : allRead
    [([0xC2], .li2), ([0xC3], .li3), ([0xC4], .li4), ([0xC5], .li5), ([0xC6], .li6), ([0xC7], .li7), ([0xC8], .li8),
    ([0xC9], .li9), ([0xCA], .li10), ([0xCB], .lin1), ([0xCC], .lini), ([0xCD, 0xA5], .lib 0xA5),
    ([0xCE, 0x12, 0x34], .liw 0x1234), ([0xCF, 0xA5], .linb 0xA5), ([0xD0, 0xA5], .lihb 0xA5), ([0xD1], .lid0),
    ([0xD2], .la0), ([0xD3], .la1), ([0xD4], .la2), ([0xD5], .la3), ([0xD6], .la6), ([0xD7], .la8),
    ([0xD8, 0xA5], .lab 0xA5), ([0xD9, 0x12, 0x34], .law 0x1234), ([0xDA], .ga0), ([0xDB], .ga1), ([0xDC, 0xA5], .gab 0xA5),
    ([0xDD, 0x12, 0x34], .gaw 0x1234)] = true := by decide +kernel

theorem test_decode_pointers_a : allRead
    [([0x40], .r0), ([0x41], .r1), ([0x42, 0xA5], .rb 0xA5), ([0x43], .rl0), ([0x44, 0xA5], .rlb 0xA5), ([0x45], .rd0),
    ([0x46, 0xA5], .rdb 0xA5), ([0x47], .rdl0), ([0x48, 0xA5], .rdlb 0xA5), ([0x49], .w0), ([0x4A, 0xA5], .wb 0xA5),
    ([0x4B, 0xA5], .psb 0xA5), ([0x4C, 0xA5], .wlb 0xA5), ([0x4D, 0xA5], .pslb 0xA5), ([0x4E, 0xA5], .wdb 0xA5),
    ([0x4F], .psd0), ([0x50, 0xA5], .psdb 0xA5), ([0x51, 0xA5], .wdlb 0xA5), ([0x52, 0xA5], .psdlb 0xA5), ([0x53], .rli00),
    ([0x54], .rli01), ([0x55], .rli02), ([0x56], .rli03), ([0x57, 0x21], .rlip ⟨2, 1⟩), ([0x58, 0x21], .rlilp ⟨2, 1⟩),
    ([0x59], .rldi00), ([0x5A, 0x21], .rldip ⟨2, 1⟩), ([0x5B, 0x21], .rldilp ⟨2, 1⟩), ([0x5C, 0x21], .rgip ⟨2, 1⟩),
    ([0x5D, 0x21], .rgilp ⟨2, 1⟩), ([0x5E, 0x21], .wlip ⟨2, 1⟩), ([0x5F, 0x21], .wlilp ⟨2, 1⟩)] = true := by decide +kernel

theorem test_decode_pointers_b : allRead
    [([0x60, 0x21], .wldilp ⟨2, 1⟩), ([0xF9, 0x1B, 0xA5], .rc 0xA5)] = true := by decide +kernel

theorem test_decode_strings_fields : allRead
    [([0x61, 0xA5], .rs 0xA5), ([0x62, 0xA5], .rls 0xA5), ([0x63, 0xA5], .ws 0xA5), ([0x64, 0xA5], .wls 0xA5),
    ([0x65, 0x43], .r0f ⟨4, 3⟩), ([0x66, 0x12, 0x43], .rf ⟨0x12, ⟨4, 3⟩⟩), ([0x67, 0x43], .rl0f ⟨4, 3⟩),
    ([0x68, 0x12, 0x43], .rlf ⟨0x12, ⟨4, 3⟩⟩), ([0x69], .rlfs), ([0x6A, 0x21, 0x43], .rlipf ⟨2, 1⟩ ⟨4, 3⟩),
    ([0x6B, 0x21, 0x43], .rlilpf ⟨2, 1⟩ ⟨4, 3⟩), ([0x6C, 0x43], .w0f ⟨4, 3⟩), ([0x6D, 0x12, 0x43], .wf ⟨0x12, ⟨4, 3⟩⟩),
    ([0x6E, 0x12, 0x43], .psf ⟨0x12, ⟨4, 3⟩⟩), ([0x6F, 0x43], .ps0f ⟨4, 3⟩), ([0x70, 0x43], .ws0f ⟨4, 3⟩),
    ([0x71, 0x43], .wl0f ⟨4, 3⟩), ([0x72, 0x12, 0x43], .wlf ⟨0x12, ⟨4, 3⟩⟩), ([0x73, 0x12, 0x43], .pslf ⟨0x12, ⟨4, 3⟩⟩),
    ([0x74], .wlfs), ([0xF8, 0x1A], .rcfs)] = true := by decide +kernel

theorem test_decode_blocks : allRead
    [([0xF3], .blt), ([0xF4], .bltl), ([0xF5], .bltc), ([0xF6], .bltcl), ([0xF8, 0x27], .bltlr), ([0xF8, 0x28], .blel),
    ([0xF8, 0x29], .blecl), ([0xF8, 0x2A], .cksum), ([0xF8, 0x2B], .bitblt), ([0xF8, 0x2C], .txtblt),
    ([0xF8, 0x2D], .bytblt), ([0xF8, 0x2E], .bytbltr)] = true := by decide +kernel

theorem test_decode_transfers : allRead
    [([0x3D], .brk), ([0x77, 0xA5], .llkb 0xA5), ([0x78, 0xA5], .rkib 0xA5), ([0x79, 0xA5], .rkdib 0xA5),
    ([0x7A, 0xA5], .lkb 0xA5), ([0xDF], .efc0), ([0xE0], .efc1), ([0xE1], .efc2), ([0xE2], .efc3), ([0xE3], .efc4),
    ([0xE4], .efc5), ([0xE5], .efc6), ([0xE6], .efc7), ([0xE7], .efc8), ([0xE8], .efc9), ([0xE9], .efc10), ([0xEA], .efc11),
    ([0xEB], .efc12), ([0xEC, 0xA5], .efcb 0xA5), ([0xED, 0x12, 0x34], .lfc 0x1234), ([0xEE], .sfc), ([0xEF], .ret),
    ([0xF0, 0xA5], .kfcb 0xA5), ([0xF8, 0x0A], .af), ([0xF8, 0x0B], .ff), ([0xF8, 0x0C], .pi), ([0xF8, 0x0D], .po),
    ([0xF8, 0x0E], .por), ([0xF9, 0x20, 0xA5], .dsk 0xA5), ([0xF9, 0x21, 0xA5], .xe 0xA5), ([0xF9, 0x22, 0xA5], .xf 0xA5),
    ([0xF9, 0x23, 0xA5], .lsk 0xA5)] = true := by decide +kernel

theorem test_decode_processes : allRead
    [([0xF1], .me), ([0xF2], .mx), ([0xF8, 0x02], .mw), ([0xF8, 0x03], .mr), ([0xF8, 0x04], .nc), ([0xF8, 0x05], .bc),
    ([0xF8, 0x06], .req), ([0xF8, 0x0F], .spp), ([0xF8, 0x10], .di), ([0xF8, 0x11], .ei)] = true := by decide +kernel

theorem test_decode_escapes : allRead [([0xF8, 0x00], .esc 0x00), ([0xF9, 0x00, 0x00], .escl 0x00)] = true := by decide +kernel

/-- The host's view: the first bytes of a table word are the most significant (log 1). -/
theorem test_table_word : decodeTableWord 16 0x0D05 = some (.llb 0x05) ∧ decodeTableWord 24 0x660243 = some (.rf ⟨0x02, ⟨4, 3⟩⟩) ∧
    decodeTableWord 8 0xB5 = some .add ∧ decodeTableWord 8 0x7E = none := by decide +kernel

/-! One step each, from the rows of spec/95_test_vectors.md. -/

/-- The common start state of the vectors: `MDS`, `LF`, `GF`, `CB` as given there, `base` words and then `ws` on the stack. -/
def machine (base : Nat) (ws : List Word) : State :=
  { State.reset with
    stack := List.replicate base 0x7777 ++ ws ++ List.replicate (14 - base - ws.length) 0x8888
    sp := base + ws.length, savedSP := base + ws.length
    mds := 0x00050000, lf := 0x2000, gf := 0x3000, cb := 0x00200000, pc := 0x0042, savedPC := 0x0040 }

/-- Words placed in real memory; the map of the start state maps each page to itself. -/
def placed (s : State) (ps : List (Nat × Word)) : State :=
  { s with mem := ps.foldl (fun m p => Memory.setWord m p.1 p.2) s.mem }

/-- `o` is a next state with no exception, the stack `ws`, and `above` left over it. -/
def stackIs (o : Host.Outcome State Fault Refusal) (ws above : List Word) : Bool :=
  match o with
  | .next t => t.exception.isNone && decide (t.stack.take t.sp = ws) && decide ((t.stack.drop t.sp).take above.length = above)
  | _ => false

/-- `o` is a next state with the exception `e`, and the stack and `PC` of `s`. -/
def takes (o : Host.Outcome State Fault Refusal) (s : State) (e : Machine.Exception) : Bool :=
  match o with
  | .next t => decide (t.exception = some e) && decide (t.stack.take t.sp = s.stack.take s.sp) && decide (t.pc = s.savedPC)
  | _ => false

/-- `o` is a next state with no exception, and the words `ps` in memory. -/
def memoryIs (o : Host.Outcome State Fault Refusal) (ps : List (Long × Word)) : Bool :=
  match o with
  | .next t => t.exception.isNone && ps.all fun p => decide (t.wordAt p.1 = p.2)
  | _ => false

/-- `o` is a next state with `PC` and an empty stack. -/
def pcIs (o : Host.Outcome State Fault Refusal) (pc : Word) : Bool :=
  match o with
  | .next t => decide (t.pc = pc) && decide (t.sp = 0)
  | _ => false

/-- `o` is `StackError`. -/
def isStackError (o : Host.Outcome State Fault Refusal) : Bool :=
  match o with
  | .fault .stackError => true
  | _ => false

/-- Rows of an instruction, the stack before, the stack after, and the words left above it. -/
def stackRows (rows : List (Instr × List Word × List Word × List Word)) : Bool :=
  rows.all fun r => stackIs (exec r.1 (machine 0 r.2.1)) r.2.2.1 r.2.2.2

/-- Rows of an instruction, the stack before and the trap. -/
def trapRows (rows : List (Instr × List Word × Trap)) : Bool :=
  rows.all fun r => takes (exec r.1 (machine 0 r.2.1)) (machine 0 r.2.1) (.trap r.2.2)

/-- Vectors 2.1. -/
theorem test_rearranging : stackRows [(.dis, [0x1111, 0x2222], [0x1111], [0x2222]),
    (.dis2, [0x1111, 0x2222, 0x3333], [0x1111], [0x2222, 0x3333]), (.exch, [1, 2], [2, 1], []),
    (.dexch, [0x1111, 0x2222, 0x3333, 0x4444], [0x3333, 0x4444, 0x1111, 0x2222], []), (.dup, [0xABCD], [0xABCD, 0xABCD], []),
    (.ddup, [0x1111, 0x2222], [0x1111, 0x2222, 0x1111, 0x2222], []), (.exdis, [1, 2], [2], []),
    (.recover, [0x1111], [0x1111, 0x8888], []), (.recover2, [], [0x8888, 0x8888], [])] = true := by decide +kernel

theorem test_checks : stackRows [(.bndck, [5, 10], [5], []), (.bndck, [0xFFFE, 0xFFFF], [0xFFFE], []),
    (.bndckl, [0xFFFF, 0, 0, 1], [0xFFFF, 0], []), (.nilckl, [0, 5], [0, 5], []), (.nilckl, [1, 0], [1, 0], [])] = true := by
  decide +kernel

theorem test_traps : trapRows [(.bndck, [10, 10], .boundsTrap), (.bndck, [0, 0], .boundsTrap), (.bndckl, [0, 1, 0, 1], .boundsTrap),
    (.nilckl, [0, 0], .pointerTrap), (.sdiv, [7, 0], .divZeroTrap), (.udiv, [1, 0], .divZeroTrap),
    (.ludiv, [0, 2, 2], .divCheckTrap), (.ludiv, [0x1234, 0, 0], .divZeroTrap), (.sddiv, [1, 0, 0, 0], .divZeroTrap),
    (.uddiv, [1, 0, 0, 0], .divZeroTrap), (.nilck, [1], .escOpcodeTrap 0x25), (.esc 0x00, [1], .escOpcodeTrap 0),
    (.escl 0x77, [1], .escOpcodeTrap 0x77)] = true := by decide +kernel

/-- `DUP` of an empty stack and `EXCH` of one word are `StackError`, and so is a push onto a full stack (2.1, 2.5). -/
theorem test_stack_errors : isStackError (exec .dup (machine 0 [])) = true ∧ isStackError (exec .exch (machine 0 [1])) = true ∧
    isStackError (exec .ll0 (machine 0 (List.replicate 14 5))) = true ∧
    isStackError (exec .recover (machine 0 (List.replicate 14 5))) = true := by decide +kernel

/-- Vectors 2.2. -/
theorem test_unary : stackRows [(.neg, [0x8000], [0x8000], []), (.neg, [1], [0xFFFF], []), (.inc, [0xFFFF], [0], []),
    (.dec, [0], [0xFFFF], []), (.dinc, [0xFFFF, 0], [0, 1], []), (.dinc, [0xFFFF, 0xFFFF], [0, 0], []),
    (.addsb 0xFF, [0x10], [0x0F], []), (.addsb 0x80, [0], [0xFF80], []), (.dbl, [0x8001], [2], []),
    (.ddbl, [0x8000, 1], [0, 3], []), (.trpl, [0x5556], [2], []), (.lint, [0xFFFE], [0xFFFE, 0xFFFF], []),
    (.lint, [0x7FFF], [0x7FFF, 0], []), (.shiftsb 0xFC, [0xFF], [0x0F], []), (.shiftsb 0x0F, [1], [0x8000], [])] = true := by
  decide +kernel

theorem test_logical_and_shift : stackRows [(.and, [0x0FF0, 0xFF], [0xF0], []), (.ior, [0x0F00, 0xF0], [0x0FF0], []),
    (.xor, [0xFFFF, 0xFF], [0xFF00], []), (.dand, [0xFFFF, 0x0F0F, 0xFF, 0xFFFF], [0xFF, 0x0F0F], []),
    (.dior, [1, 0, 0, 0x8000], [1, 0x8000], []), (.dxor, [0xFFFF, 0xFFFF, 0x0F0F, 0xF0F0], [0xF0F0, 0x0F0F], []),
    (.shift, [0x8001, 0xFFFF], [0x4000], []), (.shift, [0xFFFF, 0x8000], [0], []),
    (.dshift, [0x5678, 0x1234, 0xFFF8], [0x3456, 0x12], []), (.dshift, [1, 0, 0x1F], [0, 0x8000], []),
    (.rotate, [0x1234, 0xFFFC], [0x4123], []), (.rotate, [0x8001, 0x11], [3], [])] = true := by decide +kernel

/-- Vectors 2.3. -/
theorem test_arithmetic : stackRows [(.add, [0xFFFF, 1], [0], []), (.sub, [3, 5], [0xFFFE], []),
    (.dadd, [0xFFFF, 0, 1, 0], [0, 1], []), (.dsub, [0, 1, 1, 0], [0xFFFF, 0], []), (.adc, [0xFFFF, 1, 0], [0, 1], []),
    (.adc, [0xFFFF, 0xFFFF, 0xFFFF], [0xFFFE, 0], []), (.acd, [0xFFFF, 0, 1], [0, 1], []), (.mul, [0x1234, 0x5678], [0x60], [0x626]),
    (.dmul, [0x2345, 1, 0x10, 0], [0x3450, 0x12], []), (.dcmp, [0, 0x8000, 0xFFFF, 0x7FFF], [0xFFFF], []),
    (.dcmp, [0x1234, 0x5678, 0x1234, 0x5678], [0], []), (.udcmp, [0, 0x8000, 0xFFFF, 0x7FFF], [1], []),
    (.udcmp, [0, 0, 1, 0], [0xFFFF], [])] = true := by decide +kernel

theorem test_divide : stackRows [(.sdiv, [0xFFF9, 2], [0xFFFD], [0xFFFF]), (.sdiv, [0x8000, 0xFFFF], [0x8000], [0]),
    (.udiv, [0xFFFF, 0x10], [0x0FFF], [0xF]), (.ludiv, [0xFFFF, 0xFFFE, 0xFFFF], [0xFFFF], [0xFFFE]),
    (.ludiv, [0, 1, 2], [0x8000], [0]), (.sddiv, [0x7960, 0xFFFE, 0xFFF9, 0xFFFF], [0x37CD, 0], [0xFFFB, 0xFFFF]),
    (.uddiv, [0, 1, 3, 0], [0x5555, 0], [1, 0])] = true := by decide +kernel

/-- Rows of an instruction, its first byte's offset, the next offset in line, the stack before, and `PC` after (2.4). -/
def jumpRows (rows : List (Instr × Word × Word × List Word × Word)) : Bool :=
  rows.all fun r =>
    pcIs (exec r.1 (placed { machine 0 r.2.2.2.1 with savedPC := r.2.1, pc := r.2.2.1 } [(0x200031, 0x1A2B), (0x200032, 0xFFF0)]))
      r.2.2.2.2

theorem test_jumps : jumpRows [(.j2, 0x10, 0x11, [], 0x12), (.j8, 0x10, 0x11, [], 0x18), (.j3, 0xFFFE, 0xFFFF, [], 1),
    (.jb 0x80, 0x100, 0x102, [], 0x80), (.jw 0xFF00, 0x100, 0x103, [], 0), (.js, 0x10, 0x12, [0x246], 0x246),
    (.catchPhrase 7, 0x30, 0x32, [], 0x32), (.jib 0x30, 0x20, 0x23, [3, 4], 0x4B), (.jib 0x30, 0x20, 0x23, [2, 4], 0x3A),
    (.jib 0x30, 0x20, 0x23, [4, 4], 0x23), (.jiw 0x30, 0x20, 0x23, [2, 5], 0x10), (.jiw 0x30, 0x20, 0x23, [0xFFFF, 5], 0x23)] =
    true := by decide +kernel

theorem test_conditional_jumps : jumpRows [(.jz3, 0x20, 0x21, [0], 0x23), (.jz4, 0x20, 0x21, [1], 0x21),
    (.jnz3, 0x20, 0x21, [0x8000], 0x23), (.jnz4, 0x20, 0x21, [0], 0x21), (.jzb 0x10, 0x40, 0x42, [0], 0x50),
    (.jnzb 0xF0, 0x40, 0x42, [1], 0x30), (.jeb 6, 0x40, 0x42, [0x1234, 0x1234], 0x46),
    (.jneb 6, 0x40, 0x42, [0x1234, 0x1235], 0x46), (.jdeb 8, 0x40, 0x42, [1, 2, 1, 3], 0x42),
    (.jdneb 8, 0x40, 0x42, [1, 2, 0, 2], 0x48), (.jep ⟨3, 1⟩, 0x40, 0x42, [3], 0x45), (.jnep ⟨3, 1⟩, 0x40, 0x42, [3], 0x42),
    (.jebb 0xFF 0xFA, 0x10, 0x13, [0xFF], 0x0A), (.jnebb 0x41 6, 0x10, 0x13, [0x42], 0x16),
    (.jlb 4, 0x50, 0x52, [0x8000, 0x7FFF], 0x54), (.jleb 4, 0x50, 0x52, [5, 5], 0x54), (.jgb 4, 0x50, 0x52, [1, 0xFFFF], 0x54),
    (.jgeb 4, 0x50, 0x52, [0x8000, 0x7FFF], 0x52), (.julb 4, 0x50, 0x52, [0, 0xFFFF], 0x54),
    (.juleb 4, 0x50, 0x52, [0xFFFF, 0xFFFF], 0x54), (.jugb 4, 0x50, 0x52, [0x8000, 0x7FFF], 0x54),
    (.jugeb 4, 0x50, 0x52, [0, 1], 0x52)] = true := by decide +kernel

/-- Memory before each row of 2.5, 2.6 and 2.7. -/
def data : List (Nat × Word) :=
  [(0x52000, 0x1111), (0x52001, 0x2222), (0x52002, 0x1000), (0x52003, 0xBEEF), (0x52004, 0), (0x52005, 8), (0x520FF, 0xFF),
   (0x52100, 0x100), (0x53000, 0xAAAA), (0x53001, 0x1002), (0x53002, 0xCCCC), (0x53003, 0xDDDD), (0x53004, 2), (0x53005, 8),
   (0x51000, 0x4142), (0x51001, 0x4344), (0x51002, 0x1234), (0x51003, 0xD), (0x201000, 0x4444), (0x201001, 0x5555),
   (0x80002, 0x1234), (0x80003, 0x5678), (0x200002, 0x1234), (0x200014, 0xC0DE)]

/-- Rows of an instruction, the stack before and after over `data`. -/
def dataRows (rows : List (Instr × List Word × List Word)) : Bool :=
  rows.all fun r => stackIs (exec r.1 (placed (machine 0 r.2.1) data)) r.2.2 []

/-- Rows of an instruction, the stack before and after, the words stored. -/
def storeRows (rows : List (Instr × List Word × List Word × List (Long × Word))) : Bool :=
  rows.all fun r =>
    let o := exec r.1 (placed (machine 0 r.2.1) data)
    stackIs o r.2.2.1 [] && memoryIs o r.2.2.2

theorem test_immediates_and_frame_loads : dataRows [(.lin1, [], [0xFFFF]), (.lini, [], [0x8000]), (.lid0, [], [0, 0]),
    (.li10, [], [10]), (.lib 0xFF, [], [0xFF]), (.linb 5, [], [0xFF05]), (.lihb 0x12, [], [0x1200]), (.liw 0x1234, [], [0x1234]),
    (.la8, [], [0x2008]), (.lab 0xFF, [], [0x20FF]), (.law 0xFFFC, [], [0x1FFC]), (.ga1, [], [0x3001]), (.gab 0x10, [], [0x3010]),
    (.gaw 0x100, [], [0x3100]), (.ll0, [], [0x1111]), (.ll3, [], [0xBEEF]), (.llb 0xFF, [], [0xFF]), (.lld0, [], [0x1111, 0x2222]),
    (.lldb 0xFF, [], [0xFF, 0x100]), (.al0ib 2, [], [0x1113]), (.lg0, [], [0xAAAA]), (.lgb 3, [], [0xDDDD]),
    (.lgd2, [], [0xCCCC, 0xDDDD]), (.lgdb 1, [], [0x1002, 0xCCCC])] = true := by decide +kernel

theorem test_frame_stores : storeRows [(.sl0, [0x5A5A], [], [(0x52000, 0x5A5A)]), (.slb 3, [1], [], [(0x52003, 1)]),
    (.sld0, [0xAAAA, 0xBBBB], [], [(0x52000, 0xAAAA), (0x52001, 0xBBBB)]), (.sldb 2, [1, 2], [], [(0x52002, 1), (0x52003, 2)]),
    (.pl1, [0x7777], [0x7777], [(0x52001, 0x7777)]), (.plb 3, [0x7777], [0x7777], [(0x52003, 0x7777)]),
    (.pld0, [1, 2], [1, 2], [(0x52000, 1), (0x52001, 2)]), (.sgb 4, [0x1234], [], [(0x53004, 0x1234)]),
    (.sgdb 4, [0x1111, 0x2222], [], [(0x53004, 0x1111), (0x53005, 0x2222)])] = true := by decide +kernel

theorem test_pointer_reads : dataRows [(.lp, [0x1234], [0x1234, 5]), (.lp, [0], [0, 0]), (.r0, [0x1000], [0x4142]),
    (.r1, [0x1000], [0x4344]), (.rb 3, [0x1000], [0xD]), (.rl0, [0x1000, 0x20], [0x4444]), (.rlb 1, [0x1000, 0x20], [0x5555]),
    (.rd0, [0x1000], [0x4142, 0x4344]), (.rdb 2, [0x1000], [0x1234, 0xD]), (.rdl0, [0x1000, 0x20], [0x4444, 0x5555]),
    (.rdlb 0, [0x1000, 0x20], [0x4444, 0x5555]), (.rc 4, [0x10], [0xC0DE]), (.rlip ⟨2, 1⟩, [], [0x4344]),
    (.rlilp ⟨4, 2⟩, [], [0x1234]), (.rgip ⟨1, 1⟩, [], [0xD]), (.rgilp ⟨4, 0⟩, [], [0x1234]), (.rldip ⟨2, 2⟩, [], [0x1234, 0xD]),
    (.rldilp ⟨4, 2⟩, [], [0x1234, 0x5678]), (.rob 2, [0x2004], [0x1000])] = true := by decide +kernel

theorem test_pointer_writes : storeRows [(.w0, [0xAA, 0x1000], [], [(0x51000, 0xAA)]), (.wb 3, [0xAA, 0x1000], [], [(0x51003, 0xAA)]),
    (.wlb 1, [0xAA, 0x1000, 0x20], [], [(0x201001, 0xAA)]), (.wdb 0, [1, 2, 0x1000], [], [(0x51000, 1), (0x51001, 2)]),
    (.wdlb 2, [1, 2, 0, 8], [], [(0x80002, 1), (0x80003, 2)]), (.psb 2, [0x1000, 0xAA], [0x1000], [(0x51002, 0xAA)]),
    (.psd0, [0x1000, 1, 2], [0x1000], [(0x51000, 1), (0x51001, 2)]), (.psdb 2, [0x1000, 1, 2], [0x1000], [(0x51002, 1), (0x51003, 2)]),
    (.pslb 0, [0x1000, 0x20, 0xAA], [0x1000, 0x20], [(0x201000, 0xAA)]),
    (.psdlb 2, [0, 8, 1, 2], [0, 8], [(0x80002, 1), (0x80003, 2)]), (.wlip ⟨2, 3⟩, [0x77], [], [(0x51003, 0x77)]),
    (.wlilp ⟨4, 2⟩, [0x77], [], [(0x80002, 0x77)]), (.wldilp ⟨4, 2⟩, [1, 2], [], [(0x80002, 1), (0x80003, 2)]),
    (.wob 1, [0x55, 0x2004], [], [(0x52003, 0x55)])] = true := by decide +kernel

/-- Local 0 as a short pointer, as the rows of 2.6 for the forms that go through it have it. -/
theorem test_through_local_0 : stackIs (exec .rli03 (placed (machine 0 []) (data ++ [(0x52000, 0x1000)]))) [0xD] [] = true ∧
    stackIs (exec .rldi00 (placed (machine 0 []) (data ++ [(0x52000, 0x1000)]))) [0x4142, 0x4344] [] = true := by decide +kernel

theorem test_string_and_field_reads : dataRows [(.rs 0, [0x1000, 0], [0x41]), (.rs 2, [0x1000, 1], [0x44]),
    (.rls 1, [0, 5, 0x1FFF], [0x41]), (.rf ⟨2, ⟨4, 3⟩⟩, [0x1000], [2]), (.r0f ⟨8, 7⟩, [0x1000], [0x42]),
    (.rlf ⟨2, ⟨4, 3⟩⟩, [0, 0x20], [2]), (.rl0f ⟨0, 7⟩, [2, 0x20], [0x12]), (.rlfs, [0, 0x20, 0x243], [2]), (.rcfs, [1, 0x143], [2]),
    (.rlipf ⟨2, 2⟩ ⟨4, 3⟩, [], [2]), (.rlilpf ⟨4, 2⟩ ⟨4, 3⟩, [], [2])] = true := by decide +kernel

/-- A short string that leaves its main data space, by the row D8 and by the words of R481. -/
theorem test_string_wraps :
    stackIs (exec (.rs 0) (placed (machine 0 [0xFFFF, 2]) [(0x50000, 0x4142), (0x60000, 0x4344)])) [0x41] [] = true ∧
    stackIs (exec (.rs 0) (placed { machine 0 [0xFFFF, 2] with cfg := { Config.initial with stringWraps := false } }
      [(0x50000, 0x4142), (0x60000, 0x4344)])) [0x43] [] = true := by decide +kernel

theorem test_string_and_field_writes : storeRows [(.ws 0, [0xFF5A, 0x1000, 0], [], [(0x51000, 0x5A42)]),
    (.ws 1, [0xFF5A, 0x1000, 0], [], [(0x51000, 0x415A)]), (.wls 0, [0x99, 0x1000, 5, 3], [], [(0x51001, 0x4399)]),
    (.wf ⟨0, ⟨4, 3⟩⟩, [0xA5, 0x1000], [], [(0x51000, 0x4542)]), (.w0f ⟨0, 15⟩, [0xBEEF, 0x1000], [], [(0x51000, 0xBEEF)]),
    (.wlf ⟨2, ⟨8, 7⟩⟩, [0xAB, 0, 0x20], [], [(0x200002, 0x12AB)]), (.wl0f ⟨0, 0⟩, [1, 2, 0x20], [], [(0x200002, 0x9234)]),
    (.wlfs, [0xAB, 0, 0x20, 0x287], [], [(0x200002, 0x12AB)]), (.ws0f ⟨4, 3⟩, [0x1000, 0xA5], [], [(0x51000, 0x4542)]),
    (.ps0f ⟨4, 3⟩, [0x1000, 0xA5], [0x1000], [(0x51000, 0x4542)]),
    (.psf ⟨2, ⟨8, 7⟩⟩, [0x1000, 0xAB], [0x1000], [(0x51002, 0x12AB)]),
    (.pslf ⟨2, ⟨8, 7⟩⟩, [0, 0x20, 0xAB], [0, 0x20], [(0x200002, 0x12AB)])] = true := by decide +kernel

/-- The ERROR of R500 and R501, refused (R5, U17). -/
theorem test_field_error : (([(.r0f ⟨12, 4⟩, [0x1000]), (.w0f ⟨12, 4⟩, [7, 0x1000])] : List (Instr × List Word)).all fun p =>
    match exec p.1 (machine 0 p.2) with | .refused .fieldSpecifier => true | _ => false) = true := by decide +kernel

/-- Vectors 2.7 of `ReadField` and `WriteField`. -/
theorem test_fields : readFieldOf 0x1234 ⟨4, 3⟩ = 2 ∧ readFieldOf 0x9234 ⟨0, 0⟩ = 1 ∧ readFieldOf 0x1234 ⟨2, 5⟩ = 0x12 ∧
    writeFieldOf 0xFFFF ⟨4, 3⟩ 0xA5 = 0xF5FF ∧ writeFieldOf 0xFFFF ⟨15, 0⟩ 0 = 0xFFFE ∧ writeFieldOf 0 ⟨2, 5⟩ 0xFF = 0x3F00 := by
  decide +kernel

/-! Block transfers (2.8). -/

/-- Memory before each row of 2.8. -/
def blocks : List (Nat × Word) :=
  [(0x51000, 0xA), (0x51001, 0xB), (0x51002, 0xC), (0x200010, 0xC0DE), (0x200011, 0xF00D), (0x201000, 1), (0x201001, 2),
   (0x201002, 3), (0x202000, 1), (0x202001, 2)]

/-- Rows of an instruction, the stack before and after, the words stored. -/
def blockRows (rows : List (Instr × List Word × List Word × List (Long × Word))) : Bool :=
  rows.all fun r =>
    let o := exec r.1 (placed (machine 0 r.2.1) blocks)
    stackIs o r.2.2.1 [] && memoryIs o r.2.2.2

theorem test_word_blocks : blockRows [(.blt, [0x1000, 3, 0x2000], [], [(0x52000, 0xA), (0x52001, 0xB), (0x52002, 0xC)]),
    (.blt, [0x1000, 3, 0x1001], [], [(0x51001, 0xA), (0x51002, 0xA), (0x51003, 0xA)]), (.blt, [0x1000, 0, 0x2000], [], [(0x52000, 0)]),
    (.bltl, [0x1000, 0x20, 2, 0x3000, 0x20], [], [(0x203000, 1), (0x203001, 2)]),
    (.bltlr, [0x1000, 0x20, 2, 0x3000, 0x20], [], [(0x203000, 0), (0x203001, 2), (0x203002, 3)]),
    (.bltc, [0x10, 2, 0x2000], [], [(0x52000, 0xC0DE), (0x52001, 0xF00D)]), (.bltcl, [0x10, 1, 0, 8], [], [(0x80000, 0xC0DE)])] =
    true := by decide +kernel

theorem test_compares_and_bytes : blockRows [(.blel, [0x1000, 0x20, 2, 0x2000, 0x20], [1], []),
    (.blel, [0x1000, 0x20, 3, 0x2000, 0x20], [0], []), (.blecl, [0x10, 1, 0x1000, 0x20], [0], []),
    (.bytblt, [0x3000, 0x20, 1, 1, 0x1001, 0x20, 1], [], [(0x203000, 2)]),
    (.bytbltr, [0x3000, 0x20, 2, 3, 0x1000, 0x20, 3], [], [(0x203000, 0x0100), (0x203001, 0x0200)])] = true := by decide +kernel

/-- `CKSUM` of 2.8. -/
theorem test_checksum : stackIs (exec .cksum (placed (machine 0 [0x1234, 3, 0x1000, 0x20])
      [(0x201000, 0xFFFF), (0x201001, 1), (0x201002, 0xABCD)])) [0xE93F] [] = true ∧
    stackIs (exec .cksum (machine 0 [0xFFFF, 0, 0x1000, 0x20])) [0] [] = true := by decide +kernel

/-- The suspension row of `BLT` in 2.8. -/
theorem test_blt_suspended :
    let o := exec .blt (placed { machine 0 [0x1000, 3, 0x2000] with wdc := 0, wp := 1 } blocks)
    stackIs o [0x1001, 2, 0x2001] [] = true ∧ memoryIs o [(0x52000, 0xA), (0x52001, 0)] = true := by decide +kernel

/-- The first test omitted, as R531 lets an implementation: the second suspends. -/
theorem test_blt_test_omitted :
    let turn : DeviceTurn := ⟨false, 0, []⟩
    let o := exec .blt (placed { machine 0 [0x1000, 3, 0x2000] with
      wdc := 0, wp := 1, turns := [turn, turn, ⟨true, 0, []⟩, turn, turn, turn] } blocks)
    stackIs o [0x1002, 1, 0x2002] [] = true ∧ memoryIs o [(0x52000, 0xA), (0x52001, 0xB), (0x52002, 0)] = true := by decide +kernel

/-! Memory, the map and registers (2.9). -/

/-- A machine with one map entry set. -/
def withEntry (s : State) (vp : Nat) (flags : Word) (real : Long) : State := s.writeMap vp flags real

/-- The entry of page 0A0 after `o`. -/
def entryIs (o : Host.Outcome State Fault Refusal) (e : MapEntry) : Bool :=
  match o with
  | .next t => decide (t.readMap 0xA0 = e)
  | _ => false

theorem test_map_instructions :
    (let o := exec .sm (withEntry (machine 0 [0xA0, 0, 0x123, 0, 0]) 0x123 6 0)
     stackIs o [] [] = true ∧ entryIs o ⟨0, 0x123⟩ = true) ∧
    stackIs (exec .gmf (withEntry (machine 0 [0xA0, 0]) 0xA0 0 0x123)) [0, 0x123, 0] [] = true ∧
    (let o := exec .smf (withEntry (withEntry (machine 0 [0xA0, 0, 4]) 0x123 6 0) 0xA0 3 0x123)
     stackIs o [3, 0x123, 0] [] = true ∧ entryIs o ⟨4, 0x123⟩ = true) := by decide +kernel

/-- A read and a write through the entry of page 0A0: the real address, the flags, the faults. -/
theorem test_map_flags :
    (let s := placed (withEntry (machine 0 [0xA010, 0]) 0xA0 0 0x123) [(0x12310, 0x4321)]
     stackIs (exec .rl0 s) [0x4321] [] = true ∧ entryIs (exec .rl0 s) ⟨1, 0x123⟩ = true) ∧
    entryIs (exec (.wlb 0) (withEntry (machine 0 [7, 0xA010, 0]) 0xA0 1 0x123)) ⟨3, 0x123⟩ = true ∧
    (let s := withEntry (machine 0 [7, 0xA010, 0]) 0xA0 4 0x123
     takes (exec (.wlb 0) s) s (.fault .writeProtectFault 0xA010) = true ∧ entryIs (exec (.wlb 0) s) ⟨4, 0x123⟩ = true) ∧
    (let s := withEntry (machine 0 [0xA010, 0]) 0xA0 6 0
     takes (exec .rl0 s) s (.fault .pageFault 0xA010) = true) := by decide +kernel

theorem test_registers : stackRows [(.rrmds, [], [5], []), (.rrwdc, [], [1], []), (.wrwdc, [1], [], []),
    (.wrxts, [0xBEEF], [], [])] = true ∧
    (match exec .writ (machine 0 [0x5678, 0x1234]) with | .next t => decide (t.it = 0x12345678) | _ => false) = true ∧
    (match exec .wrmds (machine 0 [7]) with | .next t => decide (t.mds = 0x70000) | _ => false) = true ∧
    (match exec .wrptc (machine 0 [0x10]) with | .next t => decide (t.ptc = 0x10 ∧ t.time = t.it) | _ => false) = true := by
  decide +kernel

/-! The main loop and exceptions (2.10). -/

/-- V-DEC7 and the page fault of an operand byte: nothing was pushed. -/
theorem test_fetch_fault :
    let s := withEntry (placed { machine 0 [] with pc := 0x1FF } [(0x2000FF, 0x00CD)]) 0x2001 6 0
    takes (step s) { s with savedPC := 0x1FF } (.fault .pageFault 0x200100) = true := by decide +kernel

/-- V-RST1 and V-RST2 case b: the second access faults, the stack is as it was, and a first store stays. -/
theorem test_restart :
    (let s := withEntry (machine 0 [0x10FF]) 0x511 6 0
     takes (exec .rd0 s) s (.fault .pageFault 0x51100) = true) ∧
    (let s := withEntry (machine 0 [0x1111, 0x2222, 0x10FF]) 0x510 4 0x510
     takes (exec (.wdb 0) s) s (.fault .writeProtectFault 0x510FF) = true ∧
     (match exec (.wdb 0) s with | .next t => decide (t.wordAt 0x51100 = 0x2222) | _ => false) = true) := by decide +kernel

/-- V-RST3: `BLT` faults in its second iteration with operands for the rest. -/
theorem test_blt_fault :
    let s := withEntry (machine 0 [0x1000, 3, 0x20FF]) 0x521 6 0
    takes (exec .blt s) { s with stack := [0x1001, 2, 0x2100] } (.fault .pageFault 0x52100) = true := by decide +kernel

/-- V-INT1, V-DEC4, V-DEC6. -/
theorem test_main_loop :
    (match step { machine 0 [] with wp := 4, wdc := 0 } with | .next t => decide (t.exception = some .reschedule) | _ => false) =
      true ∧
    (match step (({ machine 0 [] with wp := 4, wdc := 1 } : State).withFetchWord 8 0xC3) with
      | .next t => decide (t.wp = 4 ∧ t.stack.take t.sp = [3]) | _ => false) = true ∧
    takes (step ((machine 0 []).withFetchWord 8 0x7E)) { machine 0 [] with savedPC := 0x42 } (.trap (.opcodeTrap 0x7E)) = true ∧
    (match step ((machine 0 []).withFetchWord 8 0xFF) with | .refused (.reservedOpcode b) => decide (b = 0xFF) | _ => false) =
      true := by decide +kernel

/-! BITBLT and TXTBLT (47_bitblt_txtblt.md R592, R593, R610). -/

/-- A BITBLT of the argument words at `0100`, with `MDS` zero, over the words of R592 and R593. -/
def bitBltAfter (arg : List Word) : Host.Outcome State Fault Refusal :=
  exec .bitblt (placed { machine 0 [0x100] with mds := 0 }
    ((List.range 12).map (fun k => (0x100 + k, arg.getD k 0)) ++
      [(0x3000, 0xAB00), (0x3001, 0xCD00), (0x2000, 0xFFFF), (0x4000, 0xAAAA), (0x4001, 0x5555)]))

theorem test_bitblt_replace : memoryIs (bitBltAfter [0x2000, 0, 4, 16, 0x3000, 0, 0, 16, 8, 2, 0, 0])
    [(0x2000, 0xFABF), (0x2001, 0x0CD0), (0x3000, 0xAB00)] = true := by decide +kernel

theorem test_bitblt_functions :
    memoryIs (bitBltAfter [0x2000, 0, 4, 16, 0x3000, 0, 0, 16, 8, 2, 0x0600, 0]) [(0x2000, 0xF54F), (0x2001, 0x0CD0)] = true ∧
    memoryIs (bitBltAfter [0x2000, 0, 4, 16, 0x3000, 0, 0, 16, 8, 2, 0x0A00, 0]) [(0x2000, 0xF54F), (0x2001, 0)] = true ∧
    memoryIs (bitBltAfter [0x2000, 0, 4, 16, 0x3000, 0, 0, 16, 8, 2, 0x0C00, 0]) [(0x2000, 0xFFFF), (0x2001, 0x0320)] = true := by
  decide +kernel

theorem test_bitblt_backward : memoryIs (bitBltAfter [0x2001, 0, 4, 0xFFF0, 0x3001, 0, 0, 0xFFF0, 8, 2, 0x8000, 0])
    [(0x2000, 0xFABF), (0x2001, 0x0CD0)] = true := by decide +kernel

theorem test_bitblt_gray : memoryIs (bitBltAfter [0x2000, 0, 0, 16, 0x4001, 0, 0, 0x0101, 16, 3, 0x5000, 0])
    [(0x2000, 0x5555), (0x2001, 0xAAAA), (0x2002, 0x5555)] = true := by decide +kernel

/-- The font and the text of R610, with a margin: `spacingWidths` at 4000, `printerWidths` at 5000, the flags at 6000. -/
def txtBltAfter (margin : Word) : Host.Outcome State Fault Refusal :=
  exec .txtblt (placed { machine 0 [0, 0, 0, 0, 0x100] with mds := 0 }
    ([(0x100, 1), (0x101, 3), (0x102, 0x2000), (0x104, 0x3000), (0x106, 0x7000), (0x108, 16), (0x109, margin), (0x10B, 0x7800),
      (0x3000, 0x6800), (0x3002, 0x4000), (0x3004, 0x5000), (0x3006, 0x6000), (0x3008, 0x6400), (0x300A, 8), (0x2000, 0x4120),
      (0x2001, 0x420D), (0x4006, 0x0808), (0x4010, 0x0808), (0x4020, 0x0808), (0x4021, 0x0808), (0x500D, 100), (0x5020, 100),
      (0x5041, 100), (0x5042, 100), (0x6010, 0x8000), (0x6006, 0x0040)]))

theorem test_txtblt_stop : stackIs (txtBltAfter 1000) [3, 24, 300, 1, 2] [] = true := by decide +kernel

theorem test_txtblt_margin : stackIs (txtBltAfter 250) [2, 16, 200, 1, 1] [] = true := by decide +kernel

/-- The same font and text for another function of one character at `index`: two lines high, a raster at 6800. -/
def txtBltCharacter (function index bitPos : Word) : State :=
  placed { machine 0 [index, bitPos, 0, 0, 0x100] with mds := 0 }
    [(0x100, function), (0x101, index), (0x102, 0x2000), (0x104, 0x3000), (0x106, 0x7000), (0x108, 16), (0x109, 1000), (0x10A, 3),
     (0x10B, 0x7800), (0x3000, 0x6800), (0x3002, 0x4000), (0x3004, 0x5000), (0x3006, 0x6000), (0x3008, 0x6400), (0x300A, 2),
     (0x2000, 0x4120), (0x4010, 0x0808), (0x4020, 0x0808), (0x5020, 100), (0x5041, 100), (0x6010, 0x8000), (0x6800, 0xA55A),
     (0x7001, 0x8001)]

/-- R608 by hand: eight bits of the raster on each of two lines, from bit 4, over what is there. -/
theorem test_txtblt_display : stackIs (exec .txtblt (txtBltCharacter 0 0 4)) [1, 12, 100, 0, 0] [] = true ∧
    memoryIs (exec .txtblt (txtBltCharacter 0 0 4)) [(0x7000, 0x0A50), (0x7001, 0x85A1), (0x7002, 0)] = true := by decide +kernel

/-- R605 and R609 by hand: the position of a space is stored, and the space is widened by `space`. -/
theorem test_txtblt_resolve : stackIs (exec .txtblt (txtBltCharacter 2 1 4)) [2, 15, 100, 1, 0] [] = true ∧
    memoryIs (exec .txtblt (txtBltCharacter 2 1 4)) [(0x7800, 0), (0x7801, 4)] = true := by decide +kernel

/-- R604 by hand: the last of eight columns fits a line of 16 bits from bit 8 on, not from bit 9 on, nor left of bit 0 by a kern. -/
theorem test_txtblt_display_past_line : stackIs (exec .txtblt (txtBltCharacter 0 0 8)) [1, 16, 100, 0, 0] [] = true ∧
    (match exec .txtblt (txtBltCharacter 0 0 9) with | .refused r => decide (r = .txtBltArgument) | _ => false) = true ∧
    (match exec .txtblt (placed (txtBltCharacter 0 0 0) [(0x6441, 0x8000)]) with
      | .refused r => decide (r = .txtBltArgument) | _ => false) = true := by decide +kernel

/-- Real memory that is not available at initialization is in no entry of the map, until `SM` maps it (R733). -/
theorem test_device_memory :
    let s := { machine 0 [0xA0, 0, 0xA0, 0, 0] with cfg := { Config.initial with availablePages := [⟨0, 0xA0⟩, ⟨0xA1, 0x1000⟩] } }
    s.cfg.realPage 0xA0 = true ∧ (s.readMap 0xA0).isVacant = true ∧ (s.readMap 0x9F).isVacant = false ∧
      (match exec .sm s with | .next t => decide ((t.readMap 0xA0).isVacant = false) | _ => false) = true := by decide +kernel

/-! What programs must not do, and what devices do. -/

/-- `o` is the refusal `r`. -/
def isRefused (o : Host.Outcome State Fault Refusal) (r : Refusal) : Bool :=
  match o with
  | .refused q => decide (q = r)
  | _ => false

/-- A store to and a load of the returnlink of the local frame (`ROB` may load it), code read across a bank, a frame off a quad word, and a lost instruction whose operand
byte stands in a vacant page (R79, R124, R640). -/
theorem test_refusals : isRefused (exec .w0 (machine 0 [7, 0x1FFD])) .overheadAccess = true ∧
    isRefused (exec (.rb 1) (machine 0 [0x1FFC])) .overheadAccess = true ∧ stackIs (exec (.rob 3) (machine 0 [0x2000])) [0] [] = true ∧
    isRefused (exec (.rc 0) { machine 0 [0x0100] with cb := 0x0020FF00 }) .codeCrossesBank = true ∧
    isRefused (step { machine 0 [] with lf := 0x2001 }) .misplacedContext = true ∧
    isRefused (step (withEntry (placed { machine 0 [] with pc := 0x1FF } [(0x2000FF, 0x00EC)]) 0x2001 6 0))
      (.lostInstruction "EFCB") = true := by decide +kernel

/-- A device stores between the two accesses of `RD0` and raises a wakeup (R140, D1). -/
theorem test_device_turn :
    let o := exec .rd0 { placed (machine 0 [0x1000]) data with turns := [⟨false, 0, []⟩, ⟨false, 4, [.write 0x51001 0x7777, .read 0x52000]⟩] }
    stackIs o [0x4142, 0x7777] [] = true ∧
      (match o with | .next t => decide (t.wp = 4 ∧ (t.readMap 0x520).flags = 1) | _ => false) = true := by decide +kernel

/-- A word of the code that is stored to while its segment is current: what is fetched is one of its two values (R741, D6). -/
theorem test_code_store : (match exec (.wlb 0) (machine 0 [7, 0x21, 0x20]) with
      | .next t => decide (t.codeWrites = [(0x200021, 0)]) | _ => false) = true ∧
    (match exec (.wlb 0) (machine 0 [7, 0x21, 0x40]) with | .next t => decide (t.codeWrites = []) | _ => false) = true := by
  decide +kernel

/-- A control link of each type (R623 to R625), and entry 3 of the system data table (R135). -/
theorem test_links : controlLinkType 0x12342000 = .frame ∧ controlLinkType 0x12342001 = .procedure ∧
    controlLinkType 0x12342002 = .indirect ∧ controlLinkType 0x12342003 = .procedure ∧ sdEntry Config.initial 3 = 0x206 := by
  decide +kernel

/-- A module with a link of its own in each place: the one its overhead word selects is read (R80, R622). -/
def linked (codelinks : Word) : State :=
  placed { machine 0 [] with cb := 0x00200040 } [(0x52FFD, codelinks), (0x52FFA, 0x2004), (0x52FFB, 0x1234), (0x20003E, 0x2008),
    (0x20003F, 0x5678)]

theorem test_control_links : (linked 0xFFFE).linkPlace = .globalFrame ∧ (linked 1).linkPlace = .codeSegment ∧
    (match fetchControlLink 0 (linked 0) with | .ok l _ => decide (l = 0x12342004) | _ => false) = true ∧
    (match fetchControlLink 0 (linked 1) with | .ok l _ => decide (l = 0x56782008) | _ => false) = true ∧
    (linked 1).linkAddress .codeSegment 1 = 0x20003C ∧ (linked 1).linkAddress .globalFrame 1 = 0x52FF8 := by decide +kernel

/-! States that meet the hypotheses of the statements, clause by clause, at the ends of their ranges. -/

theorem wordsFrom_append : (pre ws post : List Word) → wordsFrom (pre ++ ws ++ post) pre.length ws
  | _, [], _ => trivial
  | pre, w :: ws, post => by
    refine ⟨by simp, ?_⟩
    have h := wordsFrom_append (pre ++ [w]) ws post
    simpa using h

/-- Any words that fit stand on the stack of the start state. -/
theorem holds_machine (base : Nat) (ws : List Word) : (machine base ws).holds base ws := by
  refine ⟨rfl, ?_, ?_⟩
  · simp [machine]
    try omega
  · have := wordsFrom_append (List.replicate base 0x7777) ws (List.replicate (14 - base - ws.length) 0x8888)
    simpa [machine] using this

/-- With the map and the parameters of reset every page is mapped to the real page of its number, which holds memory. -/
theorem entry_all {s : State} (hc : s.cfg = Config.initial) (hm : s.map = []) (va : Long) :
    s.entryOf va = ⟨0, BitVec.ofNat 32 (virtualPageOf va)⟩ ∧ s.realAddress va = virtualPageOf va * 256 + pageOffsetOf va ∧
      s.cfg.realPage (virtualPageOf va) = true := by
  have hv : virtualPageOf va < 16777216 := (va.extractLsb' 8 24).isLt
  have hp : Config.initial.virtualPage (virtualPageOf va) = true := by
    have h2 : virtualPageOf va * 256 < 2 ^ Config.initial.vaBits := by show _ < 2 ^ 32; omega
    simp only [Config.virtualPage, h2, hv, decide_true, Bool.and_self, Nat.reducePow]
  have hr : Config.initial.realPage (virtualPageOf va) = true := by
    have h2 : virtualPageOf va * 256 < 2 ^ Config.initial.raBits := by show _ < 2 ^ 32; omega
    have h3 : Config.initial.realPages = [⟨0, 0x1000000⟩] := rfl
    simp [Config.realPage, h2, h3, hv, PageRange.holds]
  have ha : Config.initial.availablePage (virtualPageOf va) = true := by
    have h3 : Config.initial.availablePages = [⟨0, 0x1000000⟩] := rfl
    simp [Config.availablePage, hr, h3, hv, PageRange.holds]
  have he : s.entryOf va = ⟨0, BitVec.ofNat 32 (virtualPageOf va)⟩ := by
    simp [State.entryOf, State.readMap, hc, hm, hp, sparseGet, MapEntry.initial, ha]
  exact ⟨he, by simp only [State.realAddress, he, BitVec.toNat_ofNat]; omega, by rw [hc, hr]⟩

/-- There every address can be written. -/
theorem writable_all {s : State} (hc : s.cfg = Config.initial) (hm : s.map = []) (va : Long) : s.writable va := by
  obtain ⟨he, hra, hr⟩ := entry_all hc hm va
  refine ⟨⟨by simp [he, MapEntry.isVacant, vacantFlags], ?_⟩, by simp [he, MapEntry.isProtected]⟩
  have hd : s.realAddress va / 256 = virtualPageOf va := by
    have := (va.extractLsb' 0 8).isLt
    simp only [hra, pageOffsetOf]; omega
  rw [hd, hr]

/-- There every address names its own word. -/
theorem realAddress_all {s : State} (hc : s.cfg = Config.initial) (hm : s.map = []) (va : Long) : s.realAddress va = va.toNat := by
  have h1 : virtualPageOf va = va.toNat / 256 := by
    simp only [virtualPageOf, BitVec.extractLsb'_toNat, Nat.shiftRight_eq_div_pow]
    exact Nat.mod_eq_of_lt (by have := va.isLt; omega)
  have h2 : pageOffsetOf va = va.toNat % 256 := by simp [pageOffsetOf, BitVec.extractLsb'_toNat]
  rw [(entry_all hc hm va).2.1, h1, h2]
  omega

theorem realAddress_inj {s : State} (hc : s.cfg = Config.initial) (hm : s.map = []) (va vb : Long)
    (h : s.realAddress va = s.realAddress vb) : va = vb := by
  rw [realAddress_all hc hm, realAddress_all hc hm] at h
  exact BitVec.eq_of_toNat_eq h

theorem storable_of {s : State} (hc : s.cfg = Config.initial) (hm : s.map = []) {va : Long} (h : s.isOverhead va = false) :
    s.storable va := ⟨writable_all hc hm va, h⟩

/-- A plain load at every address of a list, or a plain store there, succeeds. -/
def readsOk (s : State) (vas : List Long) : Bool :=
  vas.all fun va => !(s.entryOf va).isVacant && s.cfg.realPage (s.realAddress va / 256) && !(s.isOverhead va)

def storesOk (s : State) (vas : List Long) : Bool :=
  readsOk s vas && vas.all fun va => !(s.entryOf va).isProtected

theorem readable_mem {s : State} {vas : List Long} (h : readsOk s vas = true) : s.readableAll vas := fun va hv => by
  simpa [State.readable, State.present] using List.all_eq_true.1 h va hv

theorem storable_mem {s : State} {vas : List Long} (h : storesOk s vas = true) : ∀ va ∈ vas, s.storable va := fun va hv => by
  have h := Bool.and_eq_true_iff.1 h
  have hr := readable_mem h.1 va hv
  exact ⟨⟨hr.1, by simpa using List.all_eq_true.1 h.2 va hv⟩, hr.2⟩

theorem readable_one {s : State} {va : Long} (h : readsOk s [va] = true) : s.readable va := readable_mem h va (by simp)

theorem storable_one {s : State} {va : Long} (h : storesOk s [va] = true) : s.storable va := storable_mem h va (by simp)

/-- No address of a list is an overhead word's. -/
def clearOk (s : State) (vas : List Long) : Bool := vas.all fun va => !(s.isOverhead va)

theorem clear_of {s : State} {vas : List Long} (h : clearOk s vas = true) : s.clear vas := fun va hv => by
  simpa using List.all_eq_true.1 h va hv

theorem copyable_of {s : State} {ps : List (Long × Long)} (h : (readsOk s (ps.map Prod.fst) && storesOk s (ps.map Prod.snd)) = true) :
    s.copyable ps := fun _ hp =>
  have h := Bool.and_eq_true_iff.1 h
  ⟨readable_mem h.1 _ (List.mem_map_of_mem hp), storable_mem h.2 _ (List.mem_map_of_mem hp)⟩

theorem byteCopyable_of {s : State} {ps : List (BytePosition × BytePosition)}
    (h : (readsOk s (ps.map fun p => p.1.address) && storesOk s (ps.map fun p => p.2.address)) = true) : s.byteCopyable ps :=
  fun _ hp =>
    have h := Bool.and_eq_true_iff.1 h
    ⟨readable_mem h.1 _ (List.mem_map_of_mem (f := fun p : BytePosition × BytePosition => p.1.address) hp),
      storable_mem h.2 _ (List.mem_map_of_mem (f := fun p : BytePosition × BytePosition => p.2.address) hp)⟩

/-- The code byte `k` bytes after `PC` is fetched as memory has it. -/
theorem fetchable_of {s : State} {k : Nat}
    (h : (s.codeInBank ((s.pc + BitVec.ofNat 16 k) >>> 1) && readsOk s [s.codeWordAt k] && decide (s.codeWrites = [])) = true) :
    s.fetchable k := by
  simp only [Bool.and_eq_true, decide_eq_true_eq] at h
  exact ⟨⟨h.1.1, readable_one h.1.2⟩, fun p hp => by simp [h.2] at hp⟩

/-- The next state of an outcome. -/
def nextOf (o : Host.Outcome State Fault Refusal) : Option State :=
  match o with
  | .next t => some t
  | _ => none

theorem exists_next {o : Host.Outcome State Fault Refusal} (h : (nextOf o).isSome = true) : ∃ t, o = .next t := by
  cases o with
  | next t => exact ⟨t, rfl⟩
  | fault f => simp [nextOf] at h
  | refused r => simp [nextOf] at h

theorem holds_withEntry {s : State} {base : Nat} {ws : List Word} (vp : Nat) (flags : Word) (real : Long) (h : s.holds base ws) :
    (withEntry s vp flags real).holds base ws := by
  unfold withEntry State.writeMap
  split <;> exact h

/-- A machine with two opcode bytes exchanged that implements neither `ADD` nor `DMUL`; `MW`, whose routine is lost, is listed in vain. -/
def otherConfig : Config :=
  { Config.initial with opcodes := ⟨[(0x0D, 0x18)], [], []⟩, unimplemented := ⟨[0xB5], [0x30, 0x02], []⟩ }

theorem witness_DecodeEncode : Instr.wellFormed (.rlipf ⟨2, 1⟩ ⟨4, 3⟩) = true ∧ Instr.wellFormed (.shiftsb 0xF1) = true ∧
    Instr.wellFormed (.rob 4) = true ∧ Instr.wellFormed (.r0f ⟨15, 0⟩) = true ∧
    (((Instr.llb 5).mapSecond otherConfig.opcodes.second).wellFormed = true ∧ encodeFor otherConfig.opcodes (.llb 5) = [0x18, 5] ∧
      otherConfig.unimplemented.lacksSingle 0x0D = false ∧ otherConfig.unimplemented.lacksExtended 0x0D 5 = false ∧
      decodeBytesFor otherConfig [0x18, 5] = .instr (.llb 5)) ∧
    (otherConfig.unimplemented.lacksSingle 0xB5 = true ∧ otherConfig.unimplemented.lacksExtended 0xF8 0x30 = true) ∧
    (((Instr.mw).mapSecond otherConfig.opcodes.second).wellFormed = true ∧ Instr.isLost .mw = true ∧
      encodeFor otherConfig.opcodes .mw = [0xF8, 0x02] ∧ decodeBytesFor otherConfig [0xF8, 0x02] = .instr .mw) := by
  decide +kernel

theorem witness_EncodeDecode : decode 0x6A 0x21 0x43 = .instr (.rlipf ⟨2, 1⟩ ⟨4, 3⟩) ∧ decode 0xF8 0x31 0x00 = .instr .sdiv ∧
    decode 0xB5 0x00 0x00 = .instr .add := by decide +kernel

/-- `LLB 5` at `PC`. -/
def codeState : State := (machine 1 [3]).withFetchWord 16 0x0D05

/-- The checks let a step through to its instruction. -/
def passes (s : State) : Bool :=
  let t := s.withEnvironment
  s.exception.isNone && s.scan.isNone && !s.timeoutNow && !interruptPending t && t.running && t.contextLegal && decide t.undisturbed

theorem witness_StepRunsInstruction : passes codeState = true ∧
    (let t := codeState.withEnvironment
     fetchLengthFor t.cfg (t.codeByte 0) (t.codeByte 1) = 2 ∧
     decodeFor t.cfg (t.codeByte 0) (t.codeByte 1) (t.codeByte 2) = .instr (.llb 5) ∧ t.fetchable 0 ∧ t.fetchable 1) :=
  ⟨by decide +kernel, by decide +kernel, by decide +kernel, fetchable_of (by decide +kernel), fetchable_of (by decide +kernel)⟩

theorem witness_UnassignedOpcodes : (∀ b ∈ ([0x7E, 0xFE, 0x00, 0xFF] : List Nat),
      let s := (machine 1 [3]).withFetchWord 8 b
      passes s = true ∧ (s.withEnvironment.codeByte 0).toNat = b) ∧
    decodeFor Config.initial 0x7E 0 0 = .unassigned 0x7E ∧ decodeFor Config.initial 0xFE 0 0 = .unassigned 0xFE ∧
    ((machine 1 [3]).withFetchWord 8 0x7E).withEnvironment.fetchable 0 ∧
    ((machine 1 [3]).withFetchWord 8 0xFF).withEnvironment.fetchable 0 :=
  ⟨by decide +kernel, by decide +kernel, by decide +kernel, fetchable_of (by decide +kernel), fetchable_of (by decide +kernel)⟩

theorem witness_ChecksBeforeInstruction :
    (let s := { machine 1 [3] with wp := 4, wdc := 0 }
     s.exception = none ∧ s.scan = none ∧ interruptPending s.withEnvironment = true) ∧
    (let s := { machine 1 [3] with inputs := [⟨1, 0, true, none, [], []⟩] }
     s.exception = none ∧ s.scan = none ∧ s.timeoutNow = true) ∧
    (let s := { machine 1 [3] with running := false }
     s.exception = none ∧ s.scan = none ∧ interruptPending s.withEnvironment = false ∧ s.timeoutNow = false ∧
     s.withEnvironment.running = false) ∧
    (let s := { machine 0 [] with scan := some ⟨0x100, [], ⟨1, 0, 0, 0⟩, 0⟩ }
     s.exception = none ∧ s.scan = some ⟨0x100, [], ⟨1, 0, 0, 0⟩, 0⟩) ∧
    (machine 1 [3]).cfg.interruptRule = .wakeupsEnabled := by decide +kernel

/-- `LIB` in the last byte of a code page, the page `vp` vacant. -/
def faultState (vp : Nat) : State := withEntry (placed { machine 1 [3] with pc := 0x1FF } [(0x2000FF, 0x00CD)]) vp 6 0

theorem witness_FetchFault :
    (let s := faultState 0x2001
     let t := s.withEnvironment
     passes s = true ∧ 1 < fetchLengthFor t.cfg (t.codeByte 0) (t.codeByte 1) ∧ t.fetchable 0 ∧
     t.codeInBank ((t.pc + BitVec.ofNat 16 1) >>> 1) = true ∧ (t.entryOf (t.codeWordAt 1)).isVacant = true) ∧
    (let s := faultState 0x2000
     let t := s.withEnvironment
     passes s = true ∧ 0 < fetchLengthFor t.cfg (t.codeByte 0) (t.codeByte 1) ∧
     t.codeInBank ((t.pc + BitVec.ofNat 16 0) >>> 1) = true ∧ (t.entryOf (t.codeWordAt 0)).isVacant = true) :=
  ⟨⟨by decide +kernel, by decide +kernel, fetchable_of (by decide +kernel), by decide +kernel, by decide +kernel⟩, by decide +kernel⟩

theorem witness_Exceptions : ({ machine 1 [3] with exception := some (.trap .boundsTrap) } : State).exception =
      some (.trap .boundsTrap) ∧
    ({ machine 1 [3] with exception := some (.fault .pageFault 7) } : State).exception = some (.fault .pageFault 7) ∧
    ({ machine 1 [3] with exception := some .reschedule } : State).exception = some .reschedule := ⟨rfl, rfl, rfl⟩

theorem witness_InvariantKept : State.Inv codeState ∧ ∃ t, step codeState = .next t :=
  ⟨{ memoryWf := by decide +kernel, mapWf := by decide +kernel, spBound := by decide +kernel, savedSpBound := by decide +kernel
     mdsLow := by decide +kernel, pidHigh := by decide +kernel, mapFlags := by decide +kernel, mapPages := by decide +kernel },
   exists_next (by decide +kernel)⟩

theorem witness_RegisterOwnership : (∃ t, exec .wrmds (machine 1 [7]) = .next t) ∧ (∃ t, exec .add (machine 1 [7, 8]) = .next t) ∧
    (machine 1 [7, 8]).undisturbed ∧ ∃ t, step codeState = .next t :=
  ⟨exists_next (by decide +kernel), exists_next (by decide +kernel), rfl, exists_next (by decide +kernel)⟩

/-- A machine whose environment pulses, wakes up, keeps its books and accesses memory, before a step and during it. -/
def disturbed : State :=
  withEntry (withEntry { machine 1 [7] with
      inputs := [⟨1, 4, false, some (2, 3), [.read 0x51000, .write 0x51001 9], [⟨false, 8, [.write 0x51002 5]⟩]⟩]
      turns := [⟨false, 8, [.write 0x51002 5]⟩] } 0x520 6 0) 0x530 4 0x530

theorem witness_Environment : (machine 1 [7]).inputs = [] ∧ (machine 1 [7]).turns = [] ∧
    disturbed.inputs = ⟨1, 4, false, some (2, 3), [.read 0x51000, .write 0x51001 9], [⟨false, 8, [.write 0x51002 5]⟩]⟩ :: [] ∧
    disturbed.turns = ⟨false, 8, [.write 0x51002 5]⟩ :: [] ∧ disturbed.writable 0x51002 ∧ ¬ disturbed.present 0x52000 ∧
    disturbed.present 0x53000 ∧ ¬ disturbed.writable 0x53000 ∧ ¬ disturbed.inWord 0x51002 0xA2000 := by
  unfold State.writable State.present State.inWord
  decide +kernel

/-- The first and the last overhead word of either frame among them. -/
theorem witness_AccessRules : (machine 1 [3]).readable 0 ∧ (machine 1 [3]).storable 0xFFFFFFFF ∧
    (machine 1 [3]).cfg.residentPage (virtualPageOf 0) = false ∧ (machine 1 [3]).cfg.residentPage (virtualPageOf 0xFFFFFFFF) = false ∧
    ((withEntry (machine 1 [3]) 0x520 6 0).takeTurn.entryOf 0x52000).isVacant = true ∧
    ((withEntry (machine 1 [3]) 0x520 4 0x520).takeTurn.entryOf 0x520FF).isVacant = false ∧
    ((withEntry (machine 1 [3]) 0x520 4 0x520).takeTurn.entryOf 0x520FF).isProtected = true ∧
    ∀ va ∈ ([0x51FFC, 0x51FFF, 0x52FFC, 0x52FFF] : List Long), (machine 1 [3]).writable va ∧ (machine 1 [3]).isOverhead va = true :=
  ⟨readable_one (by decide +kernel), storable_of rfl rfl (by decide +kernel), by decide +kernel, by decide +kernel, by decide +kernel,
    by decide +kernel, by decide +kernel, fun va hv => ⟨writable_all rfl rfl _, of_decide_eq_true (List.all_eq_true.1
      (by decide +kernel : ([0x51FFC, 0x51FFF, 0x52FFC, 0x52FFF] : List Long).all fun va => decide ((machine 1 [3]).isOverhead va = true))
      va hv)⟩⟩

theorem witness_ReadAfterWrite : Memory.wf (placed (machine 1 [3]) data).mem = true ∧ (placed (machine 1 [3]) data).undisturbed ∧
    (placed (machine 1 [3]) data).writable 0xFFFFFFFF ∧ (placed (machine 1 [3]) data).storable (0x51000 + ((0x5 : Long) >>> 1)) ∧
    Map.wf (withEntry (machine 1 [3]) 0x520 4 0x520).cfg (withEntry (machine 1 [3]) 0x520 4 0x520).map = true ∧
    Config.initial.virtualPage 0 = true ∧ Config.initial.virtualPage 0xFFFFFF = true ∧ vacantFlags 7 = false :=
  ⟨by decide +kernel, rfl, writable_all rfl rfl _, storable_of rfl rfl (by decide +kernel), by decide +kernel, by decide +kernel,
    by decide +kernel, by decide⟩

theorem witness_MapInstructions :
    (let s := withEntry (machine 1 [0xA0, 0, 0x123, 0, 0]) 0x123 6 0
     s.holds 1 [0xA0, 0, 0x123, 0, 0] ∧ aliased s 0xA0 0x123 = false ∧ codePageViolation s 0xA0 0 = false) ∧
    (let s := machine 1 [0, 0x100, 0x123, 0, 0]
     s.holds 1 [0, 0x100, 0x123, 0, 0] ∧ s.cfg.virtualPage (Long.ofHalves 0x100 0).toNat = false) ∧
    (let s := machine 1 [0xA0, 0]
     s.holds 1 [0xA0, 0] ∧ s.room 1 ∧ (s.readMap 0xA0).isVacant = false) ∧
    (let s := machine 1 [0xA0, 0, 4]
     s.holds 1 [0xA0, 0, 4] ∧ (s.readMap 0xA0).isVacant = false ∧ aliased s 0xA0 0xA0 = false ∧
     codePageViolation s 0xA0 4 = false) ∧
    (let s := withEntry (machine 1 [0xA0, 0]) 0xA0 6 0
     s.holds 1 [0xA0, 0] ∧ s.room 1 ∧ (s.readMap 0xA0).isVacant = true) ∧
    (let s := withEntry (machine 1 [0xA0, 0, 4]) 0xA0 6 0
     s.holds 1 [0xA0, 0, 4] ∧ (s.readMap 0xA0).isVacant = true) :=
  ⟨⟨holds_withEntry _ _ _ (holds_machine 1 _), by decide +kernel, by decide +kernel⟩, ⟨holds_machine 1 _, by decide +kernel⟩,
   ⟨holds_machine 1 _, by unfold State.room; decide +kernel, by decide +kernel⟩,
   ⟨holds_machine 1 _, by decide +kernel, by decide +kernel, by decide +kernel⟩,
   ⟨holds_withEntry _ _ _ (holds_machine 1 _), by unfold State.room; decide +kernel, by decide +kernel⟩,
   ⟨holds_withEntry _ _ _ (holds_machine 1 _), by decide +kernel⟩⟩

theorem witness_PointerAndOverhead : (machine 12 [0]).holds 12 [0] ∧ (machine 12 [0]).room 1 ∧ (machine 1 [0x2004]).holds 1 [0x2004] ∧
    (∀ va, (machine 1 [0x2004]).present va) ∧ (machine 1 [7, 0x2004]).holds 1 [7, 0x2004] ∧
    (∀ va, (machine 1 [7, 0x2004]).writable va) ∧ (machine 1 [7, 0x2004]).undisturbed ∧ 1 ≤ (1 : Byte).toNat ∧ (4 : Byte).toNat ≤ 4 :=
  ⟨holds_machine _ _, by unfold State.room; decide +kernel, holds_machine _ _, fun va => (writable_all rfl rfl va).1,
    holds_machine _ _, writable_all rfl rfl, rfl, by decide, by decide⟩

theorem witness_Registers : (machine 13 []).room 1 ∧ (machine 12 []).room 2 ∧ (machine 1 [0xFFFF]).holds 1 [0xFFFF] ∧
    (machine 1 [0xFFFF]).undisturbed ∧ (machine 1 [0x5678, 0x1234]).holds 1 [0x5678, 0x1234] ∧
    (({ machine 1 [0xFFFF] with turns := [⟨false, 4, []⟩] } : State).holds 1 [0xFFFF] ∧
      ({ machine 1 [0xFFFF] with turns := [⟨false, 4, []⟩] } : State).turns = ⟨false, 4, []⟩ :: []) := by
  refine ⟨?_, ?_, holds_machine _ _, rfl, holds_machine _ _, holds_machine _ _, rfl⟩ <;> unfold State.room <;> decide +kernel

theorem witness_StackRearranging : (machine 13 []).room 1 ∧ (machine 12 []).room 2 ∧ (machine 12 [5]).holds 12 [5] ∧
    (machine 12 [5]).room 1 ∧ (machine 10 [5, 6]).holds 10 [5, 6] ∧ (machine 10 [5, 6]).room 2 ∧
    (machine 10 [5, 6, 7, 8]).holds 10 [5, 6, 7, 8] := by
  refine ⟨?_, ?_, holds_machine _ _, ?_, holds_machine _ _, ?_, holds_machine _ _⟩ <;> unfold State.room <;> decide +kernel

theorem witness_Checks : ((machine 1 [0xFFFE, 0xFFFF]).holds 1 [0xFFFE, 0xFFFF] ∧ (0xFFFE : Word).toNat < (0xFFFF : Word).toNat) ∧
    (machine 1 [0xFFFF, 0, 0, 1]).holds 1 [0xFFFF, 0, 0, 1] ∧ (machine 1 [1, 0]).holds 1 [1, 0] ∧
    ((machine 1 [10, 10]).holds 1 [10, 10] ∧ (10 : Word).toNat ≤ (10 : Word).toNat) ∧ (machine 1 [0, 1, 0, 1]).holds 1 [0, 1, 0, 1] ∧
    (machine 1 [0, 0]).holds 1 [0, 0] ∧ (machine 1 [7, 0]).holds 1 [7, 0] ∧ (machine 1 [7, 1, 0]).holds 1 [7, 1, 0] ∧
    ((machine 1 [0, 2, 2]).holds 1 [0, 2, 2] ∧ (2 : Word) ≠ 0 ∧ (2 : Word).toNat ≤ (2 : Word).toNat) ∧
    (machine 1 [1, 0, 0, 0]).holds 1 [1, 0, 0, 0] :=
  ⟨⟨holds_machine _ _, by decide⟩, holds_machine _ _, holds_machine _ _, ⟨holds_machine _ _, by decide⟩, holds_machine _ _,
    holds_machine _ _, holds_machine _ _, holds_machine _ _, ⟨holds_machine _ _, by decide, by decide⟩, holds_machine _ _⟩

theorem witness_UnaryResults : (machine 1 [0x8000]).holds 1 [0x8000] ∧ (machine 1 [0xFFFF, 0xFFFF]).holds 1 [0xFFFF, 0xFFFF] :=
  ⟨holds_machine _ _, holds_machine _ _⟩

theorem witness_BinaryResults : (machine 1 [0xFFFF, 1]).holds 1 [0xFFFF, 1] ∧
    (machine 1 [0xFFFF, 0, 1, 0]).holds 1 [0xFFFF, 0, 1, 0] := ⟨holds_machine _ _, holds_machine _ _⟩

theorem witness_MixedResults : ((machine 12 [0x8000]).holds 12 [0x8000] ∧ (machine 12 [0x8000]).room 1) ∧
    (-15 ≤ (0xF1 : Byte).toInt ∧ (0x0F : Byte).toInt ≤ 15) ∧ (machine 1 [0xFFFF, 1, 0]).holds 1 [0xFFFF, 1, 0] ∧
    (machine 1 [0, 0x8000, 0xFFFF, 0x7FFF]).holds 1 [0, 0x8000, 0xFFFF, 0x7FFF] :=
  ⟨⟨holds_machine _ _, by unfold State.room; decide +kernel⟩, by decide, holds_machine _ _, holds_machine _ _⟩

theorem witness_MultiplyDivideResults : ((machine 1 [0x8000, 0xFFFF]).holds 1 [0x8000, 0xFFFF] ∧ (0xFFFF : Word) ≠ 0) ∧
    ((machine 1 [0xFFFF, 0xFFFE, 0xFFFF]).holds 1 [0xFFFF, 0xFFFE, 0xFFFF] ∧ (0xFFFE : Word).toNat < (0xFFFF : Word).toNat) ∧
    (machine 1 [0, 0x8000, 0xFFFF, 0xFFFF]).holds 1 [0, 0x8000, 0xFFFF, 0xFFFF] ∧ (machine 1 [1, 2, 0, 1]).holds 1 [1, 2, 0, 1] :=
  ⟨⟨holds_machine _ _, by decide⟩, ⟨holds_machine _ _, by decide⟩, holds_machine _ _, holds_machine _ _⟩

theorem witness_ShiftAndDivisionRules : (2 : Word) ≠ 0 ∧ ¬ ((0x8000 : Word) = 0x8000 ∧ (2 : Word) = 0xFFFF) ∧ (0xFFFF : Word) ≠ 0 := by
  decide

theorem witness_StackErrors : ((machine 0 []).sp < 1 ∧ (machine 3 []).sp < 4 ∧ (machine 4 []).sp < 5 ∧ (machine 6 []).sp < 7) ∧
    ((machine 14 []).stack.length < (machine 14 []).sp + 1 ∧ (machine 13 []).stack.length < (machine 13 []).sp + 2) ∧
    ((machine 0 []).undisturbed ∧ (machine 0 []).sp = 0 ∧
      ∀ va ∈ ([0x2000, 0x2001, 0x20FF, 0x2100, 0x30FF, 0x3100] : List Word).map (machine 0 []).lengthenPointer, (machine 0 []).storable va) ∧
    (let s := placed (machine 0 []) data
     s.undisturbed ∧ s.sp = 0 ∧ s.readableAll [0x52002, 0x52003, 0x52004, 0x52005] ∧ s.lengthenPointer (s.wordAt (s.lengthenPointer (s.lf + 2)) + 3) = 0x51003 ∧
     s.storable 0x51003 ∧ s.longAt (s.lengthenPointer (s.lf + 4)) + 2 = 0x80002 ∧ s.storable 0x80002 ∧ s.storable 0x80003) ∧
    ((machine 0 [0xFFFF]).undisturbed ∧ (machine 0 [0xFFFF]).holds 0 [0xFFFF] ∧ (machine 0 [0xFFFF]).storable 0x5FFFF ∧
      (machine 0 [0xFFFF]).storable 0x50000) ∧
    ((machine 0 [0xFFFF, 0x20]).undisturbed ∧ (machine 0 [0xFFFF, 0x20]).holds 0 [0xFFFF, 0x20] ∧
      (machine 0 [0xFFFF, 0x20]).storable 0x20FFFF ∧ (machine 0 [0xFFFF, 0x20]).storable 0x210000) ∧
    ((machine 14 []).undisturbed ∧ (machine 14 []).stack.length ≤ (machine 14 []).sp ∧ (machine 14 []).readableAll
      [0x52000, 0x520FF, 0x53000, 0x530FF, 0x52002, 0x52003, 0x53002, 0x53003, 0x50000, 0x50001, 0x50002, 1]) ∧
    (⟨4, 3⟩ : FieldSpec).wellFormed = true :=
  ⟨by decide +kernel, by decide +kernel, ⟨rfl, rfl, storable_mem (by decide +kernel)⟩,
    ⟨rfl, rfl, readable_mem (by decide +kernel), by decide +kernel, storable_of rfl rfl (by decide +kernel), by decide +kernel,
      storable_of rfl rfl (by decide +kernel), storable_of rfl rfl (by decide +kernel)⟩,
    ⟨rfl, holds_machine _ _, storable_of rfl rfl (by decide +kernel), storable_of rfl rfl (by decide +kernel)⟩,
    ⟨rfl, holds_machine _ _, storable_of rfl rfl (by decide +kernel), storable_of rfl rfl (by decide +kernel)⟩,
    ⟨rfl, by decide +kernel, readable_mem (by decide +kernel)⟩, by decide⟩

theorem witness_UnconditionalAndIndexedJumps : (machine 1 [0x246]).holds 1 [0x246] ∧
    ((machine 1 [4, 4]).holds 1 [4, 4] ∧ (4 : Word).toNat ≤ (4 : Word).toNat) ∧
    ((machine 1 [3, 4]).holds 1 [3, 4] ∧ (3 : Word).toNat < (4 : Word).toNat ∧ (machine 1 [3, 4]).undisturbed ∧
      (machine 1 [3, 4]).codeReadable (0xFFF0 + ((3 : Word) >>> 1)) ∧ (machine 1 [3, 4]).codeReadable (0xFFFC + 3)) :=
  ⟨holds_machine _ _, ⟨holds_machine _ _, by decide⟩, holds_machine _ _, by decide, rfl,
    ⟨by decide +kernel, readable_one (by decide +kernel)⟩, by decide +kernel, readable_one (by decide +kernel)⟩

theorem witness_ConditionalJumps : (machine 1 [0]).holds 1 [0] ∧ (machine 1 [0x8000, 0x7FFF]).holds 1 [0x8000, 0x7FFF] ∧
    (machine 1 [1, 2, 1, 3]).holds 1 [1, 2, 1, 3] := ⟨holds_machine _ _, holds_machine _ _, holds_machine _ _⟩

theorem witness_StackAndJumpFrames : (∃ t, exec .add (machine 1 [7, 8]) = .next t) ∧ (∃ t, exec .dup (machine 1 [7]) = .next t) ∧
    (∃ t, exec .sdiv (machine 1 [7, 0]) = .next t) ∧ (∃ t, exec (.jb 0x80) (machine 1 []) = .next t) ∧
    (∃ t, exec .jz3 (machine 1 [0]) = .next t) ∧ (machine 1 [2, 5]).undisturbed ∧ ∃ t, exec (.jiw 0x30) (machine 1 [2, 5]) = .next t :=
  ⟨exists_next (by decide +kernel), exists_next (by decide +kernel), exists_next (by decide +kernel),
    exists_next (by decide +kernel), exists_next (by decide +kernel), rfl, exists_next (by decide +kernel)⟩

theorem witness_ImmediatesAndAddresses : (machine 13 []).room 1 ∧ (machine 12 []).room 2 := by
  constructor <;> unfold State.room <;> decide +kernel

theorem witness_FrameLoads : (machine 13 []).room 1 ∧ (machine 12 []).room 2 ∧ (machine 13 []).undisturbed ∧
    (machine 12 []).undisturbed ∧ (machine 13 []).readableAll [0x52000, 0x5200B, 0x520FF, 0x53000, 0x53002, 0x530FF] ∧
    (machine 12 []).readableAll [0x52000, 0x52001, 0x5200A, 0x5200B, 0x520FF, 0x52100, 0x53000, 0x53001, 0x530FF, 0x53100] := by
  refine ⟨?_, ?_, rfl, rfl, readable_mem (by decide +kernel), readable_mem (by decide +kernel)⟩ <;> unfold State.room <;> decide +kernel

/-- The first and the last word that an operand byte reaches, in both frames; a double store at each. -/
theorem witness_FrameStores : (machine 1 [7]).undisturbed ∧ (machine 1 [7]).holds 1 [7] ∧ (machine 1 [7, 8]).undisturbed ∧
    (machine 1 [7, 8]).holds 1 [7, 8] ∧ ∀ ws ∈ ([[7], [7, 8]] : List (List Word)),
      ∀ va ∈ ([0x2000, 0x2001, 0x20FF, 0x2100, 0x3000, 0x3001, 0x30FF, 0x3100] : List Word).map (machine 1 ws).lengthenPointer,
      (machine 1 ws).storable va := by
  refine ⟨rfl, holds_machine _ _, rfl, holds_machine _ _, fun ws hw => storable_mem ?_⟩
  rcases List.mem_cons.1 hw with rfl | h
  · decide +kernel
  · cases List.mem_singleton.1 h
    decide +kernel

theorem witness_DirectReads : (machine 12 [0xFFFF]).holds 12 [0xFFFF] ∧ (machine 12 [0xFFFF]).room 1 ∧ (machine 12 [0xFFFF]).undisturbed ∧
    (machine 12 [0xFFFF]).readableAll [0x5FFFF, 0x50000, 0x500FE, 0x500FF] ∧ (machine 12 [0xFFFF]).codeReadable (0xFFFF + 0) ∧
    (machine 1 [0xFFFF, 1]).holds 1 [0xFFFF, 1] ∧ (machine 1 [0xFFFF, 1]).undisturbed ∧
    (machine 1 [0xFFFF, 1]).readableAll [0x1FFFF, 0x20000, 0x200FE, 0x200FF] :=
  ⟨holds_machine _ _, by unfold State.room; decide +kernel, rfl, readable_mem (by decide +kernel),
    ⟨by decide +kernel, readable_one (by decide +kernel)⟩, holds_machine _ _, rfl, readable_mem (by decide +kernel)⟩

/-- Pointers at the ends of their ranges: short FFFF, whose second word wraps to 0, and long FFFFFFFF. -/
theorem witness_DirectWrites : ((machine 1 [7, 0xFFFF]).holds 1 [7, 0xFFFF] ∧ (machine 1 [0xFFFF, 7]).holds 1 [0xFFFF, 7] ∧
      (machine 1 [7, 0xFFFF, 0]).holds 1 [7, 0xFFFF, 0] ∧ (machine 1 [7, 8, 0xFFFF]).holds 1 [7, 8, 0xFFFF] ∧
      (machine 1 [0xFFFF, 7, 8]).holds 1 [0xFFFF, 7, 8] ∧ (machine 1 [0xFFFF, 0xFFFF, 7]).holds 1 [0xFFFF, 0xFFFF, 7] ∧
      (machine 1 [7, 8, 0xFFFF, 0xFFFF]).holds 1 [7, 8, 0xFFFF, 0xFFFF] ∧
      (machine 1 [0xFFFF, 0xFFFF, 7, 8]).holds 1 [0xFFFF, 0xFFFF, 7, 8]) ∧
    ∀ ws ∈ ([[7, 0xFFFF], [0xFFFF, 7], [7, 0xFFFF, 0], [7, 8, 0xFFFF], [0xFFFF, 7, 8], [0xFFFF, 0xFFFF, 7], [7, 8, 0xFFFF, 0xFFFF],
        [0xFFFF, 0xFFFF, 7, 8]] : List (List Word)), (machine 1 ws).undisturbed ∧
      ∀ va ∈ ([0x5FFFF, 0x50000, 0x0000FFFF, 0xFFFFFFFF, 0] : List Long), (machine 1 ws).storable va := by
  refine ⟨⟨holds_machine _ _, holds_machine _ _, holds_machine _ _, holds_machine _ _, holds_machine _ _, holds_machine _ _,
    holds_machine _ _, holds_machine _ _⟩, fun ws _ => ⟨rfl, fun va hv => storable_of rfl rfl ?_⟩⟩
  exact (List.all_eq_true.1 (by decide +kernel : ([0x5FFFF, 0x50000, 0x0000FFFF, 0xFFFFFFFF, 0] : List Long).all
    fun va => decide ((machine 1 []).isOverhead va = false)) va hv |> of_decide_eq_true : (machine 1 []).isOverhead va = false)

/-- The reads and the writes through the short pointer in local 2 and the long one in locals 4 and 5 (`data`). -/
theorem witness_IndirectReadsAndWrites : (placed (machine 13 []) data).room 1 ∧ (placed (machine 12 []) data).room 2 ∧
    (placed (machine 13 []) data).undisturbed ∧ (placed (machine 12 []) data).undisturbed ∧
    (placed (machine 13 []) data).readableAll [0x52000, 0x51111, 0x51114, 0x52002, 0x51003, 0x53001, 0x52004, 0x52005, 0x80002, 0x53004,
      0x53005, 0x80004] ∧
    (placed (machine 12 []) data).readableAll [0x52000, 0x51111, 0x51112, 0x52002, 0x51003, 0x51004, 0x52004, 0x52005, 0x80002, 0x80003] ∧
    (placed (machine 1 [7]) data).holds 1 [7] ∧ (placed (machine 1 [7]) data).undisturbed ∧
    (placed (machine 1 [7]) data).readableAll [0x52002, 0x52004, 0x52005] ∧ (placed (machine 1 [7]) data).storable 0x51003 ∧
    (placed (machine 1 [7]) data).storable 0x80002 ∧ (placed (machine 1 [7, 8]) data).holds 1 [7, 8] ∧
    (placed (machine 1 [7, 8]) data).undisturbed ∧ (placed (machine 1 [7, 8]) data).readableAll [0x52004, 0x52005] ∧
    (placed (machine 1 [7, 8]) data).storable 0x80003 ∧ (placed (machine 1 [7, 8]) data).storable 0x80002 ∧
    (let s := placed (machine 1 [7]) data
     s.lengthenPointer (s.wordAt (s.lengthenPointer (s.lf + 2)) + 3) = 0x51003 ∧ s.longAt (s.lengthenPointer (s.lf + 4)) + 2 = 0x80002) :=
  ⟨by unfold State.room; decide +kernel, by unfold State.room; decide +kernel, rfl, rfl, readable_mem (by decide +kernel),
    readable_mem (by decide +kernel), holds_machine _ _, rfl, readable_mem (by decide +kernel), storable_of rfl rfl (by decide +kernel),
    storable_of rfl rfl (by decide +kernel), holds_machine _ _, rfl, readable_mem (by decide +kernel), storable_of rfl rfl (by decide +kernel), storable_of rfl rfl (by decide +kernel),
    by decide +kernel⟩

/-- An index that wraps with its operand byte, and one that does not; the words they reach. The parameter for short strings has either
value: `test_string_wraps`. -/
theorem witness_StringInstructions : (machine 1 [0x1000, 0xFFFF]).undisturbed ∧ (machine 1 [0x1000, 0xFFFF]).holds 1 [0x1000, 0xFFFF] ∧
    (machine 1 [0x1000, 0xFFFF]).readableAll [0x51000, 0x58FFF] ∧ (machine 1 [0, 5, 0xFFFF]).undisturbed ∧
    (machine 1 [0, 5, 0xFFFF]).holds 1 [0, 5, 0xFFFF] ∧ (machine 1 [0, 5, 0xFFFF]).readableAll [0x57FFF, 0x5807F] ∧
    (machine 1 [0xFF5A, 0x1000, 0xFFFF]).undisturbed ∧ (machine 1 [0xFF5A, 0x1000, 0xFFFF]).holds 1 [0xFF5A, 0x1000, 0xFFFF] ∧
    (machine 1 [0xFF5A, 0x1000, 0xFFFF]).storable 0x51000 ∧ (machine 1 [0xFF5A, 0x1000, 0xFFFF]).storable 0x58FFF ∧
    (machine 1 [0x99, 0, 5, 0xFFFF]).undisturbed ∧ (machine 1 [0x99, 0, 5, 0xFFFF]).holds 1 [0x99, 0, 5, 0xFFFF] ∧
    (machine 1 [0x99, 0, 5, 0xFFFF]).storable 0x57FFF ∧ (machine 1 [0x99, 0, 5, 0xFFFF]).storable 0x5807F :=
  ⟨rfl, holds_machine _ _, readable_mem (by decide +kernel), rfl, holds_machine _ _, readable_mem (by decide +kernel), rfl,
    holds_machine _ _, storable_of rfl rfl (by decide +kernel), storable_of rfl rfl (by decide +kernel), rfl, holds_machine _ _,
    storable_of rfl rfl (by decide +kernel), storable_of rfl rfl (by decide +kernel)⟩

theorem witness_FieldRules : (⟨0, 15⟩ : FieldSpec).wellFormed = true ∧ (⟨15, 0⟩ : FieldSpec).wellFormed = true ∧
    (⟨4, 3⟩ : FieldSpec).wellFormed = true := by decide

theorem witness_FieldReads : (machine 1 [0x1000]).undisturbed ∧ (machine 1 [0x1000]).holds 1 [0x1000] ∧
    (machine 1 [0x1000]).readableAll [0x51000, 0x510FF] ∧ (⟨0xFF, ⟨15, 0⟩⟩ : FieldDesc).field.wellFormed = true ∧
    (machine 1 [0, 0x20]).undisturbed ∧ (machine 1 [0, 0x20]).holds 1 [0, 0x20] ∧ (machine 1 [0, 0x20]).readableAll [0x200000, 0x2000FF] ∧
    (machine 1 [0, 0x20, 0x243]).undisturbed ∧ (machine 1 [0, 0x20, 0x243]).holds 1 [0, 0x20, 0x243] ∧
    (fieldDesc 0x243).field.wellFormed = true ∧ (machine 1 [0, 0x20, 0x243]).readable 0x200002 ∧
    (machine 1 [1, 0x143]).undisturbed ∧ (machine 1 [1, 0x143]).holds 1 [1, 0x143] ∧ (fieldDesc 0x143).field.wellFormed = true ∧
    (machine 1 [1, 0x143]).codeReadable (1 + 1) ∧ (machine 13 []).undisturbed ∧ (machine 13 []).room 1 ∧
    (machine 13 []).readableAll [0x52002, 0x50001, 0x52003, 1] :=
  ⟨rfl, holds_machine _ _, readable_mem (by decide +kernel), by decide, rfl, holds_machine _ _, readable_mem (by decide +kernel), rfl,
    holds_machine _ _, by decide, readable_one (by decide +kernel), rfl, holds_machine _ _, by decide,
    ⟨by decide +kernel, readable_one (by decide +kernel)⟩, rfl, by unfold State.room; decide +kernel, readable_mem (by decide +kernel)⟩

theorem witness_FieldWrites : (⟨2, ⟨8, 7⟩⟩ : FieldDesc).field.wellFormed = true ∧ (fieldDesc 0x287).field.wellFormed = true ∧
    (machine 1 [0xAB, 0x1000]).undisturbed ∧ (machine 1 [0xAB, 0x1000]).holds 1 [0xAB, 0x1000] ∧
    (machine 1 [0xAB, 0x1000]).storable 0x51000 ∧ (machine 1 [0xAB, 0x1000]).storable 0x51002 ∧
    (machine 1 [0x1000, 0xAB]).undisturbed ∧ (machine 1 [0x1000, 0xAB]).holds 1 [0x1000, 0xAB] ∧
    (machine 1 [0x1000, 0xAB]).storable 0x51000 ∧ (machine 1 [0x1000, 0xAB]).storable 0x51002 ∧
    (machine 1 [0xAB, 0, 0x20]).undisturbed ∧ (machine 1 [0xAB, 0, 0x20]).holds 1 [0xAB, 0, 0x20] ∧
    (machine 1 [0xAB, 0, 0x20]).storable 0x200000 ∧ (machine 1 [0xAB, 0, 0x20]).storable 0x200002 ∧
    (machine 1 [0, 0x20, 0xAB]).undisturbed ∧ (machine 1 [0, 0x20, 0xAB]).holds 1 [0, 0x20, 0xAB] ∧
    (machine 1 [0, 0x20, 0xAB]).storable 0x200002 ∧ (machine 1 [0xAB, 0, 0x20, 0x287]).undisturbed ∧
    (machine 1 [0xAB, 0, 0x20, 0x287]).holds 1 [0xAB, 0, 0x20, 0x287] ∧ (machine 1 [0xAB, 0, 0x20, 0x287]).storable 0x200002 :=
  ⟨by decide, by decide, rfl, holds_machine _ _, storable_of rfl rfl (by decide +kernel), storable_of rfl rfl (by decide +kernel),
    rfl, holds_machine _ _, storable_of rfl rfl (by decide +kernel), storable_of rfl rfl (by decide +kernel), rfl, holds_machine _ _,
    storable_of rfl rfl (by decide +kernel), storable_of rfl rfl (by decide +kernel), rfl, holds_machine _ _,
    storable_of rfl rfl (by decide +kernel), rfl, holds_machine _ _, storable_of rfl rfl (by decide +kernel)⟩

/-- Operands of every form; a field of either illegal kind, in an operand byte and in a descriptor on the stack. -/
theorem witness_IllegalFields : (⟨12, 4⟩ : FieldSpec).wellFormed = false ∧ (⟨15, 15⟩ : FieldSpec).wellFormed = false ∧
    (fieldDesc 0x02C4).field.wellFormed = false ∧
    ((machine 1 [0x1000]).undisturbed ∧ (machine 1 [0x1000]).holds 1 [0x1000] ∧ (machine 1 [0x1000]).readableAll [0x51000, 0x51002]) ∧
    ((machine 1 [0x1000, 0x1100]).undisturbed ∧ (machine 1 [0x1000, 0x1100]).holds 1 [0x1000, 0x1100] ∧
      (machine 1 [0x1000, 0x1100]).readableAll [0x11001000, 0x11001002, 0x51000, 0x51002, 0x51100, 0x51102]) ∧
    ((machine 1 [0x20, 0x20, 0x20]).undisturbed ∧ (machine 1 [0x20, 0x20, 0x20]).holds 1 [0x20, 0x20, 0x20] ∧
      (machine 1 [0x20, 0x20, 0x20]).readableAll [0x200020, 0x200022]) ∧
    ((machine 14 []).undisturbed ∧ (machine 14 []).readableAll [0x52002, 0x50001, 0x52003, 1]) ∧
    ((machine 1 [0, 0x20, 0x02C4]).undisturbed ∧ (machine 1 [0, 0x20, 0x02C4]).holds 1 [0, 0x20, 0x02C4] ∧
      (machine 1 [0, 0x20, 0x02C4]).readable 0x200002) ∧
    ((machine 1 [1, 0x02C4]).undisturbed ∧ (machine 1 [1, 0x02C4]).holds 1 [1, 0x02C4] ∧
      (machine 1 [1, 0x02C4]).codeInBank (1 + 2) = true ∧ (machine 1 [1, 0x02C4]).readable 0x200003) ∧
    ((machine 1 [7, 0, 0x20, 0x02C4]).undisturbed ∧ (machine 1 [7, 0, 0x20, 0x02C4]).holds 1 [7, 0, 0x20, 0x02C4] ∧
      (machine 1 [7, 0, 0x20, 0x02C4]).readable 0x200002) :=
  ⟨by decide, by decide, by decide, ⟨rfl, holds_machine _ _, readable_mem (by decide +kernel)⟩,
    ⟨rfl, holds_machine _ _, readable_mem (by decide +kernel)⟩, ⟨rfl, holds_machine _ _, readable_mem (by decide +kernel)⟩,
    ⟨rfl, readable_mem (by decide +kernel)⟩, ⟨rfl, holds_machine _ _, readable_one (by decide +kernel)⟩,
    ⟨rfl, holds_machine _ _, by decide +kernel, readable_one (by decide +kernel)⟩,
    rfl, holds_machine _ _, readable_one (by decide +kernel)⟩

/-- Page 520 holds the local frame and the word at the short pointer 2000; page 530 the global frame; page 2000 the code. -/
theorem witness_MemoryFaults :
    (let s := withEntry (machine 1 [0x2000, 0x2000]) 0x520 6 0
     s.undisturbed ∧ s.holds 1 [0x2000, 0x2000] ∧ (s.entryOf (s.lengthenPointer s.lf)).isVacant = true ∧
     (s.entryOf (s.lengthenPointer (s.lf + 0xFF))).isVacant = true ∧ (s.entryOf (s.lengthenPointer 0x2000)).isVacant = true) ∧
    (let s := withEntry (machine 1 [0x2000, 0x2000]) 0x520 4 0x520
     s.undisturbed ∧ s.holds 1 [0x2000, 0x2000] ∧ (s.entryOf (s.lengthenPointer s.lf)).isVacant = false ∧
     (s.entryOf (s.lengthenPointer s.lf)).isProtected = true ∧ (s.entryOf (s.lengthenPointer 0x2000)).isProtected = true) ∧
    ((withEntry (machine 1 [0x2000]) 0x530 6 0).entryOf ((machine 1 [0x2000]).lengthenPointer 0x3000)).isVacant = true ∧
    (let s := withEntry (machine 1 [0x2000, 0x20]) 0x2000 6 0
     s.undisturbed ∧ s.holds 1 [0x2000, 0x20] ∧ s.codeInBank (0x20 + 0xDF) = true ∧
     (s.entryOf (s.codeAddress (0x20 + 0xDF))).isVacant = true) :=
  ⟨⟨by decide +kernel, holds_withEntry _ _ _ (holds_machine 1 _), by decide +kernel, by decide +kernel, by decide +kernel⟩,
   ⟨by decide +kernel, holds_withEntry _ _ _ (holds_machine 1 _), by decide +kernel, by decide +kernel, by decide +kernel⟩,
   by decide +kernel, by decide +kernel, holds_withEntry _ _ _ (holds_machine 1 _), by decide +kernel, by decide +kernel⟩

/-- Three and four operands, with the word each form accesses first vacant or protected; the second access of the indirect forms. -/
theorem witness_MemoryFaults_operands :
    (let s := withEntry (machine 1 [0, 0x20, 0x20]) 0x2000 6 0
     s.undisturbed ∧ s.holds 1 [0, 0x20, 0x20] ∧ (s.entryOf 0x200000).isVacant = true ∧ (s.entryOf 0x200020).isVacant = true) ∧
    (let s := withEntry (machine 1 [0, 0x20, 0x20]) 0x2000 4 0x2000
     s.undisturbed ∧ s.holds 1 [0, 0x20, 0x20] ∧ s.readable 0x200000 ∧ (s.entryOf 0x200000).isVacant = false ∧
     (s.entryOf 0x200000).isProtected = true ∧ ((⟨4, 3⟩ : FieldSpec).wellFormed && (⟨4, 3⟩ : FieldSpec).wellFormed) = true) ∧
    (let s := withEntry (machine 1 [7, 0, 0x20, 0x0243]) 0x2000 4 0x2000
     s.undisturbed ∧ s.holds 1 [7, 0, 0x20, 0x0243] ∧ s.readable 0x200002 ∧ (s.entryOf 0x200002).isVacant = false ∧
     (s.entryOf 0x200002).isProtected = true ∧ (fieldDesc 0x0243).field.wellFormed = true) ∧
    (let s := withEntry (machine 1 [7, 8, 0xFFFF, 0x20]) 0x2100 6 0
     s.undisturbed ∧ s.holds 1 [7, 8, 0xFFFF, 0x20] ∧ (s.entryOf (0x20FFFF + 1)).isVacant = true) ∧
    (let s := withEntry (placed (machine 1 [7]) data) 0x510 6 0
     s.undisturbed ∧ s.readable (s.lengthenPointer (s.lf + 2)) ∧
     (s.entryOf (s.lengthenPointer (s.wordAt (s.lengthenPointer (s.lf + 2)) + 3))).isVacant = true) ∧
    (let s := withEntry (placed (machine 1 [7]) data) 0x800 4 0x800
     s.undisturbed ∧ s.readable (s.lengthenPointer (s.lf + 4)) ∧ s.readable (s.lengthenPointer (s.lf + 4) + 1) ∧
     (s.entryOf (s.longAt (s.lengthenPointer (s.lf + 4)) + 2)).isVacant = false ∧
     (s.entryOf (s.longAt (s.lengthenPointer (s.lf + 4)) + 2)).isProtected = true) :=
  ⟨⟨by decide +kernel, holds_withEntry _ _ _ (holds_machine 1 _), by decide +kernel, by decide +kernel⟩,
   ⟨by decide +kernel, holds_withEntry _ _ _ (holds_machine 1 _), readable_one (by decide +kernel), by decide +kernel,
     by decide +kernel, by decide +kernel⟩,
   ⟨by decide +kernel, holds_withEntry _ _ _ (holds_machine 1 _), readable_one (by decide +kernel), by decide +kernel,
     by decide +kernel, by decide +kernel⟩,
   ⟨by decide +kernel, holds_withEntry _ _ _ (holds_machine 1 _), by decide +kernel⟩,
   ⟨by decide +kernel, readable_one (by decide +kernel), by decide +kernel⟩,
   by decide +kernel, readable_one (by decide +kernel), readable_one (by decide +kernel), by decide +kernel, by decide +kernel⟩

/-- The hypotheses of a second fetch that faults: the first word can be read, the page of the second is vacant. -/
def secondVacant (s : State) (first second : Long) : Prop :=
  s.undisturbed ∧ s.readable first ∧ (s.entryOf second).isVacant = true

theorem secondVacant_of {s : State} {first second : Long} (hu : s.undisturbed)
    (h : (readsOk s [first] && (s.entryOf second).isVacant) = true) : secondVacant s first second :=
  ⟨hu, readable_one (Bool.and_eq_true_iff.1 h).1, (Bool.and_eq_true_iff.1 h).2⟩

/-- The hypotheses of a second store that faults: the first can be done, the page of the second is vacant or protected. -/
def secondUnstorable (s : State) (base : Nat) (ws : List Word) (first second : Long) (protect : Bool) : Prop :=
  s.undisturbed ∧ s.holds base ws ∧ s.storable second ∧ (s.entryOf first).isVacant = !protect ∧
    (protect = true → (s.entryOf first).isProtected = true)

theorem secondUnstorable_of {s : State} {base : Nat} {ws : List Word} {first second : Long} {protect : Bool} (hu : s.undisturbed)
    (hh : s.holds base ws) (h : storesOk s [second] = true) (hv : (s.entryOf first).isVacant = !protect)
    (hp : protect = true → (s.entryOf first).isProtected = true) : secondUnstorable s base ws first second protect :=
  ⟨hu, hh, storable_one h, hv, hp⟩

/-- Double loads across a page's end: both frames, a short and a long pointer. -/
theorem witness_MemoryFaults_loads :
    (let s := withEntry { machine 1 [7] with lf := 0x20FF } 0x521 6 0
     s.room 1 ∧ secondVacant s (s.lengthenPointer s.lf) (s.lengthenPointer (s.lf + 1))) ∧
    (let s := withEntry { machine 1 [7] with gf := 0x30FF } 0x531 6 0
     s.room 1 ∧ secondVacant s (s.lengthenPointer s.gf) (s.lengthenPointer (s.gf + 1))) ∧
    (let s := withEntry (machine 1 [7, 0x10FF]) 0x511 6 0
     s.holds 1 [7, 0x10FF] ∧ secondVacant s (s.lengthenPointer 0x10FF) (s.lengthenPointer (0x10FF + 1))) ∧
    (let s := withEntry (machine 1 [0x10FF, 0x20]) 0x2011 6 0
     s.holds 1 [0x10FF, 0x20] ∧ secondVacant s (Long.ofHalves 0x20 0x10FF) (Long.ofHalves 0x20 0x10FF + 1)) :=
  ⟨⟨by unfold State.room; decide +kernel, secondVacant_of (by decide +kernel) (by decide +kernel)⟩,
   ⟨by unfold State.room; decide +kernel, secondVacant_of (by decide +kernel) (by decide +kernel)⟩,
   ⟨holds_withEntry _ _ _ (holds_machine 1 _), secondVacant_of (by decide +kernel) (by decide +kernel)⟩,
   holds_withEntry _ _ _ (holds_machine 1 _), secondVacant_of (by decide +kernel) (by decide +kernel)⟩

/-- Indirect forms: the word that the local 0 and the global 1 point to; the second word of two there; the second word of a long
pointer in either frame; the word, the second word and the protected words that a long pointer points to. -/
theorem witness_MemoryFaults_indirect :
    (let s := withEntry (placed (machine 1 [7]) data) 0x511 6 0
     secondVacant s (s.lengthenPointer s.lf) (s.lengthenPointer (s.wordAt (s.lengthenPointer s.lf) + 3))) ∧
    (let s := withEntry (placed (machine 1 [7]) data) 0x510 6 0
     secondVacant s (s.lengthenPointer (s.gf + 1)) (s.lengthenPointer (s.wordAt (s.lengthenPointer (s.gf + 1)) + 1))) ∧
    (let s := withEntry (placed (machine 1 [7]) data) 0x510 4 0x510
     s.readable (s.lengthenPointer (s.lf + 2)) ∧
     (s.entryOf (s.lengthenPointer (s.wordAt (s.lengthenPointer (s.lf + 2)) + 3))).isVacant = false ∧
     (s.entryOf (s.lengthenPointer (s.wordAt (s.lengthenPointer (s.lf + 2)) + 3))).isProtected = true) ∧
    (let s := withEntry (placed (machine 1 [7]) [(0x52000, 0x10FF)]) 0x511 6 0
     let short := s.wordAt (s.lengthenPointer s.lf)
     s.readable (s.lengthenPointer s.lf) ∧ secondVacant s (s.lengthenPointer short) (s.lengthenPointer (short + 1))) ∧
    (let s := withEntry { machine 1 [7] with lf := 0x20F0 } 0x521 6 0
     secondVacant s (s.lengthenPointer (s.lf + 15)) (s.lengthenPointer (s.lf + 15) + 1)) ∧
    (let s := withEntry { machine 1 [7] with gf := 0x30F0 } 0x531 6 0
     secondVacant s (s.lengthenPointer (s.gf + 15)) (s.lengthenPointer (s.gf + 15) + 1)) ∧
    (let s := withEntry (placed (machine 1 [7]) data) 0x800 6 0
     let va := s.lengthenPointer (s.gf + 4)
     s.readableAll [va, va + 1] ∧ (s.entryOf (s.longAt va + 2)).isVacant = true) ∧
    (let s := withEntry (placed (machine 1 [7]) [(0x52000, 0xFF), (0x52001, 8)]) 0x801 6 0
     let va := s.lengthenPointer s.lf
     s.readableAll [va, va + 1] ∧ secondVacant s (s.longAt va) (s.longAt va + 1)) ∧
    (let s := withEntry (placed (machine 1 [7, 8]) [(0x52000, 0xFF), (0x52001, 8)]) 0x801 4 0x801
     let va := s.lengthenPointer s.lf
     s.readableAll [va, va + 1] ∧ (s.entryOf (s.longAt va + 1)).isVacant = false ∧ (s.entryOf (s.longAt va + 1)).isProtected = true) :=
  ⟨secondVacant_of (by decide +kernel) (by decide +kernel), secondVacant_of (by decide +kernel) (by decide +kernel),
   ⟨readable_one (by decide +kernel), by decide +kernel, by decide +kernel⟩,
   ⟨readable_one (by decide +kernel), secondVacant_of (by decide +kernel) (by decide +kernel)⟩,
   secondVacant_of (by decide +kernel) (by decide +kernel), secondVacant_of (by decide +kernel) (by decide +kernel),
   ⟨readable_mem (by decide +kernel), by decide +kernel⟩,
   ⟨readable_mem (by decide +kernel), secondVacant_of (by decide +kernel) (by decide +kernel)⟩,
   readable_mem (by decide +kernel), by decide +kernel, by decide +kernel⟩

/-- Double stores across a page's end, the page of the second store vacant or protected: both frames, a short and a long pointer above or
below the data, a long pointer in the local frame. -/
theorem witness_MemoryFaults_stores : ∀ r ∈ ([(false, 6), (true, 4)] : List (Bool × Word)),
    (let s := withEntry { machine 1 [7, 8] with lf := 0x20FF } 0x520 r.2 0x520
     secondUnstorable s 1 [7, 8] (s.lengthenPointer s.lf) (s.lengthenPointer (s.lf + 1)) r.1) ∧
    (let s := withEntry { machine 1 [7, 8] with gf := 0x30FF } 0x530 r.2 0x530
     secondUnstorable s 1 [7, 8] (s.lengthenPointer s.gf) (s.lengthenPointer (s.gf + 1)) r.1) ∧
    (let s := withEntry (machine 1 [7, 8, 0x10FF]) 0x510 r.2 0x510
     secondUnstorable s 1 [7, 8, 0x10FF] (s.lengthenPointer 0x10FF) (s.lengthenPointer (0x10FF + 1)) r.1) ∧
    (let s := withEntry (machine 1 [0x10FF, 7, 8]) 0x510 r.2 0x510
     secondUnstorable s 1 [0x10FF, 7, 8] (s.lengthenPointer 0x10FF) (s.lengthenPointer (0x10FF + 1)) r.1) ∧
    (let s := withEntry (machine 1 [7, 8, 0x10FF, 0x20]) 0x2010 r.2 0x2010
     secondUnstorable s 1 [7, 8, 0x10FF, 0x20] (Long.ofHalves 0x20 0x10FF) (Long.ofHalves 0x20 0x10FF + 1) r.1) ∧
    (let s := withEntry (machine 1 [0x10FF, 0x20, 7, 8]) 0x2010 r.2 0x2010
     secondUnstorable s 1 [0x10FF, 0x20, 7, 8] (Long.ofHalves 0x20 0x10FF) (Long.ofHalves 0x20 0x10FF + 1) r.1) ∧
    (let s := withEntry (placed (machine 1 [7, 8]) [(0x52000, 0xFF), (0x52001, 8)]) 0x800 r.2 0x800
     let va := s.lengthenPointer s.lf
     s.readableAll [va, va + 1] ∧ secondUnstorable s 1 [7, 8] (s.longAt va) (s.longAt va + 1) r.1) := by
  simp only [List.forall_mem_cons, List.not_mem_nil, false_imp_iff, implies_true, and_true]
  refine ⟨⟨?_, ?_, ?_, ?_, ?_, ?_, readable_mem (by decide +kernel), ?_⟩,
    ?_, ?_, ?_, ?_, ?_, ?_, readable_mem (by decide +kernel), ?_⟩ <;>
  exact secondUnstorable_of (by decide +kernel) (holds_withEntry _ _ _ (holds_machine 1 _)) (by decide +kernel) (by decide +kernel)
    (by decide +kernel)

theorem witness_LoadFrame : (machine 1 []).undisturbed ∧ (∃ t, exec .ll0 (machine 1 []) = .next t) ∧
    (∃ t, exec .rd0 (machine 1 [0x1000]) = .next t) ∧ (∃ t, exec .gmf (machine 1 [0xA0, 0]) = .next t) ∧
    (∃ t, exec .wrwp (machine 1 [4]) = .next t) :=
  ⟨rfl, exists_next (by decide +kernel), exists_next (by decide +kernel), exists_next (by decide +kernel),
    exists_next (by decide +kernel)⟩

theorem witness_StoreFrame : (machine 1 [1, 2, 0x1000]).undisturbed ∧ (∃ t, exec (.wdb 0) (machine 1 [1, 2, 0x1000]) = .next t) ∧
    (∃ t, exec (.ws 1) (machine 1 [7, 0x1000, 2]) = .next t) ∧ (∃ t, exec (.wldilp ⟨4, 2⟩) (placed (machine 1 [1, 2]) data) = .next t) ∧
    (∃ t, exec (.wob 1) (machine 1 [7, 0x2000]) = .next t) ∧ (∃ t, exec .sl0 (withEntry (machine 1 [7]) 0x520 6 0) = .next t) :=
  ⟨rfl, exists_next (by decide +kernel), exists_next (by decide +kernel), exists_next (by decide +kernel),
    exists_next (by decide +kernel), exists_next (by decide +kernel)⟩

/-- A transfer onto itself shifted by one, one of no words at all, and one at the end of the code base's bank. -/
theorem witness_WordBlockTransfers :
    (let s := machine 1 [0x1000, 3, 0x1001]
     s.quiet ∧ s.holds 1 [0x1000, 3, 0x1001] ∧ s.copyable ((List.range 3).map fun k =>
       (s.lengthenPointer (0x1000 + BitVec.ofNat 16 k), s.lengthenPointer (0x1001 + BitVec.ofNat 16 k)))) ∧
    (let s := machine 1 [0xFFFE, 2, 0x1001]
     s.quiet ∧ s.holds 1 [0xFFFE, 2, 0x1001] ∧ (∀ k < 2, s.codeInBank (0xFFFE + BitVec.ofNat 16 k) = true) ∧
     s.copyable ((List.range 2).map fun k => (s.codeAddress (0xFFFE + BitVec.ofNat 16 k), s.lengthenPointer (0x1001 + BitVec.ofNat 16 k)))) ∧
    (let s := machine 1 [0x10, 2, 0, 8]
     s.quiet ∧ s.holds 1 [0x10, 2, 0, 8] ∧ (∀ k < 2, s.codeInBank (0x10 + BitVec.ofNat 16 k) = true) ∧
     s.copyable ((List.range 2).map fun k => (s.codeAddress (0x10 + BitVec.ofNat 16 k), (0x80000 : Long) + BitVec.ofNat 32 k))) ∧
    (let s := machine 1 [0x1000, 0x20, 2, 0x2000, 0x20]
     s.quiet ∧ s.holds 1 [0x1000, 0x20, 2, 0x2000, 0x20] ∧
     s.copyable ((List.range 2).map fun k => ((0x201000 : Long) + BitVec.ofNat 32 k, (0x202000 : Long) + BitVec.ofNat 32 k)) ∧
     s.copyable ((List.range 2).map fun k =>
       ((0x201000 : Long) + bltlrIndex s.cfg (2 - BitVec.ofNat 16 k), (0x202000 : Long) + bltlrIndex s.cfg (2 - BitVec.ofNat 16 k)))) ∧
    (machine 1 [0x1000, 0, 0x1001]).holds 1 [0x1000, 0, 0x1001] :=
  ⟨⟨⟨by decide +kernel, rfl⟩, holds_machine _ _, copyable_of (by decide +kernel)⟩,
   ⟨⟨by decide +kernel, rfl⟩, holds_machine _ _, by decide +kernel, copyable_of (by decide +kernel)⟩,
   ⟨⟨by decide +kernel, rfl⟩, holds_machine _ _, by decide +kernel, copyable_of (by decide +kernel)⟩,
   ⟨⟨by decide +kernel, rfl⟩, holds_machine _ _, copyable_of (by decide +kernel), copyable_of (by decide +kernel)⟩,
   holds_machine _ _⟩

/-- Two words equal, and a third that differs. -/
theorem witness_ChecksumAndCompares :
    (let s := placed (machine 1 [0x1234, 3, 0x1000, 0x20]) blocks
     s.quiet ∧ s.holds 1 [0x1234, 3, 0x1000, 0x20] ∧ s.readableAll [0x201000, 0x201001, 0x201002]) ∧
    (let s := placed (machine 1 [0x1000, 0x20, 3, 0x2000, 0x20]) blocks
     s.quiet ∧ s.holds 1 [0x1000, 0x20, 3, 0x2000, 0x20] ∧
     s.readableAll [0x202000, 0x201000, 0x202001, 0x201001, 0x202002, 0x201002] ∧
     (∀ k < 2, s.wordAt (0x202000 + BitVec.ofNat 32 k) = s.wordAt (0x201000 + BitVec.ofNat 32 k)) ∧
     s.wordAt (0x202000 + BitVec.ofNat 32 2) ≠ s.wordAt (0x201000 + BitVec.ofNat 32 2)) ∧
    (let s := placed (machine 1 [0x10, 1, 0x1000, 0x20]) blocks
     s.quiet ∧ s.holds 1 [0x10, 1, 0x1000, 0x20] ∧ s.readableAll [0x201000, 0x200010] ∧
     (∀ k < 1, s.codeInBank (0x10 + BitVec.ofNat 16 k) = true) ∧
     s.wordAt (0x201000 + BitVec.ofNat 32 0) ≠ s.wordAt (s.codeAddress (0x10 + BitVec.ofNat 16 0))) ∧
    (let s := placed (machine 1 [0x10, 1, 0x10, 0x20]) blocks
     s.quiet ∧ s.holds 1 [0x10, 1, 0x10, 0x20] ∧ s.readableAll [0x200010] ∧
     (∀ k < 1, s.codeInBank (0x10 + BitVec.ofNat 16 k) = true) ∧
     ∀ k < 1, s.wordAt (0x200010 + BitVec.ofNat 32 k) = s.wordAt (s.codeAddress (0x10 + BitVec.ofNat 16 k))) :=
  ⟨⟨⟨by decide +kernel, rfl⟩, holds_machine _ _, readable_mem (by decide +kernel)⟩,
   ⟨⟨by decide +kernel, rfl⟩, holds_machine _ _, readable_mem (by decide +kernel), by decide +kernel, by decide +kernel⟩,
   ⟨⟨by decide +kernel, rfl⟩, holds_machine _ _, readable_mem (by decide +kernel), by decide +kernel, by decide +kernel⟩,
   ⟨by decide +kernel, rfl⟩, holds_machine _ _, readable_mem (by decide +kernel), by decide +kernel, by decide +kernel⟩

theorem witness_ByteBlockTransfers :
    let s := machine 1 [0x2000, 0x20, 2, 3, 0x1000, 0x20, 3]
    s.quiet ∧ s.holds 1 [0x2000, 0x20, 2, 3, 0x1000, 0x20, 3] ∧
    ∀ advance ∈ [nextByte, previousByte], s.byteCopyable
      ((bytePath advance (normaliseByte ⟨0x201000, 3⟩) 3).zip (bytePath advance (normaliseByte ⟨0x202000, 2⟩) 3)) := by
  refine ⟨⟨by decide +kernel, rfl⟩, holds_machine _ _, fun advance ha => byteCopyable_of ?_⟩
  rcases List.mem_cons.1 ha with rfl | h
  · decide +kernel
  · cases List.mem_singleton.1 h
    decide +kernel

/-- `k` turns of the devices that do nothing, then one that raises a wakeup, in a machine that lets it interrupt, if it makes its test. -/
def interruptedAfter (k : Nat) (ws : List Word) (omitted : Bool := false) : State :=
  placed { machine 1 ws with wdc := 0, turns := List.replicate k ⟨false, 0, []⟩ ++ [⟨omitted, 4, []⟩] } blocks

/-- They raise wakeups only. -/
theorem interruptedAfter_turns (k : Nat) (ws : List Word) (omitted : Bool := false) : (interruptedAfter k ws omitted).onlyWakeups :=
  fun d hd => by
  rcases List.mem_append.1 hd with h | h
  · rw [List.eq_of_mem_replicate h]
  · rw [List.mem_singleton.1 h]

theorem witness_InterruptedTransfer :
    (let s := interruptedAfter 5 [0x1000, 3, 0x2000]
     s.onlyWakeups ∧ s.holds 1 [0x1000, 3, 0x2000] ∧ s.copyable ((List.range 3).map fun k =>
       (s.lengthenPointer (0x1000 + BitVec.ofNat 16 k), s.lengthenPointer (0x2000 + BitVec.ofNat 16 k)))) ∧
    (let s := interruptedAfter 5 [0x1000, 0x20, 3, 0x2000, 0x20]
     s.onlyWakeups ∧ s.holds 1 [0x1000, 0x20, 3, 0x2000, 0x20] ∧
     s.copyable ((List.range 3).map fun k => ((0x201000 : Long) + BitVec.ofNat 32 k, (0x202000 : Long) + BitVec.ofNat 32 k))) :=
  ⟨⟨interruptedAfter_turns _ _, holds_machine _ _, copyable_of (by decide +kernel)⟩,
   interruptedAfter_turns _ _, holds_machine _ _, copyable_of (by decide +kernel)⟩

/-- After `n` accesses an interrupt is pending, and the test is made. -/
abbrev testsAfter (s : State) (n : Nat) : Prop := (s.takeTurns n).testOmitted = false ∧ interruptPending (s.takeTurns (n + 1)) = true

/-- The test made with an interrupt pending, for every shape of operands; the test omitted; and none pending. -/
theorem witness_BlockSuspension :
    ((interruptedAfter 2 [0x1000, 1, 0x2000] true).onlyWakeups ∧ (interruptedAfter 2 [0x1000, 1, 0x2000] true).holds 1 [0x1000, 1, 0x2000] ∧
      ((interruptedAfter 2 [0x1000, 1, 0x2000] true).takeTurns 2).testOmitted = true ∧
      interruptPending ((interruptedAfter 3 [0x1000, 1, 0x2000]).takeTurns 3) = false) ∧
    (let s := interruptedAfter 2 [0x1000, 1, 0x2000]
     s.onlyWakeups ∧ testsAfter s 2 ∧ s.holds 1 [0x1000, 1, 0x2000] ∧
     s.storable (s.lengthenPointer 0x2000) ∧ s.readable (s.lengthenPointer 0x1000) ∧ s.codeReadable 0x1000) ∧
    (let s := interruptedAfter 2 [0x10, 1, 0x10, 0x20]
     s.onlyWakeups ∧ testsAfter s 2 ∧ s.holds 1 [0x10, 1, 0x10, 0x20] ∧ s.storable 0x200010 ∧
     s.readable 0x200010 ∧ s.codeReadable 0x10 ∧ s.wordAt 0x200010 = s.wordAt (s.codeAddress 0x10)) ∧
    (let s := interruptedAfter 1 [0x10, 1, 0x10, 0x20]
     s.onlyWakeups ∧ testsAfter s 1 ∧ s.holds 1 [0x10, 1, 0x10, 0x20] ∧ s.readable 0x200010) ∧
    (let s := interruptedAfter 2 [0x1000, 0x20, 2, 0x2000, 0x20]
     s.onlyWakeups ∧ testsAfter s 2 ∧ s.holds 1 [0x1000, 0x20, 2, 0x2000, 0x20] ∧
     s.storable 0x202000 ∧ s.readable 0x201000 ∧ s.readable (0x201000 + bltlrIndex s.cfg 2) ∧
     s.storable (0x202000 + bltlrIndex s.cfg 2) ∧ s.wordAt 0x202000 = s.wordAt 0x201000) ∧
    (let s := interruptedAfter 3 [0x2000, 0x20, 2, 1, 0x1000, 0x20, 3]
     s.onlyWakeups ∧ testsAfter s 3 ∧ s.holds 1 [0x2000, 0x20, 2, 1, 0x1000, 0x20, 3] ∧
     s.readable (normaliseByte ⟨0x201000, 3⟩).address ∧ s.storable (normaliseByte ⟨0x202000, 2⟩).address) :=
  ⟨⟨interruptedAfter_turns _ _ _, holds_machine _ _, by decide +kernel, by decide +kernel⟩,
   ⟨interruptedAfter_turns _ _, by decide +kernel, holds_machine _ _, storable_one (by decide +kernel), readable_one (by decide +kernel),
     by decide +kernel, readable_one (by decide +kernel)⟩,
   ⟨interruptedAfter_turns _ _, by decide +kernel, holds_machine _ _, storable_one (by decide +kernel), readable_one (by decide +kernel),
     ⟨by decide +kernel, readable_one (by decide +kernel)⟩, by decide +kernel⟩,
   ⟨interruptedAfter_turns _ _, by decide +kernel, holds_machine _ _, readable_one (by decide +kernel)⟩,
   ⟨interruptedAfter_turns _ _, by decide +kernel, holds_machine _ _, storable_one (by decide +kernel), readable_one (by decide +kernel),
     readable_one (by decide +kernel), storable_one (by decide +kernel), by decide +kernel⟩,
   interruptedAfter_turns _ _, by decide +kernel, holds_machine _ _, readable_one (by decide +kernel), storable_one (by decide +kernel)⟩

/-- A machine in the first word of whose block transfer `PC` and `SP` are as at its start, pages with other flags given. -/
def blockFaulting (ws : List Word) (vp : Nat) (flags : Word) (real : Long) : State := withEntry (machine 1 ws) vp flags real

/-- The second unit: of `BLT` a vacant source, a vacant destination, a protected one; of `BLEL` a vacant second operand; of `CKSUM` its
block; of `BYTBLT` a source, a destination, a protected destination. -/
theorem witness_BlockFault :
    (let s := blockFaulting [0x10FF, 3, 0x2000] 0x511 6 0
     s.quiet ∧ s.holds 1 [0x10FF, 3, 0x2000] ∧ s.savedSP = s.sp ∧ (s.entryOf (s.lengthenPointer (0x10FF + 1))).isVacant = true ∧
     s.copyable ((List.range 1).map fun k =>
       (s.lengthenPointer (0x10FF + BitVec.ofNat 16 k), s.lengthenPointer (0x2000 + BitVec.ofNat 16 k)))) ∧
    (let s := blockFaulting [0x1000, 3, 0x20FF] 0x521 6 0
     s.quiet ∧ s.holds 1 [0x1000, 3, 0x20FF] ∧ s.savedSP = s.sp ∧ s.readable (s.lengthenPointer (0x1000 + 1)) ∧
     (s.entryOf (s.lengthenPointer (0x20FF + 1))).isVacant = true ∧ s.copyable ((List.range 1).map fun k =>
       (s.lengthenPointer (0x1000 + BitVec.ofNat 16 k), s.lengthenPointer (0x20FF + BitVec.ofNat 16 k)))) ∧
    (let s := blockFaulting [0x1000, 3, 0x20FF] 0x521 4 0x521
     s.quiet ∧ s.holds 1 [0x1000, 3, 0x20FF] ∧ s.savedSP = s.sp ∧ s.readable (s.lengthenPointer (0x1000 + 1)) ∧
     (s.entryOf (s.lengthenPointer (0x20FF + 1))).isVacant = false ∧
     (s.entryOf (s.lengthenPointer (0x20FF + 1))).isProtected = true) ∧
    (let s := blockFaulting [0x10FF, 0x20, 3, 0x2000, 0x20] 0x2011 6 0
     s.quiet ∧ s.holds 1 [0x10FF, 0x20, 3, 0x2000, 0x20] ∧ s.savedSP = s.sp ∧ (∀ j < 1, s.wordAt ((0x202000 : Long) + BitVec.ofNat 32 j) =
       s.wordAt ((0x2010FF : Long) + BitVec.ofNat 32 j)) ∧ s.readableAll [0x202000, 0x2010FF, 0x202001] ∧
     (s.entryOf 0x201100).isVacant = true) ∧
    (let s := blockFaulting [7, 3, 0x10FF, 0x20] 0x2011 6 0
     s.quiet ∧ s.holds 1 [7, 3, 0x10FF, 0x20] ∧ s.savedSP = s.sp ∧ s.readableAll [0x2010FF] ∧ (s.entryOf 0x201100).isVacant = true) ∧
    (let s := blockFaulting [0x2000, 0x20, 0, 3, 0x10FF, 0x20, 1] 0x2011 6 0
     let source := bytePath nextByte (normaliseByte ⟨0x2010FF, 1⟩) 2
     let dest := bytePath nextByte (normaliseByte ⟨0x202000, 0⟩) 2
     s.quiet ∧ s.holds 1 [0x2000, 0x20, 0, 3, 0x10FF, 0x20, 1] ∧ s.savedSP = s.sp ∧ s.byteCopyable ((source.zip dest).take 1) ∧
     (s.entryOf (source.getD 1 ⟨0, 0⟩).address).isVacant = true) ∧
    (let s := blockFaulting [0x20FF, 0x20, 1, 3, 0x1000, 0x20, 0] 0x2021 6 0
     let source := bytePath nextByte (normaliseByte ⟨0x201000, 0⟩) 2
     let dest := bytePath nextByte (normaliseByte ⟨0x2020FF, 1⟩) 2
     s.quiet ∧ s.holds 1 [0x20FF, 0x20, 1, 3, 0x1000, 0x20, 0] ∧ s.savedSP = s.sp ∧ s.byteCopyable ((source.zip dest).take 1) ∧
     s.readable (source.getD 1 ⟨0, 0⟩).address ∧ (s.entryOf (dest.getD 1 ⟨0, 0⟩).address).isVacant = true) ∧
    (let s := blockFaulting [0x20FF, 0x20, 1, 3, 0x1000, 0x20, 0] 0x2021 4 0x2021
     let source := bytePath nextByte (normaliseByte ⟨0x201000, 0⟩) 2
     let dest := bytePath nextByte (normaliseByte ⟨0x2020FF, 1⟩) 2
     s.quiet ∧ s.holds 1 [0x20FF, 0x20, 1, 3, 0x1000, 0x20, 0] ∧ s.savedSP = s.sp ∧ s.byteCopyable ((source.zip dest).take 1) ∧
     s.readable (source.getD 1 ⟨0, 0⟩).address ∧ s.readable (dest.getD 1 ⟨0, 0⟩).address ∧
     (s.entryOf (dest.getD 1 ⟨0, 0⟩).address).isProtected = true) :=
  ⟨⟨⟨by decide +kernel, by decide +kernel⟩, holds_withEntry _ _ _ (holds_machine 1 _), by decide +kernel, by decide +kernel,
     copyable_of (by decide +kernel)⟩,
   ⟨⟨by decide +kernel, by decide +kernel⟩, holds_withEntry _ _ _ (holds_machine 1 _), by decide +kernel,
     readable_one (by decide +kernel), by decide +kernel, copyable_of (by decide +kernel)⟩,
   ⟨⟨by decide +kernel, by decide +kernel⟩, holds_withEntry _ _ _ (holds_machine 1 _), by decide +kernel,
     readable_one (by decide +kernel), by decide +kernel, by decide +kernel⟩,
   ⟨⟨by decide +kernel, by decide +kernel⟩, holds_withEntry _ _ _ (holds_machine 1 _), by decide +kernel, by decide +kernel,
     readable_mem (by decide +kernel), by decide +kernel⟩,
   ⟨⟨by decide +kernel, by decide +kernel⟩, holds_withEntry _ _ _ (holds_machine 1 _), by decide +kernel,
     readable_mem (by decide +kernel), by decide +kernel⟩,
   ⟨⟨by decide +kernel, by decide +kernel⟩, holds_withEntry _ _ _ (holds_machine 1 _), by decide +kernel,
     byteCopyable_of (by decide +kernel), by decide +kernel⟩,
   ⟨⟨by decide +kernel, by decide +kernel⟩, holds_withEntry _ _ _ (holds_machine 1 _), by decide +kernel,
     byteCopyable_of (by decide +kernel), readable_one (by decide +kernel), by decide +kernel⟩,
   ⟨by decide +kernel, by decide +kernel⟩, holds_withEntry _ _ _ (holds_machine 1 _), by decide +kernel,
     byteCopyable_of (by decide +kernel), readable_one (by decide +kernel), readable_one (by decide +kernel), by decide +kernel⟩

theorem witness_BlockFrame : (machine 1 [0x1000, 3, 0x2000]).onlyWakeups ∧ (∃ t, exec .blt (machine 1 [0x1000, 3, 0x2000]) = .next t) ∧
    (∃ t, exec .bytbltr (machine 1 [0x2000, 0x20, 2, 3, 0x1000, 0x20, 3]) = .next t) ∧
    (∃ t, exec .cksum (machine 1 [0, 2, 0x1000, 0x20]) = .next t) ∧
    ((interruptedAfter 2 [0x1000, 3, 0x2000]).onlyWakeups ∧ ∃ t, exec .blt (interruptedAfter 2 [0x1000, 3, 0x2000]) = .next t) :=
  ⟨by unfold State.onlyWakeups; decide +kernel, exists_next (by decide +kernel), exists_next (by decide +kernel),
    exists_next (by decide +kernel), interruptedAfter_turns _ _, exists_next (by decide +kernel)⟩

theorem witness_UnitRules : ((⟨0xFFFFFFFF, 1⟩ : BytePosition).offset.toNat ≤ 1) ∧
    (0x7FFFFFF0 : Long).toInt + ((⟨0, 15⟩ : BitAddress).bit.toNat : Int) < 2 ^ 31 ∧
    (0x80000000 : Long).toInt + ((⟨0, 0⟩ : BitAddress).bit.toNat : Int) < 2 ^ 31 := by decide

/-- The argument of R592 and its words, for a BITBLT that starts or starts again. -/
def bitBltMachine (ws : List Word) : State :=
  placed { machine 0 ws with mds := 0 } [(0x100, 0x2000), (0x102, 4), (0x103, 16), (0x104, 0x3000), (0x107, 16), (0x108, 8), (0x109, 2),
    (0x3000, 0xAB00)]

/-- Every bit of the `n` lines of a BITBLT can be read where it comes from and written where it goes. -/
def movesOk (s : State) (b : BitBltState) (n : Nat) : Bool :=
  (List.range n).all fun j => (List.range b.arg.width.toNat).all fun k =>
    storesOk s [(bitBltTarget (skipLines j b) k).word] && readsOk s [(bitBltOrigin (skipLines j b) k).word]

theorem movable_of {s : State} {b : BitBltState} {n : Nat} (h : movesOk s b n = true) : s.movable b n := fun j hj k hk => by
  have h := List.all_eq_true.1 (List.all_eq_true.1 h j (List.mem_range.2 hj)) k (List.mem_range.2 hk)
  have h := Bool.and_eq_true_iff.1 h
  exact ⟨storable_one h.1, readable_one h.2⟩

theorem restartable_of {s : State} {ptr : Word} {record : List Word} (h : s.suspended = none) : s.restartable ptr record :=
  fun _ hu => by simp [h] at hu

/-- The suspended machine: 12 turns for the record, 32 for the bits of a line, and the test. -/
def bitBltInterrupted : State :=
  { bitBltMachine [0x100] with wdc := 0, turns := List.replicate 44 ⟨false, 0, []⟩ ++ [⟨false, 4, []⟩] }

theorem witness_BitBltResults :
    (let s := bitBltMachine [0x100]
     s.quiet ∧ s.holds 0 [0x100] ∧ s.readableAll (s.recordAddresses 0x100 12) ∧ s.bitBltLegal 0x100 ∧
     (s.bitBltOf 0x100).arg.height = 2 ∧ s.movable (s.bitBltOf 0x100) 2) ∧
    (let s := bitBltMachine [0x100, 1]
     s.quiet ∧ s.holds 0 [0x100, 1] ∧ s.readableAll (s.recordAddresses 0x100 12) ∧ s.bitBltLegal 0x100 ∧
     s.restartable 0x100 (s.record 0x100 12) ∧ s.movable (bitBltResume (s.bitBltOf 0x100) 1) (bitBltResume (s.bitBltOf 0x100) 1).linesLeft) ∧
    (let s := bitBltInterrupted
     s.onlyWakeups ∧ s.holds 0 [0x100] ∧ 2 ≤ s.stack.length ∧ s.readableAll (s.recordAddresses 0x100 12) ∧ s.bitBltLegal 0x100 ∧
     (s.takeTurns (12 + 4 * (s.bitBltOf 0x100).arg.width.toNat)).testOmitted = false ∧
     interruptPending (s.takeTurns (13 + 4 * (s.bitBltOf 0x100).arg.width.toNat)) = true ∧ (s.bitBltOf 0x100).arg.height ≠ 0 ∧
     s.movable (s.bitBltOf 0x100) 1) :=
  ⟨⟨⟨by decide +kernel, rfl⟩, holds_machine _ _, readable_mem (by decide +kernel), ⟨by decide, by decide +kernel⟩,
     by decide +kernel, movable_of (by decide +kernel)⟩,
   ⟨⟨by decide +kernel, rfl⟩, holds_machine _ _, readable_mem (by decide +kernel), ⟨by decide, by decide +kernel⟩,
     restartable_of rfl, movable_of (by decide +kernel)⟩,
   by unfold State.onlyWakeups; decide +kernel, holds_machine _ _, by decide +kernel, readable_mem (by decide +kernel),
     ⟨by decide, by decide +kernel⟩, by decide +kernel, by decide +kernel, by decide +kernel, movable_of (by decide +kernel)⟩

/-- A line that faults: the first one, at its first bit, its destination vacant; the first, its source vacant; the first, its destination
protected; the second, which begins where page 21 does, at its first and at its last bit. -/
theorem witness_BitBltResults_fault :
    (let s := withEntry (bitBltMachine [0x100]) 0x20 6 0
     s.quiet ∧ s.holds 0 [0x100] ∧ 2 ≤ s.stack.length ∧ s.savedSP = s.sp ∧ s.readableAll (s.recordAddresses 0x100 12) ∧
     s.bitBltLegal 0x100 ∧ (s.bitBltOf 0x100).arg.height.toNat = 2 ∧ (s.bitBltOf 0x100).arg.width.toNat = 8 ∧
     (bitBltTarget (s.bitBltOf 0x100) 0).word = 0x2000 ∧ (s.entryOf 0x2000).isVacant = true) ∧
    (let s := withEntry (bitBltMachine [0x100]) 0x30 6 0
     s.quiet ∧ (bitBltOrigin (s.bitBltOf 0x100) 0).word = 0x3000 ∧ s.readable (bitBltTarget (s.bitBltOf 0x100) 0).word ∧
     (s.entryOf 0x3000).isVacant = true) ∧
    (let s := withEntry (bitBltMachine [0x100]) 0x20 4 0x20
     s.quiet ∧ (bitBltTarget (s.bitBltOf 0x100) 0).word = 0x2000 ∧ s.readable 0x2000 ∧
     s.readable (bitBltOrigin (s.bitBltOf 0x100) 0).word ∧ (s.entryOf 0x2000).isProtected = true) ∧
    (let s := withEntry (placed (bitBltMachine [0x100]) [(0x100, 0x20FF)]) 0x21 6 0
     s.quiet ∧ s.holds 0 [0x100] ∧ 2 ≤ s.stack.length ∧ s.savedSP = s.sp ∧ s.readableAll (s.recordAddresses 0x100 12) ∧
     s.bitBltLegal 0x100 ∧ 1 < (s.bitBltOf 0x100).arg.height.toNat ∧ s.movable (s.bitBltOf 0x100) 1 ∧
     (bitBltTarget (skipLines 1 (s.bitBltOf 0x100)) 0).word = 0x2100 ∧ (s.entryOf 0x2100).isVacant = true) ∧
    (let s := withEntry (placed (bitBltMachine [0x100]) [(0x100, 0x20FE), (0x102, 9)]) 0x21 6 0
     s.quiet ∧ s.bitBltLegal 0x100 ∧ s.movable (s.bitBltOf 0x100) 1 ∧
     (∀ j < 7, s.storable (bitBltTarget (skipLines 1 (s.bitBltOf 0x100)) j).word ∧
       s.readable (bitBltOrigin (skipLines 1 (s.bitBltOf 0x100)) j).word) ∧
     (bitBltTarget (skipLines 1 (s.bitBltOf 0x100)) 7).word = 0x2100 ∧ (s.entryOf 0x2100).isVacant = true) := by
  refine ⟨⟨by unfold State.quiet; decide +kernel, holds_withEntry _ _ _ (holds_machine _ _), by decide +kernel, by decide +kernel,
      readable_mem (by decide +kernel), ⟨by decide, by decide +kernel⟩, by decide +kernel, by decide +kernel, by decide +kernel,
      by decide +kernel⟩,
    ⟨by unfold State.quiet; decide +kernel, by decide +kernel, readable_one (by decide +kernel), by decide +kernel⟩,
    ⟨by unfold State.quiet; decide +kernel, by decide +kernel, readable_one (by decide +kernel), readable_one (by decide +kernel),
      by decide +kernel⟩,
    ⟨by unfold State.quiet; decide +kernel, holds_withEntry _ _ _ (holds_machine _ _), by decide +kernel, by decide +kernel,
      readable_mem (by decide +kernel), ⟨by decide, by decide +kernel⟩, by decide +kernel, movable_of (by decide +kernel),
      by decide +kernel, by decide +kernel⟩,
    by unfold State.quiet; decide +kernel, ⟨by decide, by decide +kernel⟩, movable_of (by decide +kernel), fun j hj => ?_,
      by decide +kernel, by decide +kernel⟩
  have h := List.all_eq_true.1 (by decide +kernel : (List.range 7).all (fun j =>
    let s := withEntry (placed (bitBltMachine [0x100]) [(0x100, 0x20FE), (0x102, 9)]) 0x21 6 0
    storesOk s [(bitBltTarget (skipLines 1 (s.bitBltOf 0x100)) j).word] &&
      readsOk s [(bitBltOrigin (skipLines 1 (s.bitBltOf 0x100)) j).word]) = true) j (List.mem_range.2 hj)
  have h := Bool.and_eq_true_iff.1 h
  exact ⟨storable_one h.1, readable_one h.2⟩

/-- A restart after a suspension with the same record. -/
theorem witness_BitBltResults_restart :
    let s := bitBltMachine [0x100, 1]
    let u := { s with suspended := some ⟨s.savedPC, [0x100, 1], 0x100, s.record 0x100 12⟩ }
    u.restartable 0x100 (u.record 0x100 12) ∧ u.suspensionLeft 0x100 = none := by
  refine ⟨fun v hv _ _ _ => ?_, by decide +kernel⟩
  cases hv
  rfl

theorem witness_BitBltFrame : (bitBltMachine [0x100]).onlyWakeups ∧ (∃ t, exec .bitblt (bitBltMachine [0x100]) = .next t) ∧
    (∃ t, exec .bitblt (bitBltMachine [0x100, 1]) = .next t) ∧
    (bitBltInterrupted.onlyWakeups ∧ ∃ t, exec .bitblt bitBltInterrupted = .next t) :=
  ⟨by unfold State.onlyWakeups; decide +kernel, exists_next (by decide +kernel), exists_next (by decide +kernel),
    by unfold State.onlyWakeups; decide +kernel, exists_next (by decide +kernel)⟩

/-- The font and the text of R610 with the stack, the last index and the margin given. -/
def txtBltMachine (ws : List Word) (last margin : Word) : State :=
  placed { machine 0 ws with mds := 0 }
    [(0x100, 1), (0x101, last), (0x102, 0x2000), (0x104, 0x3000), (0x106, 0x7000), (0x108, 16), (0x109, margin), (0x10B, 0x7800),
     (0x3000, 0x6800), (0x3002, 0x4000), (0x3004, 0x5000), (0x3006, 0x6000), (0x3008, 0x6400), (0x300A, 8), (0x2000, 0x4120),
     (0x2001, 0x420D), (0x4006, 0x0808), (0x4010, 0x0808), (0x4020, 0x0808), (0x4021, 0x0808), (0x500D, 100), (0x5020, 100),
     (0x5041, 100), (0x5042, 100), (0x6010, 0x8000), (0x6006, 0x0040)]

/-- What every statement about TXTBLT asks of the state and the argument at 0100. -/
theorem txtBlt_ready {s : State} {t : TxtState} (hc : s.cfg = Config.initial) (hm : s.map = []) (hs : s.suspended = none)
    (hu : s.turns = []) (h : txtBltArgError (txtBltArg (s.record 0x100 13)) = false ∧
      s.txtBltMemoryError 0x100 (txtBltArg (s.record 0x100 13)) t = false) :
    s.undisturbed ∧ (∀ va, s.writable va) ∧ s.txtBltLegal 0x100 t ∧ s.restartable 0x100 (s.record 0x100 13) ∧
      s.cfg.fontFormat = .packed :=
  ⟨hu, writable_all hc hm, ⟨by decide, h.1, h.2⟩, restartable_of hs, by rw [hc]; rfl⟩

theorem positionsFit_of {s : State} {a : TxtBltArg} {t : TxtState} (hc : s.cfg = Config.initial)
    (h : (s.txtStates a txtBltFuel t).all (fun u => decide (u.bitPos.toNat ≤ 32767)) = true) : s.positionsFit a t :=
  Or.inl ⟨by rw [hc]; rfl, fun u hu => of_decide_eq_true (List.all_eq_true.1 h u hu)⟩

/-- A format and a resolve; the bound on positions for a font of another format; and a first character whose text or `coord` entry
faults. -/
theorem witness_TxtBltCompletes :
    (let s := txtBltMachine [0, 0, 0, 0, 0x100] 3 1000
     s.holds 0 [0, 0, 0, 0, 0x100] ∧ interruptPending s = false ∧ (s.undisturbed ∧ (∀ va, s.writable va) ∧
       s.txtBltLegal 0x100 ⟨0, 0, 0, 0⟩ ∧ s.restartable 0x100 (s.record 0x100 13) ∧ s.cfg.fontFormat = .packed) ∧
     (txtBltArg (s.record 0x100 13)).function = .format ∧ s.clear (s.scanWords 0x100 ⟨0, 0, 0, 0⟩) ∧
     s.positionsFit (txtBltArg (s.record 0x100 13)) ⟨0, 0, 0, 0⟩) ∧
    (let s := txtBltCharacter 2 1 4
     s.holds 0 [1, 4, 0, 0, 0x100] ∧ interruptPending s = false ∧ (s.undisturbed ∧ (∀ va, s.writable va) ∧
       s.txtBltLegal 0x100 ⟨1, 4, 0, 0⟩ ∧ s.restartable 0x100 (s.record 0x100 13) ∧ s.cfg.fontFormat = .packed) ∧
     (txtBltArg (s.record 0x100 13)).function = .resolve ∧ s.clear (s.scanWords 0x100 ⟨1, 4, 0, 0⟩) ∧ s.positionsFit (txtBltArg (s.record 0x100 13)) ⟨1, 4, 0, 0⟩ ∧
     Memory.wf s.mem = true ∧ (∀ va vb, s.realAddress va = s.realAddress vb → va = vb) ∧
     (txtBltArg (s.record 0x100 13)).last = 1 ∧
     ∀ i : Word, i.toNat ≤ (1 : Word).toNat → (1 : Word).toNat ≤ i.toNat →
       s.storable ((txtBltArg (s.record 0x100 13)).coord + i.setWidth 32)) ∧
    (let s := txtBltMachine [0, 0, 0, 0, 0x100] 3 1000
     (txtBltArg (s.record 0x100 13)).last ≠ 0xFFFF ∧
     (0 : Word).toNat + (256 + (txtBltArg (s.record 0x100 13)).space.toNat) * ((txtBltArg (s.record 0x100 13)).last.toNat + 1 - 0) ≤ 32767) ∧
    (let s := withEntry (txtBltMachine [0, 0, 0, 0, 0x100] 3 1000) 0x20 6 0
     s.undisturbed ∧ s.holds 0 [0, 0, 0, 0, 0x100] ∧ s.savedSP = s.sp ∧ s.readableAll (s.recordAddresses 0x100 13) ∧
     s.txtBltLegal 0x100 ⟨0, 0, 0, 0⟩ ∧ s.restartable 0x100 (s.record 0x100 13) ∧ (s.entryOf 0x2000).isVacant = true ∧
     (txtBltArg (s.record 0x100 13)).text = 0x2000) ∧
    (∀ e ∈ ([(0x78, 6, 0), (0x78, 4, 0x78), (0x20, 6, 0)] : List (Nat × Word × Long)),
     let s := withEntry (txtBltCharacter 2 1 4) e.1 e.2.1 e.2.2
     s.undisturbed ∧ s.holds 0 [1, 4, 0, 0, 0x100] ∧ s.savedSP = s.sp ∧ s.readableAll (s.recordAddresses 0x100 13) ∧
     s.restartable 0x100 (s.record 0x100 13)) ∧
    ([(0x78, 6, 0), (0x78, 4, 0x78), (0x20, 6, 0)] : List (Nat × Word × Long)).all (fun e =>
      let s := withEntry (txtBltCharacter 2 1 4) e.1 e.2.1 e.2.2
      let a := txtBltArg (s.record 0x100 13)
      !(txtBltArgError a) && !(s.txtBltMemoryError 0x100 a ⟨1, 4, 0, 0⟩) && decide (a.coord = 0x7800) && decide (a.text = 0x2000)) = true ∧
    ((withEntry (txtBltCharacter 2 1 4) 0x78 6 0).entryOf 0x7801).isVacant = true ∧
    ((withEntry (txtBltCharacter 2 1 4) 0x78 4 0x78).entryOf 0x7801).isProtected = true ∧
    ((withEntry (txtBltCharacter 2 1 4) 0x20 6 0).entryOf 0x2000).isVacant = true ∧
    (withEntry (txtBltCharacter 2 1 4) 0x20 6 0).storable 0x7801 := by
  refine ⟨⟨holds_machine _ _, by decide +kernel, txtBlt_ready rfl rfl rfl rfl (by decide +kernel), by decide +kernel,
      clear_of (by decide +kernel), positionsFit_of rfl (by decide +kernel)⟩,
    ⟨holds_machine _ _, by decide +kernel, txtBlt_ready rfl rfl rfl rfl (by decide +kernel), by decide +kernel,
      clear_of (by decide +kernel), positionsFit_of rfl (by decide +kernel), by decide +kernel, realAddress_inj rfl rfl, by decide +kernel, fun i h1 h2 => ?_⟩,
    by decide +kernel,
    ⟨by decide +kernel, holds_withEntry _ _ _ (holds_machine _ _), by decide +kernel, readable_mem (by decide +kernel),
      ⟨by decide, by decide +kernel⟩, restartable_of (by decide +kernel), by decide +kernel, by decide +kernel⟩,
    fun e he => ?_, by decide +kernel, by decide +kernel, by decide +kernel, by decide +kernel, storable_one (by decide +kernel)⟩
  · rw [BitVec.eq_of_toNat_eq (Nat.le_antisymm h1 h2)]
    exact storable_of rfl rfl (by decide +kernel)
  · have h := List.all_eq_true.1 (by decide +kernel :
      ([(0x78, 6, 0), (0x78, 4, 0x78), (0x20, 6, 0)] : List (Nat × Word × Long)).all (fun e =>
        let s := withEntry (txtBltCharacter 2 1 4) e.1 e.2.1 e.2.2
        decide (s.turns = []) && decide (s.savedSP = s.sp) && readsOk s (s.recordAddresses 0x100 13) && decide (s.suspended = none)) =
      true) e he
    simp only [Bool.and_eq_true, decide_eq_true_eq] at h
    exact ⟨h.1.1.1, holds_withEntry _ _ _ (holds_machine _ _), h.1.1.2, readable_mem h.1.2, restartable_of h.2⟩

/-- The four ends of the format function: past the last index, a stop character, the margin, and a last character, here a pad one; and a
suspension before the last. -/
theorem witness_TxtBltFormat :
    (let s := txtBltMachine [4, 0, 0, 0, 0x100] 3 1000
     let a := txtBltArg (s.record 0x100 13)
     a.function = .format ∧ clearOk s (s.recordAddresses 0x100 13) = true ∧
     ([0, 1, 2, 3].all fun i => clearOk s (s.characterWords a i)) = true ∧
     txtBltArgError a = false ∧ s.txtBltMemoryError 0x100 a ⟨4, 0, 0, 0⟩ = false ∧
     a.last.toNat < (4 : Word).toNat) ∧
    (let s := txtBltMachine [3, 0, 0, 0, 0x100] 3 1000
     let a := txtBltArg (s.record 0x100 13)
     s.txtBltMemoryError 0x100 a ⟨3, 0, 0, 0⟩ = false ∧ (3 : Word).toNat ≤ a.last.toNat ∧
     (s.characterAt a 3).flags.getLsbD 6 = true) ∧
    (let s := txtBltMachine [2, 0, 200, 0, 0x100] 3 250
     let a := txtBltArg (s.record 0x100 13)
     s.txtBltMemoryError 0x100 a ⟨2, 0, 200, 0⟩ = false ∧ (2 : Word).toNat ≤ a.last.toNat ∧
     (s.characterAt a 2).flags.getLsbD 6 = false ∧ ¬ (200 + (s.characterAt a 2).printing).toNat ≤ a.margin.toNat) ∧
    (let s := txtBltMachine [1, 32759, 900, 0, 0x100] 1 1000
     let a := txtBltArg (s.record 0x100 13)
     s.txtBltMemoryError 0x100 a ⟨1, 32759, 900, 0⟩ = false ∧ (1 : Word) = a.last ∧ (1 : Word) ≠ 0xFFFF ∧
     (s.characterAt a 1).flags.getLsbD 6 = false ∧ (s.characterAt a 1).flags.getLsbD 7 = true ∧
     (900 + (s.characterAt a 1).printing).toNat ≤ a.margin.toNat ∧
     (((s.characterAt a 1).after a 1 32759 900 0).getD 1 0).toNat = 32767) ∧
    (let s := { txtBltMachine [0, 32767, 900, 0, 0x100] 3 1000 with wdc := 0, wp := 1 }
     let a := txtBltArg (s.record 0x100 13)
     interruptPending s = true ∧ s.txtBltMemoryError 0x100 a ⟨0, 32767, 900, 0⟩ = false ∧ (0 : Word).toNat ≤ a.last.toNat ∧
     (s.characterAt a 0).flags.getLsbD 6 = false ∧ (900 + (s.characterAt a 0).printing).toNat ≤ a.margin.toNat) := by decide +kernel

/-- The resolve function at a pad character, at a stop character and at the margin, and interrupted. -/
theorem witness_TxtBltResolve :
    (let s := txtBltCharacter 2 1 4
     let a := txtBltArg (s.record 0x100 13)
     Memory.wf s.mem = true ∧ clearOk s (s.recordAddresses 0x100 13 ++ s.characterWords a 1) = true ∧
     a.function = .resolve ∧ (1 : Word) = a.last ∧ (s.characterAt a 1).flags.getLsbD 6 = false ∧
     s.cfg.txtbltMarginAll = false ∧ s.isOverhead (a.coord + (1 : Word).setWidth 32) = false ∧
     (((s.characterAt a 1).after a 1 4 0 0).getD 1 0).toNat = 15 ∧
     ((s.characterWords a 1).all fun va => decide (s.realAddress va ≠ s.realAddress (a.coord + (1 : Word).setWidth 32))) = true) ∧
    (let s := placed (txtBltCharacter 2 1 4) [(0x6010, 0xC000)]
     let a := txtBltArg (s.record 0x100 13)
     a.function = .resolve ∧ (1 : Word).toNat ≤ a.last.toNat ∧ s.txtBltMemoryError 0x100 a ⟨1, 4, 0, 0⟩ = false ∧
     (s.characterAt a 1).flags.getLsbD 6 = true) ∧
    (let s := placed { txtBltCharacter 2 1 4 with cfg := { Config.initial with txtbltMarginAll := true } } [(0x109, 99)]
     let a := txtBltArg (s.record 0x100 13)
     a.function = .resolve ∧ (1 : Word).toNat ≤ a.last.toNat ∧ s.txtBltMemoryError 0x100 a ⟨1, 4, 0, 0⟩ = false ∧
     s.cfg.txtbltMarginAll = true ∧ ¬ (0 + (s.characterAt a 1).printing).toNat ≤ a.margin.toNat) ∧
    (let s := { txtBltCharacter 2 1 4 with wdc := 0, wp := 1 }
     interruptPending s = true ∧ s.txtBltMemoryError 0x100 (txtBltArg (s.record 0x100 13)) ⟨1, 4, 0, 0⟩ = false) := by decide +kernel

/-- A last character, one that is interrupted, and one whose last column is past the line. -/
theorem witness_TxtBltDisplay :
    let s := txtBltCharacter 0 0 4
    let a := txtBltArg (s.record 0x100 13)
    let v := s.characterAt a 0
    (s.holds 0 [0, 4, 0, 0, 0x100] ∧ (s.undisturbed ∧ (∀ va, s.writable va) ∧ s.txtBltLegal 0x100 ⟨0, 4, 0, 0⟩ ∧
      s.restartable 0x100 (s.record 0x100 13) ∧ s.cfg.fontFormat = .packed)) ∧
    (Memory.wf s.mem = true ∧ a.function = .display ∧ (0 : Word) = a.last ∧ v.flags.getLsbD 6 = false ∧
      s.cfg.txtbltMarginAll = false ∧ (s.wordAt (a.font + 10)).toNat = 2 ∧ v.width.toNat = 8 ∧ v.raster.getLsbD 15 = false ∧
      ((v.after a 0 4 0 0).getD 1 0).toNat = 12 ∧
      clearOk s (s.recordAddresses 0x100 13 ++ s.characterWords a 0 ++ (List.range 16).map (s.rasterWordAt a v)) = true ∧
      ((List.range 8).all fun k => decide (((4 : Word) + BitVec.ofNat 16 k).toNat < a.dstBpl.toNat)) = true) ∧
    ((List.range 2).all fun n => (List.range 8).all fun k =>
      let va := (displayTarget a 4 n k).word
      !(s.isOverhead va) && (s.characterWords a 0).all (fun vb => decide (s.realAddress vb ≠ s.realAddress va)) &&
        (List.range 16).all fun m => decide (s.realAddress (s.rasterWordAt a v m) ≠ s.realAddress va)) = true ∧
    interruptPending s = false ∧
    (let u := { s with wdc := 0, wp := 1 }
     interruptPending u = true ∧ u.txtBltMemoryError 0x100 a ⟨0, 4, 0, 0⟩ = false) ∧
    (let u := txtBltCharacter 0 0 9
     u.txtBltMemoryError 0x100 a ⟨0, 9, 0, 0⟩ = false ∧ ¬ ((9 : Word) + BitVec.ofNat 16 7).toNat < a.dstBpl.toNat ∧
     ((List.range 2).all fun n => (List.range 8).all fun k =>
      let va := (displayTarget a 9 n k).word
      !(u.isOverhead va) && (u.characterWords a 0).all (fun vb => decide (u.realAddress vb ≠ u.realAddress va)) &&
        (List.range 16).all fun m => decide (u.realAddress (u.rasterWordAt a v m) ≠ u.realAddress va)) = true) :=
  ⟨⟨holds_machine _ _, txtBlt_ready rfl rfl rfl rfl (by decide +kernel)⟩, by decide +kernel, by decide +kernel, by decide +kernel,
    by decide +kernel, by decide +kernel⟩

theorem witness_TxtBltFrame : (∃ t, exec .txtblt (txtBltMachine [0, 0, 0, 0, 0x100] 3 1000) = .next t) ∧
    (∃ t, exec .txtblt (txtBltCharacter 2 1 4) = .next t) ∧ (∃ t, exec .txtblt (txtBltCharacter 0 0 4) = .next t) ∧
    (txtBltCharacter 0 0 4).undisturbed ∧ (txtBltCharacter 0 0 4).onlyWakeups ∧
    (∃ t, exec .txtblt (withEntry (txtBltCharacter 0 0 4) 0x70 4 0x70) = .next t) ∧
    (withEntry (txtBltCharacter 0 0 4) 0x70 4 0x70).onlyWakeups :=
  ⟨exists_next (by decide +kernel), exists_next (by decide +kernel), exists_next (by decide +kernel), rfl, fun _ h => (nomatch h),
    exists_next (by decide +kernel), by unfold State.onlyWakeups; decide +kernel⟩

/-- A link in either place, the last that the code base's bank holds, and one beyond it. -/
theorem witness_ControlLinks : ((linked 0).undisturbed ∧ (linked 0).readableAll [0x52FFA, 0x52FFB]) ∧
    ((linked 1).undisturbed ∧ (linked 1).readableAll [0x20003E, 0x20003F, 0x200000, 0x200001] ∧
      2 * 31 + 2 ≤ (linked 1).cb.toNat % 65536 ∧ ¬ 2 * 32 + 2 ≤ (linked 1).cb.toNat % 65536) ∧
    (linked 1).wordAt ((linked 1).lengthenPointer ((linked 1).gf - 3)) = 1 :=
  ⟨⟨rfl, readable_mem (by decide +kernel)⟩, ⟨rfl, readable_mem (by decide +kernel), by decide, by decide⟩, by decide +kernel⟩

/-- Operands and a map, a code base or frames that each clause refuses. -/
theorem witness_Refusals : (machine 1 [7, 8]).holds 1 [7, 8] ∧ (0 : Byte).toNat < 1 ∧ 4 < (5 : Byte).toNat ∧
    (0xF0 : Byte).toInt < -15 ∧ 15 < (0x10 : Byte).toInt ∧
    (let s := machine 1 [0xA0, 0, 0x123, 0, 0]
     s.holds 1 [0xA0, 0, 0x123, 0, 0] ∧ s.cfg.virtualPage 0xA0 = true ∧ vacantFlags 0 = false ∧ aliased s 0xA0 0x123 = true) ∧
    (let s := machine 1 [0x2000, 0, 0, 0, 6]
     s.holds 1 [0x2000, 0, 0, 0, 6] ∧ s.cfg.virtualPage 0x2000 = true ∧ vacantFlags 6 = true ∧ codePageViolation s 0x2000 6 = true) ∧
    (let s := withEntry (machine 1 [0xA0, 0, 0]) 0xA0 0 0x123
     s.holds 1 [0xA0, 0, 0] ∧ (s.readMap 0xA0).isVacant = false ∧ aliased s 0xA0 (s.readMap 0xA0).real = true) ∧
    (let s := machine 1 [0x2000, 0, 2]
     s.holds 1 [0x2000, 0, 2] ∧ (s.readMap 0x2000).isVacant = false ∧ aliased s 0x2000 (s.readMap 0x2000).real = false ∧
     codePageViolation s 0x2000 2 = true) ∧
    (let s := withEntry (machine 1 [7, 0x1000]) 0x510 0 0x1000000
     s.undisturbed ∧ s.holds 1 [7, 0x1000] ∧ (s.entryOf 0x51000).isVacant = false ∧ (s.entryOf 0x51000).isProtected = false ∧
     s.cfg.realPage (s.realAddress 0x51000 / 256) = false) ∧
    (let s := machine 1 [7, 0x1FFC]
     s.holds 1 [7, 0x1FFC] ∧ s.writable (s.lengthenPointer 0x1FFC) ∧ s.isOverhead (s.lengthenPointer 0x1FFC) = true) ∧
    (let s := { machine 13 [] with gf := 0x2004 }
     s.writable (s.lengthenPointer s.lf) ∧ s.isOverhead (s.lengthenPointer s.lf) = true) ∧
    (let s := { machine 1 [7, 0x0100] with cb := 0x0020FF00 }
     s.undisturbed ∧ s.holds 1 [7, 0x0100] ∧ s.codeInBank 0x0100 = false) ∧
    (let s := { machine 1 [7] with lf := 0x2001 }
     s.exception = none ∧ s.scan = none ∧ s.timeoutNow = false ∧ interruptPending s.withEnvironment = false ∧
     s.withEnvironment.running = true ∧ s.withEnvironment.contextLegal = false) :=
  ⟨holds_machine _ _, by decide, by decide, by decide, by decide, ⟨holds_machine _ _, by decide +kernel⟩,
    ⟨holds_machine _ _, by decide +kernel⟩, ⟨holds_withEntry _ _ _ (holds_machine 1 _), by decide +kernel⟩,
    ⟨holds_machine _ _, by decide +kernel⟩, ⟨by decide +kernel, holds_withEntry _ _ _ (holds_machine 1 _), by decide +kernel⟩,
    ⟨holds_machine _ _, writable_all rfl rfl _, by decide +kernel⟩, ⟨writable_all rfl rfl _, by decide +kernel⟩,
    ⟨rfl, holds_machine _ _, by decide +kernel⟩, by decide +kernel⟩

/-- `s`, with the block transfer that stands on its stack suspended, another record read. -/
def suspendedOther (s : State) (n : Nat) : State :=
  { s with suspended := some ⟨s.savedPC, s.stack.take s.sp, 0x100, List.replicate n 1⟩ }

/-- An argument off its boundary, one with an error (a height beyond 32767; a function in no use), operands that overlap (for a display: the
bitmap with the font record, each of the font's arrays, the raster, the text, the record) or leave their bank (the bitmap, an array of
the font, the text), the first of these where a fault is still to come (a vacant page of printing widths; the text), a position beyond 32767, a record changed in between, a stack with more on it, and one with nothing on it. -/
theorem witness_BlockTransferStops :
    ((machine 0 []).undisturbed ∧ (machine 0 []).sp = 0 ∧ (machine 0 []).sp ≠ 5) ∧
    ((bitBltMachine [0x101]).holds 0 [0x101] ∧ (0x101 : Word) &&& 0x000F ≠ 0) ∧
    (let s := placed (bitBltMachine [0x100]) [(0x109, 0x8000)]
     s.undisturbed ∧ s.holds 0 [0x100] ∧ s.readableAll (s.recordAddresses 0x100 12) ∧ bitBltError (bitBltArg (s.record 0x100 12)) = true) ∧
    ((bitBltMachine [0x101, 1]).holds 0 [0x101, 1]) ∧
    (let s := suspendedOther (bitBltMachine [0x100, 1]) 12
     s.undisturbed ∧ s.holds 0 [0x100, 1] ∧ s.readableAll (s.recordAddresses 0x100 12) ∧
     ∃ old, s.suspended = some ⟨s.savedPC, s.stack.take s.sp, 0x100, old⟩ ∧ old ≠ s.record 0x100 12) ∧
    (let s := placed (bitBltMachine [0x100, 1]) [(0x109, 0x8000)]
     s.holds 0 [0x100, 1] ∧ s.restartable 0x100 (s.record 0x100 12) ∧ bitBltError (bitBltArg (s.record 0x100 12)) = true) ∧
    (let s := bitBltMachine [7, 0x100, 1]
     s.holds 1 [0x100, 1] ∧ s.restartable 0x100 (s.record 0x100 12) ∧ bitBltError (bitBltArg (s.record 0x100 12)) = false) ∧
    ((txtBltMachine [0, 0, 0, 0, 0x101] 3 1000).holds 0 [0, 0, 0, 0, 0x101]) ∧
    (let s := suspendedOther (txtBltMachine [0, 0, 0, 0, 0x100] 3 1000) 13
     s.undisturbed ∧ s.holds 0 [0, 0, 0, 0, 0x100] ∧ s.readableAll (s.recordAddresses 0x100 13) ∧
     ∃ old, s.suspended = some ⟨s.savedPC, s.stack.take s.sp, 0x100, old⟩ ∧ old ≠ s.record 0x100 13) ∧
    (let s := placed (txtBltMachine [0, 0, 0, 0, 0x100] 3 1000) [(0x100, 3)]
     s.holds 0 [0, 0, 0, 0, 0x100] ∧ s.restartable 0x100 (s.record 0x100 13) ∧ txtBltArgError (txtBltArg (s.record 0x100 13)) = true) ∧
    (let s := placed (txtBltMachine [0, 0, 0, 0, 0x100] 3 1000) [(0x102, 0x3000)]
     s.holds 0 [0, 0, 0, 0, 0x100] ∧ s.restartable 0x100 (s.record 0x100 13) ∧
     s.txtBltMemoryError 0x100 (txtBltArg (s.record 0x100 13)) ⟨0, 0, 0, 0⟩ = true) ∧
    ([(0x106, 0x3000), (0x106, 0x401F), (0x106, 0x5040), (0x106, 0x601F), (0x106, 0x6440), (0x106, 0x67FF), (0x106, 0x1FFF),
        (0x106, 0x00FF), (0x106, 0xFFFF), (0x3004, 0xFFF0)] : List (Nat × Word)).all (fun p =>
      let s := placed (txtBltCharacter 0 0 4) [p]
      s.txtBltMemoryError 0x100 (txtBltArg (s.record 0x100 13)) ⟨0, 4, 0, 0⟩) = true ∧
    (([(0x106, 0x3000), (0x106, 0xFFFF)] : List (Nat × Word)).all fun p =>
      let s := withEntry (placed (txtBltCharacter 0 0 4) [p]) 0x50 6 0
      s.txtBltMemoryError 0x100 (txtBltArg (s.record 0x100 13)) ⟨0, 4, 0, 0⟩) = true ∧
    (let s := withEntry (placed (txtBltCharacter 2 1 4) [(0x10B, 0x00FF)]) 0x20 6 0
     s.txtBltMemoryError 0x100 (txtBltArg (s.record 0x100 13)) ⟨1, 4, 0, 0⟩ = true) ∧
    (let s := placed (txtBltCharacter 1 2 4) [(0x102, 0xFFFF)]
     s.txtBltMemoryError 0x100 (txtBltArg (s.record 0x100 13)) ⟨2, 4, 0, 0⟩ = true) ∧
    32767 < (0x8000 : Word).toNat :=
  ⟨⟨rfl, rfl, by decide +kernel⟩, ⟨holds_machine _ _, by decide⟩,
    ⟨rfl, holds_machine _ _, readable_mem (by decide +kernel), by decide +kernel⟩, holds_machine _ _,
    ⟨rfl, holds_machine _ _, readable_mem (by decide +kernel), _, rfl, by decide +kernel⟩,
    ⟨holds_machine _ _, restartable_of rfl, by decide +kernel⟩, ⟨holds_machine 1 [0x100, 1], restartable_of rfl, by decide +kernel⟩,
    holds_machine _ _, ⟨rfl, holds_machine _ _, readable_mem (by decide +kernel), _, rfl, by decide +kernel⟩,
    ⟨holds_machine _ _, restartable_of rfl, by decide +kernel⟩, ⟨holds_machine _ _, restartable_of rfl, by decide +kernel⟩,
    by decide +kernel, by decide +kernel, by decide +kernel, by decide +kernel, by decide⟩

end Sys2Proof.Tests
end

section
/-! SUPPORT. The words on the evaluation stack: writing words over words, and pop, push and discard by the words up to the top and those
left above it. -/

namespace Sys2Proof.Machine

theorem getElem?_setWords (ws st : List Word) (base i : Nat) :
    (setWords st base ws)[i]? =
      if base ≤ i ∧ i < base + ws.length then st[i]?.bind fun _ => ws[i - base]? else st[i]? := by
  induction ws generalizing st base with
  | nil => simp [setWords, show ¬ (base ≤ i ∧ i < base) by omega]
  | cons w ws ih =>
    simp only [setWords, ih, List.length_cons]
    by_cases hb : base = i
    · subst hb; cases h : st[base]? <;> simp [h, List.getElem?_set_self']
    · rw [List.getElem?_set_ne hb]
      by_cases hi : base + 1 ≤ i ∧ i < base + 1 + ws.length
      · rw [if_pos hi, if_pos (by omega), show i - base = (i - (base + 1)) + 1 by omega, List.getElem?_cons_succ]
      · rw [if_neg hi, if_neg (by omega)]

@[simp] theorem length_setWords (st : List Word) (base : Nat) (ws : List Word) : (setWords st base ws).length = st.length := by
  induction ws generalizing st base with
  | nil => rfl
  | cons w ws ih => rw [setWords, ih, List.length_set]

theorem setWords_append (ws vs st : List Word) (base : Nat) :
    setWords st base (ws ++ vs) = setWords (setWords st base ws) (base + ws.length) vs := by
  induction ws generalizing st base with
  | nil => rfl
  | cons w ws ih => simp only [List.cons_append, setWords, ih, List.length_cons, Nat.add_comm 1, Nat.add_assoc]

/-- Words that a stack holds already. -/
theorem setWords_of_wordsFrom {ws st : List Word} {base : Nat} (h : wordsFrom st base ws)
    (hl : base + ws.length ≤ st.length) : setWords st base ws = st := by
  induction ws generalizing base with
  | nil => rfl
  | cons w ws ih =>
    obtain ⟨hw, hws⟩ := h
    simp only [List.length_cons] at hl
    rw [setWords, set_of_getD (by omega) hw, ih hws (by omega)]

/-- Writing below the words. -/
theorem set_setWords_of_lt {i base : Nat} (h : i < base) (ws st : List Word) (w : Word) :
    (setWords st base ws).set i w = setWords (st.set i w) base ws := by
  induction ws generalizing st base with
  | nil => rfl
  | cons v ws ih => rw [setWords, setWords, ih (by omega), List.set_comm _ _ (by omega)]

/-- Writing the word after `ws`. -/
theorem set_setWords_append (ws above st : List Word) (base : Nat) (w : Word) :
    (setWords st base (ws ++ above)).set (base + ws.length) w = setWords st base (ws ++ [w] ++ above.tail) := by
  rw [List.append_assoc, setWords_append, setWords_append]
  cases above with
  | nil => rfl
  | cons v above =>
    simp only [setWords, List.tail_cons, List.cons_append, List.nil_append]
    rw [set_setWords_of_lt (by omega), List.set_set]

/-- Reading the word after `ws`. -/
theorem getD_setWords_append {st : List Word} {base : Nat} {ws : List Word} (w : Word) (above : List Word)
    (h : base + ws.length < st.length) : (setWords st base (ws ++ w :: above)).getD (base + ws.length) 0 = w := by
  rw [List.getD_eq_getElem?_getD, getElem?_setWords]
  simp [h]

theorem wordsFrom_congr {st st' : List Word} {ws : List Word} {base : Nat} (h : ∀ i, base ≤ i → st'[i]? = st[i]?)
    (hw : wordsFrom st base ws) : wordsFrom st' base ws := by
  induction ws generalizing base with
  | nil => trivial
  | cons w ws ih =>
    refine ⟨?_, ih (fun i hi => h i (by omega)) hw.2⟩
    rw [List.getD_eq_getElem?_getD, h base le_rfl, ← List.getD_eq_getElem?_getD, hw.1]

theorem wordsFrom_drop {st : List Word} {base : Nat} (vs : List Word) {rest : List Word} (h : wordsFrom st base (vs ++ rest)) :
    wordsFrom st (base + vs.length) rest := by
  induction vs generalizing base with
  | nil => exact h
  | cons v vs ih => simpa [Nat.add_assoc, Nat.add_comm 1] using ih h.2

/-! The evaluation stack as the words that a routine works on, `ws` up to the top and `above` over it: a pop moves the top word over, a
push writes over the first word above. -/

theorem State.result_of_holds {s : State} {base : Nat} {ws : List Word} (h : s.holds base ws) : s.result base ws [] = s := by
  obtain ⟨hsp, hlen, hws⟩ := h
  rw [State.result, List.append_nil, setWords_of_wordsFrom hws (hsp ▸ hlen), ← hsp]

theorem State.holds_bound {s : State} {base : Nat} {ws : List Word} (h : s.holds base ws) :
    base + ws.length ≤ s.stack.length := h.1 ▸ h.2.1

section Zipper
variable {s : State} {base : Nat} {ws : List Word} {w : Word} {above : List Word}

theorem pop_append (h : base + (ws ++ [w]).length ≤ s.stack.length) :
    pop (s.result base (ws ++ [w]) above) = .ok w (s.result base ws (w :: above)) := by
  simp only [List.length_append, List.length_singleton] at h
  have hsp : (s.result base (ws ++ [w]) above).sp = base + ws.length + 1 := by simp; omega
  rw [pop_ok (by omega), hsp, State.result_stack, List.append_assoc, List.singleton_append, Nat.add_sub_cancel,
    getD_setWords_append _ _ (by omega)]
  simp [State.result]

theorem pop_result (hne : ws ≠ []) (h : base + ws.length ≤ s.stack.length) :
    pop (s.result base ws above) = .ok (ws.getLast hne) (s.result base ws.dropLast (ws.getLast hne :: above)) := by
  rw [← List.dropLast_append_getLast hne] at h
  have hp := pop_append (above := above) h
  rwa [List.dropLast_append_getLast hne] at hp

theorem push_result (h : base + ws.length < s.stack.length) :
    push w (s.result base ws above) = .ok () (s.result base (ws ++ [w]) above.tail) := by
  rw [push_ok _ (by simpa using h), State.result_stack, State.result_sp, set_setWords_append]
  simp [State.result, Nat.add_assoc]

theorem discard_result (hne : ws ≠ []) :
    discard (s.result base ws above) = .ok () (s.result base ws.dropLast (ws.getLast hne :: above)) := by
  obtain ⟨ws, w, rfl⟩ := (List.eq_nil_or_concat ws).resolve_left hne
  simp only [List.concat_eq_append] at *
  have hsp : (s.result base (ws ++ [w]) above).sp = base + ws.length + 1 := by simp; omega
  rw [discard_ok (by omega), hsp]
  simp [State.result]

theorem popLong_result (hne : ws.dropLast ≠ []) (h : base + ws.length ≤ s.stack.length) :
    popLong (s.result base ws above) =
      .ok (Long.ofHalves (ws.getLast (by rintro rfl; exact hne rfl)) (ws.dropLast.getLast hne))
        (s.result base ws.dropLast.dropLast (ws.dropLast.getLast hne :: ws.getLast (by rintro rfl; exact hne rfl) :: above)) := by
  have hws : ws ≠ [] := by rintro rfl; exact hne rfl
  have hd : base + ws.dropLast.length ≤ s.stack.length := by rw [List.length_dropLast]; omega
  simp [popLong, pop_result hws h, pop_result hne hd]

theorem popLong_append {low high : Word} (h : base + (ws ++ [low, high]).length ≤ s.stack.length) :
    popLong (s.result base (ws ++ [low, high]) above) =
      .ok (Long.ofHalves high low) (s.result base ws (low :: high :: above)) := by
  rw [popLong_result (by simp) h]
  simp

theorem pushLong_result (u : Long) (h : base + ws.length + 1 < s.stack.length) :
    pushLong u (s.result base ws above) = .ok () (s.result base (ws ++ [Long.low u, Long.high u]) above.tail.tail) := by
  have hlow := push_result (w := Long.low u) (above := above) (show base + ws.length < s.stack.length by omega)
  have hhigh := push_result (w := Long.high u) (above := above.tail)
    (show base + (ws ++ [Long.low u]).length < s.stack.length by simpa using by omega)
  simp [pushLong, hlow, hhigh]

end Zipper

/-- An instruction run from the words it works on. -/
theorem complete_of_holds {s t : State} {base : Nat} {ws : List Word} {m : Act Unit} (h : s.holds base ws)
    (hm : m (s.result base ws []) = .ok () t) : complete m s = .next t :=
  complete_ok (State.result_of_holds h ▸ hm)

/-- Words far above the top that an instruction has only moved over. -/
theorem State.result_rest {s : State} {base : Nat} {vs ws above rest : List Word} (h : s.holds base (vs ++ rest))
    (hl : vs.length = ws.length + above.length) : s.result base ws (above ++ rest) = s.result base ws above := by
  have hb := State.holds_bound h
  rw [List.length_append] at hb
  have hrest : wordsFrom s.stack (base + vs.length) rest := wordsFrom_drop vs h.2.2
  have kept : ∀ i, base + vs.length ≤ i → (setWords s.stack base (ws ++ above))[i]? = s.stack[i]? := fun i hi => by
    rw [getElem?_setWords, if_neg (by rw [List.length_append]; omega)]
  rw [State.result, ← List.append_assoc, setWords_append, List.length_append, ← hl,
    setWords_of_wordsFrom (wordsFrom_congr kept hrest) (by rw [length_setWords]; omega), State.result]

end Sys2Proof.Machine
end

section
/-! The stack instructions with results (41_stack.md R261 to R301). -/

namespace Sys2Proof.Machine

/-! Words and halves of results. -/

theorem compareResult_decide (p q : Prop) [Decidable p] [Decidable q] :
    compareResult (decide p) (decide q) = if p then 1 else if q then 0xFFFF else 0 := by
  simp [compareResult]

theorem Long.low_eq_ofNat (u : Long) : Long.low u = BitVec.ofNat 16 u.toNat := by
  apply BitVec.eq_of_toNat_eq
  simp [Long.low]

theorem lengthen_toNat (w : Word) : (lengthen w).toNat = w.toNat := BitVec.toNat_setWidth_of_le (by decide)

theorem low_lengthen_mul (a b : Word) : Long.low (lengthen a * lengthen b) = BitVec.ofNat 16 (a.toNat * b.toNat) := by
  apply BitVec.eq_of_toNat_eq
  simp [Long.low, lengthen_toNat]

theorem high_lengthen_mul (a b : Word) : Long.high (lengthen a * lengthen b) = BitVec.ofNat 16 (a.toNat * b.toNat / 65536) := by
  apply BitVec.eq_of_toNat_eq
  simp only [Long.high, BitVec.extractLsb'_toNat, BitVec.toNat_mul, lengthen_toNat, BitVec.toNat_ofNat, Nat.shiftRight_eq_div_pow]
  omega

theorem low_div_lengthen (u : Long) (c : Word) : Long.low (u / lengthen c) = BitVec.ofNat 16 (u.toNat / c.toNat) := by
  rw [Long.low_eq_ofNat, BitVec.toNat_udiv, lengthen_toNat]

theorem low_mod_lengthen (u : Long) (c : Word) : Long.low (u % lengthen c) = BitVec.ofNat 16 (u.toNat % c.toNat) := by
  rw [Long.low_eq_ofNat, BitVec.toNat_umod, lengthen_toNat]

/-! The instructions. -/

section Instructions
variable {s : State} {base : Nat} {a b c d : Word}

theorem exec_lint (h : s.holds base [a]) (hr : s.room 1) :
    exec .lint s = .next (s.result base [a, if a.msb then 0xFFFF else 0] []) := by
  have hl : base + 2 ≤ s.stack.length := by rw [State.room, h.1] at hr; exact hr
  refine complete_of_holds h ?_
  simp (disch := simp; try omega) [pop_result, push_result]

theorem exec_shiftsb {alpha : Byte} (h : s.holds base [a]) (h1 : -15 ≤ alpha.toInt) (h2 : alpha.toInt ≤ 15) :
    exec (.shiftsb alpha) s = .next (s.result base [shiftWord a alpha.toInt] []) := by
  have hl : base + 1 ≤ s.stack.length := State.holds_bound h
  have hw : shiftCountWellFormed alpha = true := by simp [shiftCountWellFormed, h1, h2]
  refine complete_of_holds h ?_
  simp (disch := simp; try omega) [pop_result, push_result, hw]

/-- A function of a double word with a word over it (R279, R288). -/
theorem longByWord_ok (f : Long → Word → Long) (h : s.holds base [a, b, c]) :
    complete (do let v ← pop; let u ← popLong; pushLong (f u v)) s =
      .next (s.result base [Long.low (f (Long.ofHalves b a) c), Long.high (f (Long.ofHalves b a) c)] []) := by
  have hl : base + 3 ≤ s.stack.length := State.holds_bound h
  refine complete_of_holds h ?_
  simpa (disch := simp; try omega) [pop_result, popLong_result, pushLong_result]
    using State.result_rest (vs := [a, b]) (above := []) h rfl

theorem exec_adc (h : s.holds base [a, b, c]) : exec .adc s = .next (s.result base
    [Long.low (lengthen a + Long.ofHalves c b), Long.high (lengthen a + Long.ofHalves c b)] []) := by
  have hl : base + 3 ≤ s.stack.length := State.holds_bound h
  refine complete_of_holds h ?_
  simpa (disch := simp; try omega) [pop_result, popLong_result, pushLong_result]
    using State.result_rest (vs := [a, b]) (above := []) h rfl

/-- A word from two double words (R300, R301). -/
theorem wordOfLongs_ok (f : Long → Long → Word) (h : s.holds base [a, b, c, d]) :
    complete (do let v ← popLong; let u ← popLong; push (f u v)) s =
      .next (s.result base [f (Long.ofHalves b a) (Long.ofHalves d c)] []) := by
  have hl : base + 4 ≤ s.stack.length := State.holds_bound h
  refine complete_of_holds h ?_
  simpa (disch := simp; try omega) [popLong_result, push_result]
    using State.result_rest (vs := [a]) (above := []) h rfl

theorem exec_mul (h : s.holds base [a, b]) :
    exec .mul s = .next (s.result base [Long.low (lengthen a * lengthen b)] [Long.high (lengthen a * lengthen b)]) := by
  have hl : base + 2 ≤ s.stack.length := State.holds_bound h
  refine complete_of_holds h ?_
  simp (disch := simp; try omega) [pop_result, pushLong_result, discard_result]

/-- A division of words by a divisor that is not 0 (R292, R293). -/
theorem divide_ok (q r : Word → Word → Word) (h : s.holds base [a, b]) (hb : b ≠ 0) :
    complete (do
        let v ← pop
        let u ← pop
        if v = 0 then raiseTrap .divZeroTrap
        else
          push (q u v)
          push (r u v)
          discard) s = .next (s.result base [q a b] [r a b]) := by
  have hl : base + 2 ≤ s.stack.length := State.holds_bound h
  refine complete_of_holds h ?_
  simpa (disch := simp; try omega) [pop_result, push_result, discard_result] using hb

/-- A division of double words by a divisor that is not 0 (R295, R296). -/
theorem divideLong_ok (q r : Long → Long → Long) (h : s.holds base [a, b, c, d]) (hk : Long.ofHalves d c ≠ 0) :
    complete (do
        let v ← popLong
        let u ← popLong
        if v = 0 then raiseTrap .divZeroTrap
        else
          pushLong (q u v)
          pushLong (r u v)
          discard
          discard) s =
      .next (s.result base
        [Long.low (q (Long.ofHalves b a) (Long.ofHalves d c)), Long.high (q (Long.ofHalves b a) (Long.ofHalves d c))]
        [Long.low (r (Long.ofHalves b a) (Long.ofHalves d c)), Long.high (r (Long.ofHalves b a) (Long.ofHalves d c))]) := by
  have hl : base + 4 ≤ s.stack.length := State.holds_bound h
  refine complete_of_holds h ?_
  simpa (disch := simp; try omega) [popLong_result, pushLong_result, discard_result] using hk

theorem exec_ludiv (h : s.holds base [a, b, c]) (hbc : b.toNat < c.toNat) : exec .ludiv s = .next (s.result base
    [Long.low (Long.ofHalves b a / lengthen c)] [Long.low (Long.ofHalves b a % lengthen c)]) := by
  have hl : base + 3 ≤ s.stack.length := State.holds_bound h
  have hc : ¬ c = 0#16 := by rintro rfl; simp at hbc
  have hle : ¬ c ≤ b := by rw [BitVec.le_def]; omega
  refine complete_of_holds h ?_
  simpa (disch := simp; try omega) [pop_result, popLong_result, push_result, discard_result, hc, hle]
    using State.result_rest (vs := [a, b]) (ws := [Long.low (Long.ofHalves b a / lengthen c)])
      (above := [Long.low (Long.ofHalves b a % lengthen c)]) h rfl

end Instructions

/-- Settles O21: each is `unaryWord` or `unaryLong` of its function. -/
theorem unaryResults : Obligations.UnaryResults := by
  intro s base u high alpha
  refine ⟨fun h => ?_, fun h => ?_⟩
  · have word (f : Word → Word) := complete_ok (unaryWord_ok f h)
    have hneg : exec .neg s = .next (s.result base [-u] []) := by
      rw [← BitVec.zero_sub u]; exact word _
    have htrpl : exec .trpl s = .next (s.result base [3 * u] []) := by
      rw [BitVec.mul_comm]; exact word _
    simp only [List.forall_mem_cons, List.not_mem_nil, false_imp_iff, implies_true, and_true]
    exact ⟨hneg, word _, word _, word _, word _, htrpl⟩
  · have long (f : Long → Long) := complete_ok (unaryLong_ok f h)
    simp only [List.forall_mem_cons, List.not_mem_nil, false_imp_iff, implies_true, and_true]
    exact ⟨long _, long _⟩

/-- Settles O23: each instruction run on its words; the operands it leaves above the top stand there already. -/
theorem mixedResults : Obligations.MixedResults := by
  intro s base a b c d alpha
  refine ⟨exec_lint, exec_shiftsb, fun h =>
    ⟨longByWord_ok (fun u v => shiftLong u v.toInt) h, exec_adc h, longByWord_ok (fun u v => u + lengthen v) h⟩, fun h => ?_⟩
  refine ⟨?_, ?_⟩
  · simp only [← compareResult_decide]
    exact wordOfLongs_ok (fun u v => compareResult (decide (v.toInt < u.toInt)) (decide (u.toInt < v.toInt))) h
  · simp only [← BitVec.lt_def, ← compareResult_decide]
    exact wordOfLongs_ok (fun u v => compareResult (decide (v < u)) (decide (u < v))) h

/-- Settles O24: the second result is pushed and discarded, and so stays above the top. -/
theorem multiplyDivideResults : Obligations.MultiplyDivideResults := by
  intro s base a b c d
  refine ⟨fun h => ?_, fun h hb => ⟨divide_ok signedQuotient signedRemainder h hb, ?_⟩, fun h hbc => ?_, fun h hcd => ?_⟩
  · rw [exec_mul h, low_lengthen_mul, high_lengthen_mul]
  · rw [← BitVec.udiv_def, ← BitVec.umod_def]
    exact divide_ok (· / ·) (· % ·) h hb
  · rw [exec_ludiv h hbc, low_div_lengthen, low_mod_lengthen, Long.ofHalves_toNat]
  · have hk : Long.ofHalves d c ≠ 0 := by rw [Ne, Long.ofHalves_eq_zero]; tauto
    refine ⟨divideLong_ok signedLongQuotient signedLongRemainder h hk, ?_⟩
    rw [← BitVec.udiv_def, ← BitVec.umod_def]
    exact divideLong_ok (· / ·) (· % ·) h hk

end Sys2Proof.Machine
end

section
/-! The shifts bit by bit, and signed division (00_scope.md R19 to R23). -/

namespace Sys2Proof.Machine

/-- A shift of any width: left for a positive count, right for a negative one (R19, R21). -/
theorem getLsbD_shift {w : Nat} (u : BitVec w) (count : Int) {i : Nat} (hi : i < w) :
    (if w - 1 < count.natAbs then 0 else if 0 ≤ count then u <<< count.toNat else u >>> (-count).toNat).getLsbD i =
      (decide (0 ≤ (i : Int) - count) && u.getLsbD ((i : Int) - count).toNat) := by
  by_cases hc : 0 ≤ (i : Int) - count
  case neg =>
    rw [decide_eq_false hc, Bool.false_and]
    split
    case isTrue => exact BitVec.getLsbD_zero
    case isFalse => rw [if_pos (by omega), BitVec.getLsbD_shiftLeft, decide_eq_true (show i < count.toNat by omega)]; simp
  case pos =>
    rw [decide_eq_true hc, Bool.true_and]
    split
    case isTrue => rw [BitVec.getLsbD_of_ge u _ (by omega)]; exact BitVec.getLsbD_zero
    case isFalse =>
      split
      case isTrue =>
        rw [BitVec.getLsbD_shiftLeft, decide_eq_true hi, decide_eq_false (show ¬ i < count.toNat by omega),
          show i - count.toNat = ((i : Int) - count).toNat by omega]
        simp
      case isFalse => rw [BitVec.getLsbD_ushiftRight, show (-count).toNat + i = ((i : Int) - count).toNat by omega]

theorem getLsbD_shiftWord (u : Word) (count : Int) {i : Nat} (hi : i < 16) :
    (shiftWord u count).getLsbD i = (decide (0 ≤ (i : Int) - count) && u.getLsbD ((i : Int) - count).toNat) :=
  getLsbD_shift u count hi

theorem getLsbD_shiftLong (u : Long) (count : Int) {i : Nat} (hi : i < 32) :
    (shiftLong u count).getLsbD i = (decide (0 ≤ (i : Int) - count) && u.getLsbD ((i : Int) - count).toNat) :=
  getLsbD_shift u count hi

theorem getLsbD_rotateWord (u : Word) (count : Int) {i : Nat} (hi : i < 16) :
    (rotateWord u count).getLsbD i = u.getLsbD (((i : Int) - count) % 16).toNat := by
  have hr : (count % 16).toNat % 16 = (count % 16).toNat := Nat.mod_eq_of_lt (by omega)
  rw [rotateWord, BitVec.getLsbD_rotateLeft, hr]
  by_cases h : i < (count % 16).toNat
  · rw [decide_eq_true h, cond_true, show 16 - (count % 16).toNat + i = (((i : Int) - count) % 16).toNat by omega]
  · rw [decide_eq_false h, cond_false, decide_eq_true hi, Bool.true_and,
      show i - (count % 16).toNat = (((i : Int) - count) % 16).toNat by omega]

/-! Signed division. -/

theorem signedRemainder_toInt (j k : Word) : (signedRemainder j k).toInt = j.toInt.tmod k.toInt := by
  rw [signedRemainder, ← BitVec.toInt_srem, BitVec.ofInt_toInt]

theorem signedQuotient_toInt {j k : Word} (h : ¬ (j = 0x8000 ∧ k = 0xFFFF)) :
    (signedQuotient j k).toInt = j.toInt.tdiv k.toInt := by
  have hne : j ≠ BitVec.intMin 16 ∨ k ≠ -1#16 := Decidable.not_and_iff_or_not.1 h
  rw [signedQuotient, ← BitVec.toInt_sdiv_of_ne_or_ne j k hne, BitVec.ofInt_toInt]

/-- Settles O25: the shifts by one lemma for every width, the division by the library's on truncated division of integers. -/
theorem shiftAndDivisionRules : Obligations.ShiftAndDivisionRules := by
  refine ⟨fun u l count => ⟨fun i => getLsbD_shiftWord u count, fun i => getLsbD_shiftLong l count,
    fun i => getLsbD_rotateWord u count⟩, fun j k hk => ⟨fun h => ?_, ?_⟩⟩
  · have hk : k.toInt ≠ 0 := fun h => hk (BitVec.toInt_inj.1 h)
    rw [signedQuotient_toInt h, signedRemainder_toInt]
    refine ⟨Int.tdiv_mul_add_tmod _ _, ?_, Int.tmod_nonneg _, fun hj => ?_⟩
    · rw [Int.natAbs_tmod]
      exact Nat.mod_lt _ (Int.natAbs_pos.2 hk)
    · have := Int.tmod_nonneg k.toInt (Int.neg_nonneg_of_nonpos hj)
      rw [Int.neg_tmod] at this
      omega
  · rintro rfl rfl
    decide

end Sys2Proof.Machine
end

section
/-! SUPPORT. Accesses while a routine has words of the stack in hand, and routines that are refused. -/

namespace Sys2Proof.Machine

section Result
variable (s : State) (base : Nat) (ws above : List Word)

@[simp] theorem State.readable_result (va : Long) : (s.result base ws above).readable va ↔ s.readable va := Iff.rfl

@[simp] theorem State.wordAt_result (va : Long) : (s.result base ws above).wordAt va = s.wordAt va := rfl

@[simp] theorem State.lengthenPointer_result (ptr : Word) :
    (s.result base ws above).lengthenPointer ptr = s.lengthenPointer ptr := rfl

@[simp] theorem State.codeAddress_result (offset : Word) :
    (s.result base ws above).codeAddress offset = s.codeAddress offset := rfl

@[simp] theorem State.codeInBank_result (offset : Word) :
    (s.result base ws above).codeInBank offset = s.codeInBank offset := rfl

@[simp] theorem State.codeReadable_result (offset : Word) :
    (s.result base ws above).codeReadable offset ↔ s.codeReadable offset := Iff.rfl

theorem State.touch_result (va : Long) (a : Access) :
    (s.result base ws above).touch va a = (s.touch va a).result base ws above :=
  (s.touch_stacked _ _ va a).trans (by simp [State.stacked, State.result])

end Result

theorem State.holds_touch {s : State} {base : Nat} {ws : List Word} (va : Long) (a : Access) :
    (s.touch va a).holds base ws ↔ s.holds base ws := by
  simp [State.holds]

/-- All the words popped. -/
theorem State.result_popped {s : State} {base : Nat} {ws : List Word} (h : s.holds base ws) :
    s.result base [] ws = { s with sp := base } := by
  have hw := setWords_of_wordsFrom h.2.2 (State.holds_bound h)
  simp [State.result, hw]

/-- From this state the routine is refused, as `r`. -/
def Refuses {α : Type} (r : Refusal) (m : Act α) (s : State) : Prop := ∃ t, m s = .error (.refused r) t

section Refuses
variable {r : Refusal} {s t : State} {α β : Type}

theorem Refuses.complete {m : Act Unit} (h : Refuses r m s) : complete m s = .refused r := by
  obtain ⟨t, h⟩ := h
  simp [Machine.complete, h]

theorem Refuses.bind {m : Act α} (h : Refuses r m s) (f : α → Act β) : Refuses r (m >>= f) s := by
  obtain ⟨t, h⟩ := h
  exact ⟨t, bind_error h⟩

/-- The refusal comes after a first part that succeeds. -/
theorem Refuses.after {m : Act α} {f : α → Act β} {a : α} (hm : m s = .ok a t) (h : Refuses r (f a) t) :
    Refuses r (m >>= f) s := by
  obtain ⟨u, h⟩ := h
  exact ⟨u, (bind_ok hm).trans h⟩

theorem Refuses.of_holds {m : Act α} {base : Nat} {ws : List Word} (h : s.holds base ws)
    (hm : Refuses r m (s.result base ws [])) : Refuses r m s :=
  State.result_of_holds h ▸ hm

end Refuses

end Sys2Proof.Machine
end

section
/-! The unconditional and the indexed jumps (42_jump.md R318 to R322, R350 to R352). -/

namespace Sys2Proof.Machine

theorem complete_jumpBy (disp : Word) (s : State) : complete (jumpBy disp) s = .next { s with pc := s.savedPC + disp } := rfl

section Indexed
variable {s : State} {base : Nat} {index limit table : Word} (h : s.holds base [index, limit])
include h

/-- The start of an indexed jump: the limit and the index are popped and compared. -/
theorem popIndex_apply (m : Word → Act Unit) :
    (do let limit ← pop; let index ← pop; if index < limit then m index else return ()) s =
      if index < limit then m index { s with sp := base } else .ok () { s with sp := base } := by
  have hl : base + 2 ≤ s.stack.length := State.holds_bound h
  conv_lhs => rw [← State.result_of_holds h]
  rw [← State.result_popped h]
  simp (disch := simp; try omega) [pop_result]

/-- The table word of an index in range, and the jump by a displacement in it. -/
theorem readCode_jumpBy {offset : Word} (disp : Word → Word) (hu : s.undisturbed) (hc : s.codeReadable offset) :
    (do let w ← readCode offset; jumpBy (disp w)) { s with sp := base } =
      .ok () { s.reads [s.codeAddress offset] with sp := base, pc := s.savedPC + disp (s.wordAt (s.codeAddress offset)) } := by
  have ht := State.result_popped ((State.holds_touch (s.codeAddress offset) .read).2 h)
  rw [← State.result_popped h]
  simp [readCode_ok (s := s.result base [] [index, limit]) hu hc, State.touch_result, ht]

theorem exec_jib_outOfRange (hr : limit.toNat ≤ index.toNat) : exec (.jib table) s = .next { s with sp := base } :=
  complete_ok ((popIndex_apply h _).trans (if_neg (Nat.not_lt.2 hr)))

theorem exec_jiw_outOfRange (hr : limit.toNat ≤ index.toNat) : exec (.jiw table) s = .next { s with sp := base } :=
  complete_ok ((popIndex_apply h _).trans (if_neg (Nat.not_lt.2 hr)))

theorem exec_jib_inRange (hr : index.toNat < limit.toNat) (hu : s.undisturbed) (hc : s.codeReadable (table + (index >>> 1))) :
    let va := s.codeAddress (table + (index >>> 1))
    exec (.jib table) s = .next { s.reads [va] with
      sp := base
      pc := s.savedPC + byteWord (if index.getLsbD 0 then Word.right (s.wordAt va) else Word.left (s.wordAt va)) } :=
  complete_ok <| (popIndex_apply h _).trans <| (if_pos hr).trans <|
    readCode_jumpBy h (fun w => byteWord (if index.getLsbD 0 then Word.right w else Word.left w)) hu hc

theorem exec_jiw_inRange (hr : index.toNat < limit.toNat) (hu : s.undisturbed) (hc : s.codeReadable (table + index)) :
    let va := s.codeAddress (table + index)
    exec (.jiw table) s = .next { s.reads [va] with sp := base, pc := s.savedPC + s.wordAt va } :=
  complete_ok <| (popIndex_apply h _).trans <| (if_pos hr).trans <| readCode_jumpBy h id hu hc

end Indexed

theorem exec_js {s : State} {base : Nat} {w : Word} (h : s.holds base [w]) :
    exec .js s = .next { s with sp := base, pc := w } := by
  have hl : base + 1 ≤ s.stack.length := State.holds_bound h
  refine complete_of_holds h ?_
  simp (disch := simp; try omega) [pop_result, State.result_popped h]

/-- Settles O27: out of range the two pops are all that happens; in range the table word is read from the state they leave. -/
theorem unconditionalAndIndexedJumps : Obligations.UnconditionalAndIndexedJumps := by
  refine ⟨fun s base w alpha => ⟨?_, exec_js, rfl⟩, fun s base index limit table h => ⟨fun hr => ?_, fun hr => ⟨?_, ?_⟩⟩⟩
  · simp only [List.forall_mem_cons, List.not_mem_nil, false_imp_iff, implies_true, and_true]
    exact ⟨complete_jumpBy _ s, complete_jumpBy _ s, complete_jumpBy _ s, complete_jumpBy _ s, complete_jumpBy _ s,
      complete_jumpBy _ s, complete_jumpBy _ s, complete_jumpBy _ s, complete_jumpBy _ s⟩
  · exact ⟨exec_jib_outOfRange h hr, exec_jiw_outOfRange h hr⟩
  · exact fun hu hc => exec_jib_inRange h hr hu hc
  · exact fun hu hc => exec_jiw_inRange h hr hu hc

end Sys2Proof.Machine
end

section
/-! Fields that leave their word (45_string_field.md R500, R501). -/

namespace Sys2Proof.Machine

theorem readField_illegal {f : FieldSpec} (hf : f.wellFormed = false) (w : Word) (s : State) :
    Refuses .fieldSpecifier (readField w f) s :=
  ⟨s, by simp [readField, hf]⟩

theorem writeField_illegal {f : FieldSpec} (hf : f.wellFormed = false) (w data : Word) (s : State) :
    Refuses .fieldSpecifier (writeField w f data) s :=
  ⟨s, by simp [writeField, hf]⟩

section Illegal
variable {s : State} {va : Long} {f : FieldSpec} (hf : f.wellFormed = false) (hu : s.undisturbed)
include hf hu

theorem fetchField_illegal (h : s.readable va) : Refuses .fieldSpecifier (fetchField va f) s :=
  .after (fetch_ok hu h) (readField_illegal hf _ _)

theorem storeField_illegal (data : Word) (h : s.readable va) : Refuses .fieldSpecifier (storeField va f data) s :=
  .after (fetch_ok hu h) ((writeField_illegal hf _ _ _).bind _)

theorem loadField_illegal (h : s.readable va) : Refuses .fieldSpecifier (loadField va f) s :=
  (fetchField_illegal hf hu h).bind _

variable {base : Nat} {a b c : Word} {above : List Word}

theorem readFieldDirect_illegal {offset : Word} (hl : base + 1 ≤ s.stack.length)
    (h : s.readable (s.lengthenPointer (a + offset))) :
    Refuses .fieldSpecifier (readFieldDirect offset f) (s.result base [a] above) :=
  .after (pop_append (ws := []) hl) <| .after (act_get _) <|
    loadField_illegal (s := s.result base [] _) hf hu ((State.readable_result ..).2 h)

theorem readFieldDirectLong_illegal {offset : Long} (hl : base + 2 ≤ s.stack.length)
    (h : s.readable (Long.ofHalves b a + offset)) :
    Refuses .fieldSpecifier (readFieldDirectLong offset f) (s.result base [a, b] above) :=
  .after (popLong_append (ws := []) hl) (loadField_illegal (s := s.result base [] _) hf hu ((State.readable_result ..).2 h))

theorem writeFieldDirect_illegal {offset : Word} (hl : base + 2 ≤ s.stack.length)
    (h : s.readable (s.lengthenPointer (b + offset))) :
    Refuses .fieldSpecifier (writeFieldDirect offset f) (s.result base [a, b] above) :=
  .after (pop_append (ws := [a]) hl) <| .after (pop_append (ws := []) (Nat.le_of_succ_le hl)) <|
    .after (act_get _) <| storeField_illegal (s := s.result base [] _) hf hu _ ((State.readable_result ..).2 h)

theorem writeFieldDirectLong_illegal {offset : Long} (hl : base + 3 ≤ s.stack.length)
    (h : s.readable (Long.ofHalves c b + offset)) :
    Refuses .fieldSpecifier (writeFieldDirectLong offset f) (s.result base [a, b, c] above) :=
  .after (popLong_append (ws := [a]) hl) <| .after (pop_append (ws := []) (by simp; omega)) <|
    storeField_illegal (s := s.result base [] _) hf hu _ ((State.readable_result ..).2 h)

theorem writeFieldSwapped_illegal {offset : Word} (hl : base + 2 ≤ s.stack.length)
    (h : s.readable (s.lengthenPointer (a + offset))) :
    Refuses .fieldSpecifier (writeFieldSwapped offset f) (s.result base [a, b] above) :=
  .after (pop_append (ws := [a]) hl) <| .after (pop_append (ws := []) (Nat.le_of_succ_le hl)) <|
    .after (act_get _) <| storeField_illegal (s := s.result base [] _) hf hu _ ((State.readable_result ..).2 h)

/-- The field of a word at a short pointer in a frame (R511). -/
theorem rlipf_illegal {pair : NibblePair} (h : s.readable (s.lengthenPointer (s.lf + nibbleWord pair.left)))
    (h' : s.readable (s.lengthenPointer (s.wordAt (s.lengthenPointer (s.lf + nibbleWord pair.left)) + nibbleWord pair.right))) :
    exec (.rlipf pair f) s = .refused .fieldSpecifier :=
  Refuses.complete <| .after (fetch_ok hu h) <|
    loadField_illegal hf (hu.touch _ _) ((State.readable_touch h.accessible _).2 h')

/-- The field of a word at a long pointer in a frame (R512). -/
theorem rlilpf_illegal {pair : NibblePair} (h : s.readable (s.lengthenPointer (s.lf + nibbleWord pair.left)))
    (h1 : s.readable (s.lengthenPointer (s.lf + nibbleWord pair.left) + 1))
    (h' : s.readable (s.longAt (s.lengthenPointer (s.lf + nibbleWord pair.left)) + nibbleLong pair.right)) :
    exec (.rlilpf pair f) s = .refused .fieldSpecifier :=
  have ht := (State.readable_touch h.accessible _).2 h1
  have ht' := (State.readable_touch h.accessible _).2 h'
  Refuses.complete <| .after (readDbl_ok hu h h1) <|
    loadField_illegal hf ((hu.touch _ _).touch _ _) ((State.readable_touch ht.accessible _).2 ht')

end Illegal

theorem pslf_illegal {s : State} {base : Nat} {a b c : Word} {desc : FieldDesc} (hf : desc.field.wellFormed = false)
    (hu : s.undisturbed) (h : s.holds base [a, b, c])
    (hr : s.readable (Long.ofHalves b a + byteLong desc.offset)) : exec (.pslf desc) s = .refused .fieldSpecifier :=
  have hl := State.holds_bound h
  Refuses.complete <| .of_holds h <| .after (pop_append (ws := [a, b]) hl) <|
    .after (popLong_append (ws := []) (Nat.le_of_succ_le hl)) <|
    (storeField_illegal (s := s.result base [] _) hf hu _ ((State.readable_result ..).2 hr)).bind _

/-! A descriptor on the stack (R509, R510, R519). -/

section Descriptor
variable {s : State} {base : Nat} {a b c w : Word} (hf : (fieldDesc w).field.wellFormed = false) (hu : s.undisturbed)
include hf hu

theorem rlfs_illegal (h : s.holds base [a, b, w]) (hr : s.readable (Long.ofHalves b a + byteLong (fieldDesc w).offset)) :
    exec .rlfs s = .refused .fieldSpecifier :=
  have hl := State.holds_bound h
  Refuses.complete <| .of_holds h <| .after (pop_append (ws := [a, b]) hl) <|
    readFieldDirectLong_illegal hf hu (Nat.le_of_succ_le hl) hr

theorem rcfs_illegal (h : s.holds base [a, w]) (hb : s.codeInBank (a + byteWord (fieldDesc w).offset) = true)
    (hr : s.readable (s.codeAddress (a + byteWord (fieldDesc w).offset))) :
    exec .rcfs s = .refused .fieldSpecifier :=
  have hl := State.holds_bound h
  Refuses.complete <| .of_holds h <| .after (pop_append (ws := [a]) hl) <|
    .after (pop_append (ws := []) (Nat.le_of_succ_le hl)) <|
    .after (readCode_ok (s := s.result base [] [a, w]) hu ⟨hb, hr⟩) <| (readField_illegal hf _ _).bind _

theorem wlfs_illegal (h : s.holds base [a, b, c, w]) (hr : s.readable (Long.ofHalves c b + byteLong (fieldDesc w).offset)) :
    exec .wlfs s = .refused .fieldSpecifier :=
  have hl := State.holds_bound h
  Refuses.complete <| .of_holds h <| .after (pop_append (ws := [a, b, c]) hl) <|
    writeFieldDirectLong_illegal hf hu (Nat.le_of_succ_le hl) hr

end Descriptor

theorem State.readableAll_nil (s : State) : s.readableAll [] ↔ True := by simp [State.readableAll]

theorem State.readableAll_cons {s : State} {va : Long} {vas : List Long} :
    s.readableAll (va :: vas) ↔ s.readable va ∧ s.readableAll vas := by
  simp [State.readableAll]

/-- Settles O40: each instruction reads its word and then finds its field illegal. -/
theorem illegalFields : Obligations.IllegalFields := by
  intro s base a b c w desc pair hu f wide refused
  simp only [refused, State.readableAll_cons, State.readableAll_nil, and_true]
  refine ⟨fun hf => ⟨fun h => ?_, fun h => ?_, fun h => ?_, ?_⟩,
    fun hf => ⟨rlfs_illegal hf hu, rcfs_illegal hf hu, wlfs_illegal hf hu⟩⟩
  · have hl := State.holds_bound h
    have direct {offset : Word} (hr : s.readable (s.lengthenPointer (a + offset))) :=
      (Refuses.of_holds h (readFieldDirect_illegal hf hu hl hr)).complete
    exact ⟨direct, fun hr => direct (offset := 0) (by simpa using hr)⟩
  · have hl := State.holds_bound h
    have readLong {offset : Long} (hr : s.readable (Long.ofHalves b a + offset)) :=
      (Refuses.of_holds h (readFieldDirectLong_illegal hf hu hl hr)).complete
    have write {offset : Word} (hr : s.readable (s.lengthenPointer (b + offset))) :=
      (Refuses.of_holds h (writeFieldDirect_illegal hf hu hl hr)).complete
    have swapped {offset : Word} (hr : s.readable (s.lengthenPointer (a + offset))) :=
      Refuses.of_holds h (writeFieldSwapped_illegal hf hu hl hr)
    refine ⟨readLong, fun hr => readLong (offset := 0) ?_, write, fun hr => write (offset := 0) ?_,
      fun hr => (swapped (offset := 0) ?_).complete, fun hr => ((swapped (offset := 0) ?_).bind _).complete,
      fun hr => ((swapped hr).bind _).complete⟩
    all_goals simpa using hr
  · have hl := State.holds_bound h
    have writeLong {offset : Long} (hr : s.readable (Long.ofHalves c b + offset)) :=
      (Refuses.of_holds h (writeFieldDirectLong_illegal hf hu hl hr)).complete
    exact ⟨writeLong, fun hr => writeLong (offset := 0) (by simpa using hr), pslf_illegal hf hu h⟩
  · exact ⟨fun ⟨h, h'⟩ => rlipf_illegal hf hu h h', fun ⟨h, h1, h'⟩ => rlilpf_illegal hf hu h h1 h'⟩

end Sys2Proof.Machine
end

section
/-! SUPPORT. A relation that the elementary changes of the state respect is one that every routine respects, from the state in which it
begins to the state in which it ends, whether it succeeds or raises. -/

namespace Sys2Proof.Machine

/-- What a routine can do to the state, one change at a time, keeps states related by `R`. The writes of registers are not among them:
only their own instructions make them (`RegisterWrite`). -/
structure RoutineRel (R : State → State → Prop) : Prop where
  refl : ∀ s, R s s
  trans : ∀ s t u, R s t → R t u → R s u
  pushed : ∀ (s : State) (w : Word), s.sp < s.stack.length → R s { s with stack := s.stack.set s.sp w, sp := s.sp + 1 }
  popped : ∀ s : State, s.sp ≠ 0 → R s { s with sp := s.sp - 1 }
  recovered : ∀ s : State, s.sp < s.stack.length → R s { s with sp := s.sp + 1 }
  turned : ∀ s : State, R s s.takeTurn
  turnsCleared : ∀ s : State, R s { s with turns := [] }
  touched : ∀ (s : State) (va : Long) (a : Access), s.accessible va a → R s (s.touch va a)
  wordPut : ∀ (s : State) (va : Long) (ra : Nat) (w : Word), R s (s.putWord va ra w)
  mapWritten : ∀ (s : State) (vp : Nat) (flags : Word) (real : Long), R s (s.writeMap vp flags real)
  jumped : ∀ (s : State) (pc : Word), R s { s with pc := pc }
  freeUsed : ∀ s : State, R s { s with freeIndex := s.freeIndex + 1 }
  suspensionNoted : ∀ (s : State) (u : Option Suspension), R s { s with suspended := u }
  scanNoted : ∀ (s : State) (u : Option TxtScan), R s { s with scan := u }
  stackSaved : ∀ s : State, R s { s with savedSP := s.sp }
  exceptionTaken : ∀ (e : Exception) (s : State), R s (takeException e s)

namespace RoutineRel
variable {R : State → State → Prop} (hR : RoutineRel R)
include hR

/-! Control. -/

section Control
variable {α β : Type}

theorem bind {m : Act α} {f : α → Act β} (hm : Keeps R m) (hf : ∀ a, Keeps R (f a)) : Keeps R (m >>= f) :=
  keeps_bind hR.trans hm hf

theorem pure (a : α) : Keeps R (pure a : Act α) := keeps_pure hR.refl a

theorem throw (e : Raise) : Keeps R (throw e : Act α) := keeps_throw hR.refl e

theorem get : Keeps R (get : Act State) := fun s => hR.refl s

theorem raiseTrap (t : Trap) : Keeps R (raiseTrap t : Act α) := hR.throw _

theorem refuse (r : Refusal) : Keeps R (refuse r : Act α) := hR.throw _

theorem loop {body : Act Bool} (h : Keeps R body) (fuel : Nat) : Keeps R (loop body fuel) :=
  keeps_loop hR.refl hR.trans h fuel

/-- An optional first part. -/
theorem optional {c : Prop} [Decidable c] {m : Act Unit} {f : Unit → Act α} (hm : Keeps R m) (hf : ∀ u, Keeps R (f u)) :
    Keeps R (if c then m >>= f else f ()) :=
  keeps_ite (hR.bind hm hf) (hf ())

/-- A completed routine relates its states. -/
theorem complete {m : Act Unit} {s t : State} (hm : Keeps R m) (h : complete m s = .next t) : R s t :=
  complete_keeps hR.trans hR.exceptionTaken hm h

end Control

/-! The evaluation stack. -/

theorem push (w : Word) : Keeps R (push w) := by
  intro s
  by_cases h : s.sp < s.stack.length
  · rw [push_ok w h]; exact hR.pushed s w h
  · rw [push_full w h]; exact hR.refl s

theorem pop : Keeps R pop := by
  intro s
  by_cases h : s.sp = 0
  · rw [pop_empty h]; exact hR.refl s
  · rw [pop_ok h]; exact hR.popped s h

theorem recover : Keeps R recover := by
  intro s
  by_cases h : s.sp < s.stack.length
  · rw [recover_ok h]; exact hR.recovered s h
  · rw [recover_full h]; exact hR.refl s

theorem discard : Keeps R discard := by
  intro s
  by_cases h : s.sp = 0
  · rw [discard_empty h]; exact hR.refl s
  · rw [discard_ok h]; exact hR.popped s h

theorem minimalStack : Keeps R minimalStack :=
  hR.bind hR.get fun _ => keeps_ite (hR.pure _) (hR.throw _)

theorem pushLong (u : Long) : Keeps R (pushLong u) := hR.bind (hR.push _) fun _ => hR.push _

theorem popLong : Keeps R popLong := hR.bind hR.pop fun _ => hR.bind hR.pop fun _ => hR.pure _

/-! Memory. -/

theorem deviceTurn : Keeps R deviceTurn := hR.turned

theorem translate (va : Long) (a : Access) : Keeps R (translate va a) := by
  intro s
  rcases translate_cases s va a with ⟨ha, h⟩ | ⟨k, h⟩
  · rw [h]; exact hR.touched s va a ha
  · rw [h]; exact hR.refl s

theorem checkReal (ra : Nat) : Keeps R (checkReal ra) := hR.bind hR.get fun _ => keeps_ite (hR.pure _) (hR.refuse _)

theorem checkOverhead (va : Long) : Keeps R (checkOverhead va) :=
  hR.bind hR.get fun _ => keeps_ite (hR.refuse _) (hR.pure _)

theorem putWord (va : Long) (ra : Nat) (w : Word) : Keeps R (modify fun s => s.putWord va ra w : Act Unit) :=
  keeps_modify fun s => hR.wordPut s va ra w

theorem fetch (va : Long) : Keeps R (fetch va) :=
  hR.bind hR.deviceTurn fun _ => hR.bind (hR.translate va _) fun ra => hR.bind (hR.checkReal ra) fun _ =>
    hR.bind (hR.checkOverhead va) fun _ => hR.bind hR.get fun _ => hR.pure _

theorem fetchOverhead (va : Long) : Keeps R (fetchOverhead va) :=
  hR.bind hR.deviceTurn fun _ => hR.bind (hR.translate va _) fun ra => hR.bind (hR.checkReal ra) fun _ =>
    hR.bind hR.get fun _ => hR.pure _

theorem store (va : Long) (w : Word) : Keeps R (store va w) :=
  hR.bind hR.deviceTurn fun _ => hR.bind (hR.translate va _) fun ra => hR.bind (hR.checkReal ra) fun _ =>
    hR.bind (hR.checkOverhead va) fun _ => hR.putWord va ra w

theorem storePop (va : Long) : Keeps R (storePop va) :=
  hR.bind hR.deviceTurn fun _ => hR.bind (hR.translate va _) fun ra => hR.bind (hR.checkReal ra) fun _ =>
    hR.bind (hR.checkOverhead va) fun _ => hR.bind hR.pop fun w => hR.putWord va ra w

theorem storeOverheadPop (va : Long) : Keeps R (storeOverheadPop va) :=
  hR.bind hR.deviceTurn fun _ => hR.bind (hR.translate va _) fun ra => hR.bind (hR.checkReal ra) fun _ =>
    hR.bind hR.pop fun w => hR.putWord va ra w

theorem fetchMds (ptr : Word) : Keeps R (fetchMds ptr) := hR.bind hR.get fun _ => hR.fetch _

theorem storeMds (ptr w : Word) : Keeps R (storeMds ptr w) := hR.bind hR.get fun _ => hR.store _ w

theorem storeMdsPop (ptr : Word) : Keeps R (storeMdsPop ptr) := hR.bind hR.get fun _ => hR.storePop _

theorem readDbl (va : Long) : Keeps R (readDbl va) :=
  hR.bind (hR.fetch va) fun _ => hR.bind (hR.fetch _) fun _ => hR.pure _

theorem readDblMds (ptr : Word) : Keeps R (readDblMds ptr) := hR.bind hR.get fun _ => hR.readDbl _

theorem fetchByte (ptr offset : Long) : Keeps R (fetchByte ptr offset) := hR.bind (hR.fetch _) fun _ => hR.pure _

theorem storeByte (ptr offset : Long) (b : Byte) : Keeps R (storeByte ptr offset b) :=
  hR.bind (hR.fetch _) fun _ => hR.store _ _

theorem readCode (offset : Word) : Keeps R (readCode offset) :=
  hR.bind hR.get fun _ => keeps_ite (hR.fetch _) (hR.refuse _)

theorem fetchedCode (va : Long) (w : Word) : Keeps R (fetchedCode va w) :=
  keeps_get_bind fun s => by
    simp only [act_ite]
    split
    · exact hR.refl s
    · exact hR.freeUsed s

theorem getCodeByte : Keeps R getCodeByte :=
  hR.bind hR.get fun _ => hR.bind (hR.readCode _) fun _ => hR.bind (hR.fetchedCode _ _) fun _ =>
    hR.bind (keeps_modify fun t => hR.jumped t _) fun _ => hR.pure _

/-! Free values, interrupts and jumps. -/

theorem freeWord : Keeps R freeWord := hR.freeUsed

theorem freeLong : Keeps R freeLong := hR.freeUsed

theorem pollInterrupt : Keeps R pollInterrupt :=
  hR.bind hR.get fun _ => hR.bind hR.deviceTurn fun _ => hR.bind hR.get fun _ => hR.pure _

theorem suspend : Keeps R suspend := fun s => hR.jumped s _

theorem jumpBy (disp : Word) : Keeps R (jumpBy disp) := fun s => hR.jumped s _

/-! Fields, bits, packed bytes and argument records. -/

theorem readField (w : Word) (f : FieldSpec) : Keeps R (readField w f) := keeps_ite (hR.pure _) (hR.refuse _)

theorem writeField (w : Word) (f : FieldSpec) (data : Word) : Keeps R (writeField w f data) :=
  keeps_ite (hR.pure _) (hR.refuse _)

theorem fetchField (va : Long) (f : FieldSpec) : Keeps R (fetchField va f) :=
  hR.bind (hR.fetch va) fun _ => hR.readField _ f

theorem storeField (va : Long) (f : FieldSpec) (data : Word) : Keeps R (storeField va f data) :=
  hR.bind (hR.fetch va) fun _ => hR.bind (hR.writeField _ f data) fun _ => hR.store va _

theorem readBit (a : BitAddress) (offset : Word) : Keeps R (readBit a offset) :=
  hR.bind (hR.fetch _) fun _ => hR.pure _

theorem writeBit (a : BitAddress) (offset : Word) (b : Bool) : Keeps R (writeBit a offset b) :=
  hR.bind (hR.fetch _) fun _ => hR.store _ _

theorem fetchRecord (ptr : Word) (n : Nat) : Keeps R (fetchRecord ptr n) := by
  induction n generalizing ptr with
  | zero => exact hR.pure _
  | succ n ih => exact hR.bind (hR.fetchMds ptr) fun _ => hR.bind (ih _) fun _ => hR.pure _

theorem noteSuspension (ptr : Word) (record : List Word) : Keeps R (noteSuspension ptr record) :=
  fun s => hR.suspensionNoted s _

theorem checkRestart (start : State) (ptr : Word) (record : List Word) : Keeps R (checkRestart start ptr record) := by
  intro s
  rcases checkRestart_cases start s ptr record with h | h | h
  · rw [h]; exact hR.refl s
  · rw [h]; exact hR.suspensionNoted s _
  · rw [h]; exact hR.refl s

theorem packedByte (base : Long) (index : Word) : Keeps R (packedByte base index) :=
  hR.bind (hR.fetch _) fun _ => hR.pure _

theorem characterFlags (font : Long) (char : Word) (flagsIndex : Nat) : Keeps R (characterFlags font char flagsIndex) :=
  keeps_get_bind fun s => by
    cases s.cfg.fontFormat with
    | packed => exact hR.bind (hR.readDbl _) (fun base => hR.bind (hR.packedByte base char) fun _ => hR.pure _) s
    | other => exact hR.freeUsed s

theorem characterRaster (font : Long) (char : Word) : Keeps R (characterRaster font char) :=
  hR.bind (hR.readDbl _) fun _ => hR.bind (hR.fetch _) fun _ => hR.bind hR.get fun _ => hR.pure _

end RoutineRel

end Sys2Proof.Machine
end

section
/-! SUPPORT. The routines that instructions share, and those of the block transfers, BITBLT and TXTBLT, keep what the elementary changes
keep. -/

namespace Sys2Proof.Machine

namespace RoutineRel
variable {R : State → State → Prop} (hR : RoutineRel R)
include hR

/-! Frames and pointers. -/

theorem loadMds (ptr : Word) : Keeps R (loadMds ptr) := hR.bind (hR.fetchMds ptr) fun _ => hR.push _

theorem loadDoubleMds (ptr : Word) : Keeps R (loadDoubleMds ptr) :=
  hR.bind (hR.fetchMds ptr) fun _ => hR.bind (hR.push _) fun _ => hR.bind (hR.fetchMds _) fun _ => hR.push _

theorem storeDoubleMds (ptr : Word) : Keeps R (storeDoubleMds ptr) :=
  hR.bind (hR.storeMdsPop _) fun _ => hR.storeMdsPop ptr

theorem putMds (ptr : Word) : Keeps R (putMds ptr) := hR.bind (hR.storeMdsPop ptr) fun _ => hR.recover

theorem putDoubleMds (ptr : Word) : Keeps R (putDoubleMds ptr) :=
  hR.bind (hR.storeDoubleMds ptr) fun _ => hR.bind hR.recover fun _ => hR.recover

theorem loadLong (va : Long) : Keeps R (loadLong va) := hR.bind (hR.fetch va) fun _ => hR.push _

theorem readDoubleMds (ptr : Word) : Keeps R (readDoubleMds ptr) :=
  hR.bind (hR.fetchMds ptr) fun _ => hR.bind (hR.fetchMds _) fun _ => hR.bind (hR.push _) fun _ => hR.push _

theorem readDoubleLong (va : Long) : Keeps R (readDoubleLong va) :=
  hR.bind (hR.fetch va) fun _ => hR.bind (hR.fetch _) fun _ => hR.bind (hR.push _) fun _ => hR.push _

theorem storeDoubleLong (va : Long) : Keeps R (storeDoubleLong va) := hR.bind (hR.storePop _) fun _ => hR.storePop va

theorem readDirect (offset : Word) : Keeps R (readDirect offset) := hR.bind hR.pop fun _ => hR.loadMds _

theorem readDirectLong (offset : Long) : Keeps R (readDirectLong offset) := hR.bind hR.popLong fun _ => hR.loadLong _

theorem readDirectDouble (offset : Word) : Keeps R (readDirectDouble offset) :=
  hR.bind hR.pop fun _ => hR.readDoubleMds _

theorem readDirectDoubleLong (offset : Long) : Keeps R (readDirectDoubleLong offset) :=
  hR.bind hR.popLong fun _ => hR.readDoubleLong _

theorem writeDirect (offset : Word) : Keeps R (writeDirect offset) := hR.bind hR.pop fun _ => hR.storeMdsPop _

theorem putSwappedDouble (offset : Word) : Keeps R (putSwappedDouble offset) :=
  hR.bind hR.pop fun _ => hR.bind hR.pop fun _ => hR.bind hR.pop fun _ => hR.bind (hR.storeMds _ _) fun _ =>
    hR.bind (hR.storeMds _ _) fun _ => hR.recover

theorem readIndirect (base offset : Word) : Keeps R (readIndirect base offset) :=
  hR.bind (hR.fetchMds base) fun _ => hR.loadMds _

theorem readIndirectLong (base : Word) (offset : Long) : Keeps R (readIndirectLong base offset) :=
  hR.bind (hR.readDblMds base) fun _ => hR.loadLong _

theorem readIndirectDouble (base offset : Word) : Keeps R (readIndirectDouble base offset) :=
  hR.bind (hR.fetchMds base) fun _ => hR.readDoubleMds _

/-! Jumps. -/

theorem jumpIf (taken : Bool) (disp : Word) : Keeps R (jumpIf taken disp) := keeps_ite (hR.jumpBy disp) (hR.pure _)

theorem jumpOnWord (test : Word → Bool) (disp : Word) : Keeps R (jumpOnWord test disp) :=
  hR.bind hR.pop fun _ => hR.jumpIf _ disp

theorem jumpOnPair (test : Word → Word → Bool) (disp : Word) : Keeps R (jumpOnPair test disp) :=
  hR.bind hR.pop fun _ => hR.bind hR.pop fun _ => hR.jumpIf _ disp

theorem jumpOnLongPair (test : Long → Long → Bool) (disp : Word) : Keeps R (jumpOnLongPair test disp) :=
  hR.bind hR.popLong fun _ => hR.bind hR.popLong fun _ => hR.jumpIf _ disp

/-! The map. -/

theorem writeMap (vp : Long) (flags : Word) (real : Long) : Keeps R (writeMap vp flags real) :=
  keeps_get_bind fun s => by
    simp only [act_ite]
    split_ifs
    · exact hR.refl s
    · exact hR.refl s
    · exact hR.refl s
    · exact hR.mapWritten s _ _ _

theorem realPageResult (e : MapEntry) : Keeps R (realPageResult e) := keeps_ite hR.freeLong (hR.pure _)

/-! Stack instructions. -/

theorem unaryWord (f : Word → Word) : Keeps R (unaryWord f) := hR.bind hR.pop fun _ => hR.push _

theorem unaryLong (f : Long → Long) : Keeps R (unaryLong f) := hR.bind hR.popLong fun _ => hR.pushLong _

theorem binaryWord (f : Word → Word → Word) : Keeps R (binaryWord f) :=
  hR.bind hR.pop fun _ => hR.bind hR.pop fun _ => hR.push _

theorem binaryLong (f : Long → Long → Long) : Keeps R (binaryLong f) :=
  hR.bind hR.popLong fun _ => hR.bind hR.popLong fun _ => hR.pushLong _

/-! Fields. -/

theorem loadField (va : Long) (f : FieldSpec) : Keeps R (loadField va f) :=
  hR.bind (hR.fetchField va f) fun _ => hR.push _

theorem readFieldDirect (offset : Word) (f : FieldSpec) : Keeps R (readFieldDirect offset f) :=
  hR.bind hR.pop fun _ => hR.bind hR.get fun _ => hR.loadField _ f

theorem readFieldDirectLong (offset : Long) (f : FieldSpec) : Keeps R (readFieldDirectLong offset f) :=
  hR.bind hR.popLong fun _ => hR.loadField _ f

theorem writeFieldDirect (offset : Word) (f : FieldSpec) : Keeps R (writeFieldDirect offset f) :=
  hR.bind hR.pop fun _ => hR.bind hR.pop fun _ => hR.bind hR.get fun _ => hR.storeField _ f _

theorem writeFieldDirectLong (offset : Long) (f : FieldSpec) : Keeps R (writeFieldDirectLong offset f) :=
  hR.bind hR.popLong fun _ => hR.bind hR.pop fun _ => hR.storeField _ f _

theorem writeFieldSwapped (offset : Word) (f : FieldSpec) : Keeps R (writeFieldSwapped offset f) :=
  hR.bind hR.pop fun _ => hR.bind hR.pop fun _ => hR.bind hR.get fun _ => hR.storeField _ f _

/-! Block transfers. -/

theorem suspendOrContinue : Keeps R suspendOrContinue :=
  hR.bind hR.pollInterrupt fun _ => keeps_ite (hR.bind hR.suspend fun _ => hR.pure _) (hR.pure _)

theorem blockLoop {iteration : Act Bool} (h : Keeps R iteration) : Keeps R (blockLoop iteration) :=
  hR.bind (hR.loop h _) fun _ => hR.pure _

theorem bltIteration : Keeps R bltIteration :=
  hR.bind hR.pop fun _ => hR.bind hR.pop fun _ => hR.bind hR.pop fun _ => keeps_ite (hR.pure _) <|
    hR.bind (hR.fetchMds _) fun _ => hR.bind (hR.storeMds _ _) fun _ => hR.bind (hR.push _) fun _ =>
    hR.bind (hR.push _) fun _ => hR.bind (hR.push _) fun _ => hR.suspendOrContinue

theorem bltlIteration : Keeps R bltlIteration :=
  hR.bind hR.popLong fun _ => hR.bind hR.pop fun _ => hR.bind hR.popLong fun _ => keeps_ite (hR.pure _) <|
    hR.bind (hR.fetch _) fun _ => hR.bind (hR.store _ _) fun _ => hR.bind (hR.pushLong _) fun _ =>
    hR.bind (hR.push _) fun _ => hR.bind (hR.pushLong _) fun _ => hR.suspendOrContinue

theorem bltlrIteration : Keeps R bltlrIteration :=
  hR.bind hR.popLong fun _ => hR.bind hR.pop fun _ => hR.bind hR.popLong fun _ => keeps_ite (hR.pure _) <|
    hR.bind hR.get fun _ => hR.bind (hR.fetch _) fun _ => hR.bind (hR.store _ _) fun _ =>
    hR.bind (hR.pushLong _) fun _ => hR.bind (hR.push _) fun _ => hR.bind (hR.pushLong _) fun _ => hR.suspendOrContinue

theorem bltcIteration : Keeps R bltcIteration :=
  hR.bind hR.pop fun _ => hR.bind hR.pop fun _ => hR.bind hR.pop fun _ => keeps_ite (hR.pure _) <|
    hR.bind (hR.readCode _) fun _ => hR.bind (hR.storeMds _ _) fun _ => hR.bind (hR.push _) fun _ =>
    hR.bind (hR.push _) fun _ => hR.bind (hR.push _) fun _ => hR.suspendOrContinue

theorem bltclIteration : Keeps R bltclIteration :=
  hR.bind hR.popLong fun _ => hR.bind hR.pop fun _ => hR.bind hR.pop fun _ => keeps_ite (hR.pure _) <|
    hR.bind (hR.readCode _) fun _ => hR.bind (hR.store _ _) fun _ => hR.bind (hR.push _) fun _ =>
    hR.bind (hR.push _) fun _ => hR.bind (hR.pushLong _) fun _ => hR.suspendOrContinue

theorem cksumIteration : Keeps R cksumIteration :=
  hR.bind hR.popLong fun _ => hR.bind hR.pop fun _ => hR.bind hR.pop fun _ =>
    keeps_ite (hR.bind (hR.push _) fun _ => hR.pure _) <|
    hR.bind (hR.fetch _) fun _ => hR.bind (hR.push _) fun _ => hR.bind (hR.push _) fun _ =>
    hR.bind (hR.pushLong _) fun _ => hR.suspendOrContinue

theorem blelIteration : Keeps R blelIteration :=
  hR.bind hR.popLong fun _ => hR.bind hR.pop fun _ => hR.bind hR.popLong fun _ =>
    keeps_ite (hR.bind (hR.push _) fun _ => hR.pure _) <|
    hR.bind (hR.fetch _) fun _ => hR.bind (hR.fetch _) fun _ => keeps_ite
      (hR.bind (hR.pushLong _) fun _ => hR.bind (hR.push _) fun _ => hR.bind (hR.pushLong _) fun _ => hR.suspendOrContinue)
      (hR.bind (hR.push _) fun _ => hR.pure _)

theorem bleclIteration : Keeps R bleclIteration :=
  hR.bind hR.popLong fun _ => hR.bind hR.pop fun _ => hR.bind hR.pop fun _ =>
    keeps_ite (hR.bind (hR.push _) fun _ => hR.pure _) <|
    hR.bind (hR.fetch _) fun _ => hR.bind (hR.readCode _) fun _ => keeps_ite
      (hR.bind (hR.push _) fun _ => hR.bind (hR.push _) fun _ => hR.bind (hR.pushLong _) fun _ => hR.suspendOrContinue)
      (hR.bind (hR.push _) fun _ => hR.pure _)

theorem byteBlockIteration (advance : BytePosition → BytePosition) : Keeps R (byteBlockIteration advance) :=
  hR.bind hR.pop fun _ => hR.bind hR.popLong fun _ => hR.bind hR.pop fun _ => hR.bind hR.pop fun _ =>
    hR.bind hR.popLong fun _ => keeps_ite (hR.pure _) <|
    hR.bind (hR.fetchByte _ _) fun _ => hR.bind (hR.storeByte _ _ _) fun _ => hR.bind (hR.pushLong _) fun _ =>
    hR.bind (hR.push _) fun _ => hR.bind (hR.push _) fun _ => hR.bind (hR.pushLong _) fun _ =>
    hR.bind (hR.push _) fun _ => hR.suspendOrContinue

/-! BITBLT. -/

theorem bitBltSetup (record : List Word) : Keeps R (bitBltSetup record) :=
  keeps_ite (hR.refuse _) (hR.bind hR.get fun _ => hR.pure _)

theorem bitBltRecord (ptr : Word) : Keeps R (bitBltRecord ptr) := keeps_ite (hR.refuse _) (hR.fetchRecord ptr _)

theorem bitBltBit (b : BitBltState) (offset : Word) : Keeps R (bitBltBit b offset) :=
  hR.bind (hR.readBit _ _) fun _ => hR.bind (hR.readBit _ _) fun _ => hR.writeBit _ _ _

theorem bitBltBits (b : BitBltState) (n : Nat) (offset : Word) : Keeps R (bitBltBits b n offset) := by
  induction n generalizing offset with
  | zero => exact hR.pure _
  | succ n ih => exact hR.bind (hR.bitBltBit b offset) fun _ => ih _

theorem bitBltLine (b : BitBltState) : Keeps R (bitBltLine b) := hR.bitBltBits b _ _

theorem bitBltPushState (ptr line : Word) (record : List Word) : Keeps R (bitBltPushState ptr line record) :=
  hR.bind (hR.push _) fun _ => hR.bind (hR.push _) fun _ => hR.noteSuspension ptr record

/-- The trial of the line does not show: the item ends as the line does, or where it began, or with the state pushed. -/
theorem bitBltItem (ptr : Word) (record : List Word) (first : Bool) (b : BitBltState) :
    Keeps R (bitBltItem ptr record first b) := by
  intro s
  have hp := hR.bitBltPushState ptr b.line record s
  unfold Machine.bitBltItem
  split
  · exact hR.bitBltLine b s
  · split
    · exact hR.refl s
    · split
      · rename_i hs; rw [hs] at hp; exact hR.trans _ _ _ hp (hR.stackSaved _)
      · rename_i hs; rw [hs] at hp; exact hp
  · rename_i hs
    have ht := hR.bitBltLine b { s with turns := [] }
    rw [hs] at ht
    exact hR.trans _ _ _ (hR.turnsCleared s) ht

theorem bitBltLines (ptr : Word) (record : List Word) (fuel : Nat) (first : Bool) (b : BitBltState) :
    Keeps R (bitBltLines ptr record fuel first b) := by
  induction fuel generalizing first b with
  | zero => exact hR.pure _
  | succ n ih =>
    exact keeps_ite (hR.bind (hR.bitBltItem ptr record first b) fun _ => hR.bind hR.pollInterrupt fun _ =>
      keeps_ite (hR.bind (hR.bitBltPushState _ _ _) fun _ => hR.suspend) (ih _ _)) (hR.pure _)

/-! TXTBLT. -/

theorem spacingWidth (font : Long) (char : Word) : Keeps R (spacingWidth font char) :=
  hR.bind (hR.readDbl _) fun _ => hR.bind (hR.packedByte _ _) fun _ => hR.pure _

theorem printerWidth (font : Long) (char : Word) : Keeps R (printerWidth font char) :=
  hR.bind (hR.readDbl _) fun _ => hR.fetch _

theorem displayWidth (font : Long) (char : Word) (info : RasterInfo) : Keeps R (displayWidth font char info) :=
  hR.bind (hR.spacingWidth font char) fun _ => hR.pure _

theorem rasterBit (font : Long) (info : RasterInfo) (n : Word) : Keeps R (rasterBit font info n) :=
  hR.bind (hR.readDbl _) fun _ => hR.bind (hR.fetch _) fun _ => hR.pure _

theorem displayLine (font : Long) (info : RasterInfo) (dstBpl : Word) (dst : BitAddress) (n : Nat) (count offset : Word) :
    Keeps R (displayLine font info dstBpl dst n count offset) := by
  induction n generalizing count offset with
  | zero => exact hR.pure _
  | succ n ih =>
    exact hR.bind (hR.rasterBit font info count) fun _ => keeps_ite (hR.refuse _) <|
      hR.bind (hR.readBit dst offset) fun _ => hR.bind (hR.writeBit dst offset _) fun _ => ih _ _

theorem displayLines (font : Long) (info : RasterInfo) (dstBpl width pos : Word) (n : Nat) (dst : BitAddress) (count : Word) :
    Keeps R (displayLines font info dstBpl width pos n dst count) := by
  induction n generalizing dst count with
  | zero => exact hR.pure _
  | succ n ih => exact hR.bind (hR.displayLine font info dstBpl dst _ _ _) fun _ => ih _ _

theorem displayChar (a : TxtBltArg) (pos char : Word) : Keeps R (displayChar a pos char) :=
  hR.bind (hR.characterRaster _ _) fun _ => hR.bind (hR.displayWidth _ _ _) fun _ => hR.bind (hR.fetch _) fun _ =>
    hR.displayLines _ _ _ _ _ _ _ _

theorem txtProcess (a : TxtBltArg) (flags : FontFlags) (char : Word) (t : TxtState) :
    Keeps R (txtProcess a flags char t) := by
  have rest : Keeps R (do
      let spacing ← Machine.spacingWidth a.font char
      let printing ← Machine.printerWidth a.font char
      return TxtStep.advance (txtAfter a flags.pad spacing printing t)) :=
    hR.bind (hR.spacingWidth _ _) fun _ => hR.bind (hR.printerWidth _ _) fun _ => hR.pure _
  exact hR.optional (hR.displayChar a t.bitPos char) fun _ => rest

theorem txtPass (a : TxtBltArg) (flagsIndex : Nat) (t : TxtState) : Keeps R (txtPass a flagsIndex t) :=
  keeps_ite (hR.refuse _) <| keeps_ite (hR.pure _) <| hR.optional (hR.store _ _) fun _ =>
    hR.bind (hR.packedByte _ _) fun _ => hR.bind (hR.characterFlags _ _ flagsIndex) fun _ =>
    keeps_ite (hR.pure _) <| hR.bind hR.get fun _ => keeps_ite
      (hR.bind (hR.printerWidth _ _) fun _ => keeps_ite (hR.pure _) (hR.txtProcess a _ _ t))
      (hR.txtProcess a _ _ t)

theorem txtPushState (t : TxtState) (data : Word) : Keeps R (txtPushState t data) :=
  hR.bind (hR.push _) fun _ => hR.bind (hR.push _) fun _ => hR.bind (hR.push _) fun _ => hR.bind (hR.push _) fun _ => hR.push _

theorem txtLoop (ptr : Word) (record : List Word) (flagsIndex fuel : Nat) (t : TxtState) :
    Keeps R (txtLoop ptr record flagsIndex fuel t) := by
  induction fuel generalizing t with
  | zero => exact keeps_modify fun s => hR.scanNoted s _
  | succ n ih =>
    refine hR.bind (hR.txtPass _ flagsIndex t) fun step => ?_
    cases step with
    | finish t' result => exact hR.txtPushState t' result
    | advance t' =>
      exact hR.bind hR.pollInterrupt fun _ => keeps_ite
        (hR.bind (hR.txtPushState t' ptr) fun _ => hR.bind (hR.noteSuspension ptr record) fun _ => hR.suspend) (ih t')

theorem txtScan (ptr : Word) (record : List Word) (flagsIndex : Nat) (t : TxtState) :
    Keeps R (txtScan ptr record flagsIndex t) :=
  hR.bind hR.get fun _ => keeps_ite (hR.refuse _) (hR.txtLoop ptr record flagsIndex _ t)

end RoutineRel

end Sys2Proof.Machine
end

section
/-! SUPPORT. Every instruction keeps what the elementary changes of the state, and its own write of a register, keep. -/

namespace Sys2Proof.Machine

/-- The write of a register that an instruction makes itself (40_map_pointer_register.md R219 to R226). -/
inductive RegisterWrite : Instr → State → State → Prop
  | it (s : State) (v : Long) : RegisterWrite .writ s { s with it := v }
  | mds (s : State) (v : Word) : RegisterWrite .wrmds s { s with mds := Long.ofHalves v 0 }
  | mp (s : State) (v : Word) : RegisterWrite .wrmp s { s with mp := v }
  | psb (s : State) (v : Word) : RegisterWrite .wrpsb s { s with psb := v }
  | ptc (s : State) (v : Word) : RegisterWrite .wrptc s { s with ptc := v, time := s.it }
  | wdc (s : State) (v : Word) : RegisterWrite .wrwdc s { s with wdc := v }
  | wp (s : State) (v : Word) : RegisterWrite .wrwp s { s with wp := v }
  | xts (s : State) (v : Word) : RegisterWrite .wrxts s { s with xts := v }

namespace RoutineRel
variable {R : State → State → Prop} (hR : RoutineRel R) {s t : State}
include hR

theorem exec_wrmp (hw : ∀ s t, RegisterWrite .wrmp s t → R s t) (h : exec .wrmp s = .next t) : R s t :=
  hR.complete (hR.bind hR.pop fun v => keeps_modify fun u => by
    split
    · exact hw _ _ (.mp u v)
    · exact hR.refl u) h

theorem exec_wrwp (hw : ∀ s t, RegisterWrite .wrwp s t → R s t) (h : exec .wrwp s = .next t) : R s t :=
  hR.complete (hR.bind hR.pop fun v => keeps_get_bind fun u => by
    have hset := hw _ _ (.wp u v)
    cases hu : u.turns with
    | nil => rwa [hu] at hset
    | cons d rest =>
      exact hR.bind hR.deviceTurn (fun _ => hR.bind hR.freeWord fun _ => keeps_modify fun u => hw _ _ (.wp u _)) u) h

theorem exec_bitblt (h : exec .bitblt s = .next t) : R s t :=
  hR.complete (keeps_ite
    (hR.bind hR.pop fun ptr => hR.bind (hR.bitBltRecord ptr) fun _ => hR.bind (hR.bitBltSetup _) fun _ =>
      hR.bind hR.minimalStack fun _ => hR.bitBltLines ptr _ _ _ _)
    (hR.bind hR.pop fun _ => hR.bind hR.pop fun ptr => hR.bind (hR.bitBltRecord ptr) fun _ =>
      hR.bind (hR.checkRestart s ptr _) fun _ => hR.bind (hR.bitBltSetup _) fun _ =>
      hR.bind hR.minimalStack fun _ => hR.bitBltLines ptr _ _ _ _)) h

theorem exec_txtblt (h : exec .txtblt s = .next t) : R s t :=
  hR.complete (hR.bind hR.pop fun ptr => hR.bind hR.pop fun _ => hR.bind hR.pop fun _ => hR.bind hR.pop fun _ =>
    hR.bind hR.pop fun _ => hR.bind hR.minimalStack fun _ => keeps_ite (hR.refuse _) <|
    hR.bind (hR.fetchRecord ptr _) fun _ => hR.bind (hR.checkRestart s ptr _) fun _ => hR.txtScan ptr _ _ _) h

theorem exec_sm (h : exec .sm s = .next t) : R s t :=
  hR.complete (hR.bind hR.pop fun _ => hR.bind hR.popLong fun _ => hR.bind hR.popLong fun _ => hR.writeMap _ _ _) h

theorem exec_gmf (h : exec .gmf s = .next t) : R s t :=
  hR.complete (hR.bind hR.popLong fun _ => hR.bind hR.get fun _ => hR.bind (hR.push _) fun _ =>
    hR.bind (hR.realPageResult _) fun _ => hR.pushLong _) h

theorem exec_smf (h : exec .smf s = .next t) : R s t :=
  hR.complete (hR.bind hR.pop fun _ => hR.bind hR.popLong fun _ => hR.bind hR.get fun _ => hR.bind (hR.push _) fun _ =>
    hR.bind (hR.realPageResult _) fun _ => hR.bind (hR.pushLong _) fun _ => keeps_ite (hR.pure _) (hR.writeMap _ _ _)) h

/-- The meaning of an instruction, by the routine that it is. -/
theorem exec {i : Instr} (hw : ∀ s t, RegisterWrite i s t → R s t) (h : exec i s = .next t) : R s t := by
  cases i with
  -- Immediate and frame instructions (43_immediate_frame.md).
  | ll0 | ll1 | ll2 | ll3 | ll4 | ll5 | ll6 | ll7 | ll8 | ll9 | ll10 | ll11 | llb | lg0 | lg1 | lg2 | lgb =>
    exact hR.complete (hR.loadMds _) h
  | lld0 | lld1 | lld2 | lld3 | lld4 | lld5 | lld6 | lld7 | lld8 | lld10 | lldb | lgd0 | lgd2 | lgdb =>
    exact hR.complete (hR.loadDoubleMds _) h
  | sl0 | sl1 | sl2 | sl3 | sl4 | sl5 | sl6 | sl7 | sl8 | sl9 | sl10 | slb | sgb => exact hR.complete (hR.storeMdsPop _) h
  | sld0 | sld1 | sld2 | sld3 | sld4 | sld5 | sld6 | sld8 | sldb | sgdb => exact hR.complete (hR.storeDoubleMds _) h
  | pl0 | pl1 | pl2 | pl3 | plb => exact hR.complete (hR.putMds _) h
  | pld0 | pldb => exact hR.complete (hR.putDoubleMds _) h
  | lin1 | lini | li0 | li1 | li2 | li3 | li4 | li5 | li6 | li7 | li8 | li9 | li10 | lib | linb | lihb | liw | la0 | la1 | la2
  | la3 | la6 | la8 | lab | law | ga0 | ga1 | gab | gaw => exact hR.complete (hR.push _) h
  | lid0 => exact hR.complete (hR.pushLong _) h
  | al0ib => exact hR.complete (hR.bind (hR.fetchMds _) fun _ => hR.push _) h
  -- Pointer instructions (44_pointer.md).
  | r0 | r1 | rb => exact hR.complete (hR.readDirect _) h
  | rl0 | rlb => exact hR.complete (hR.readDirectLong _) h
  | rd0 | rdb => exact hR.complete (hR.readDirectDouble _) h
  | rdl0 | rdlb => exact hR.complete (hR.readDirectDoubleLong _) h
  | rc => exact hR.complete (hR.bind hR.pop fun _ => hR.bind (hR.readCode _) fun _ => hR.push _) h
  | w0 | wb => exact hR.complete (hR.writeDirect _) h
  | wlb => exact hR.complete (hR.bind hR.popLong fun _ => hR.storePop _) h
  | wdb => exact hR.complete (hR.bind hR.pop fun _ => hR.storeDoubleMds _) h
  | wdlb => exact hR.complete (hR.bind hR.popLong fun _ => hR.storeDoubleLong _) h
  | psb =>
    exact hR.complete (hR.bind hR.pop fun _ => hR.bind hR.pop fun _ => hR.bind (hR.storeMds _ _) fun _ => hR.recover) h
  | psd0 | psdb => exact hR.complete (hR.putSwappedDouble _) h
  | pslb =>
    exact hR.complete (hR.bind hR.pop fun _ => hR.bind hR.popLong fun _ => hR.bind (hR.store _ _) fun _ =>
      hR.bind hR.recover fun _ => hR.recover) h
  | psdlb =>
    exact hR.complete (hR.bind hR.pop fun _ => hR.bind hR.pop fun _ => hR.bind hR.popLong fun _ =>
      hR.bind (hR.store _ _) fun _ => hR.bind (hR.store _ _) fun _ => hR.bind hR.recover fun _ => hR.recover) h
  | rli00 | rli01 | rli02 | rli03 | rlip | rgip => exact hR.complete (hR.readIndirect _ _) h
  | rlilp | rgilp => exact hR.complete (hR.readIndirectLong _ _) h
  | rldi00 | rldip => exact hR.complete (hR.readIndirectDouble _ _) h
  | rldilp => exact hR.complete (hR.bind (hR.readDblMds _) fun _ => hR.readDoubleLong _) h
  | wlip => exact hR.complete (hR.bind (hR.fetchMds _) fun _ => hR.storeMdsPop _) h
  | wlilp => exact hR.complete (hR.bind (hR.readDblMds _) fun _ => hR.storePop _) h
  | wldilp => exact hR.complete (hR.bind (hR.readDblMds _) fun _ => hR.storeDoubleLong _) h
  -- String and field instructions (45_string_field.md).
  | rs => exact hR.complete (hR.bind hR.pop fun _ => hR.bind hR.pop fun _ => hR.bind (hR.fetchByte _ _) fun _ => hR.push _) h
  | rls =>
    exact hR.complete (hR.bind hR.pop fun _ => hR.bind hR.popLong fun _ => hR.bind (hR.fetchByte _ _) fun _ => hR.push _) h
  | ws => exact hR.complete (hR.bind hR.pop fun _ => hR.bind hR.pop fun _ => hR.bind hR.pop fun _ => hR.storeByte _ _ _) h
  | wls => exact hR.complete (hR.bind hR.pop fun _ => hR.bind hR.popLong fun _ => hR.bind hR.pop fun _ => hR.storeByte _ _ _) h
  | rf | r0f => exact hR.complete (hR.readFieldDirect _ _) h
  | rlf | rl0f => exact hR.complete (hR.readFieldDirectLong _ _) h
  | rlfs => exact hR.complete (hR.bind hR.pop fun _ => hR.readFieldDirectLong _ _) h
  | rcfs =>
    exact hR.complete (hR.bind hR.pop fun _ => hR.bind hR.pop fun _ => hR.bind (hR.readCode _) fun _ =>
      hR.bind (hR.readField _ _) fun _ => hR.push _) h
  | rlipf => exact hR.complete (hR.bind (hR.fetchMds _) fun _ => hR.loadField _ _) h
  | rlilpf => exact hR.complete (hR.bind (hR.readDblMds _) fun _ => hR.loadField _ _) h
  | wf | w0f => exact hR.complete (hR.writeFieldDirect _ _) h
  | wlf | wl0f => exact hR.complete (hR.writeFieldDirectLong _ _) h
  | wlfs => exact hR.complete (hR.bind hR.pop fun _ => hR.writeFieldDirectLong _ _) h
  | ws0f => exact hR.complete (hR.writeFieldSwapped _ _) h
  | ps0f | psf => exact hR.complete (hR.bind (hR.writeFieldSwapped _ _) fun _ => hR.recover) h
  | pslf =>
    exact hR.complete (hR.bind hR.pop fun _ => hR.bind hR.popLong fun _ => hR.bind (hR.storeField _ _ _) fun _ =>
      hR.bind hR.recover fun _ => hR.recover) h
  -- Jumps (42_jump.md).
  | j2 | j3 | j4 | j5 | j6 | j7 | j8 | jb | jw => exact hR.complete (hR.jumpBy _) h
  | js => exact hR.complete (hR.bind hR.pop fun _ => keeps_modify fun u => hR.jumped u _) h
  | catchPhrase => exact hR.complete (hR.pure ()) h
  | jz3 | jz4 | jnz3 | jnz4 | jzb | jnzb | jep | jnep | jebb | jnebb => exact hR.complete (hR.jumpOnWord _ _) h
  | jeb | jneb | jlb | jleb | jgb | jgeb | julb | juleb | jugb | jugeb => exact hR.complete (hR.jumpOnPair _ _) h
  | jdeb | jdneb => exact hR.complete (hR.jumpOnLongPair _ _) h
  | jib | jiw =>
    exact hR.complete (hR.bind hR.pop fun _ => hR.bind hR.pop fun _ =>
      keeps_ite (hR.bind (hR.readCode _) fun _ => hR.jumpBy _) (hR.pure _)) h
  -- Stack instructions (41_stack.md).
  | recover => exact hR.complete hR.recover h
  | recover2 => exact hR.complete (hR.bind hR.recover fun _ => hR.recover) h
  | dis => exact hR.complete hR.discard h
  | dis2 => exact hR.complete (hR.bind hR.discard fun _ => hR.discard) h
  | exch => exact hR.complete (hR.bind hR.pop fun _ => hR.bind hR.pop fun _ => hR.bind (hR.push _) fun _ => hR.push _) h
  | dexch =>
    exact hR.complete (hR.bind hR.popLong fun _ => hR.bind hR.popLong fun _ => hR.bind (hR.pushLong _) fun _ => hR.pushLong _) h
  | dup => exact hR.complete (hR.bind hR.pop fun _ => hR.bind (hR.push _) fun _ => hR.push _) h
  | ddup => exact hR.complete (hR.bind hR.popLong fun _ => hR.bind (hR.pushLong _) fun _ => hR.pushLong _) h
  | exdis => exact hR.complete (hR.bind hR.pop fun _ => hR.bind hR.pop fun _ => hR.push _) h
  | bndck =>
    exact hR.complete (hR.bind hR.pop fun _ => hR.bind hR.pop fun _ => hR.bind (hR.push _) fun _ =>
      keeps_ite (hR.raiseTrap _) (hR.pure _)) h
  | bndckl =>
    exact hR.complete (hR.bind hR.popLong fun _ => hR.bind hR.popLong fun _ => hR.bind (hR.pushLong _) fun _ =>
      keeps_ite (hR.raiseTrap _) (hR.pure _)) h
  | nilckl =>
    exact hR.complete (hR.bind hR.popLong fun _ => hR.bind (hR.pushLong _) fun _ => keeps_ite (hR.raiseTrap _) (hR.pure _)) h
  | neg | inc | dec | addsb | dbl | trpl => exact hR.complete (hR.unaryWord _) h
  | dinc | ddbl => exact hR.complete (hR.unaryLong _) h
  | and | ior | xor | shift | rotate | add | sub => exact hR.complete (hR.binaryWord _) h
  | dand | dior | dxor | dadd | dsub | dmul => exact hR.complete (hR.binaryLong _) h
  | lint => exact hR.complete (hR.bind hR.pop fun _ => hR.bind (hR.push _) fun _ => hR.push _) h
  | shiftsb => exact hR.complete (hR.bind hR.pop fun _ => keeps_ite (hR.push _) (hR.refuse _)) h
  | dshift | acd => exact hR.complete (hR.bind hR.pop fun _ => hR.bind hR.popLong fun _ => hR.pushLong _) h
  | adc => exact hR.complete (hR.bind hR.popLong fun _ => hR.bind hR.pop fun _ => hR.pushLong _) h
  | mul => exact hR.complete (hR.bind hR.pop fun _ => hR.bind hR.pop fun _ => hR.bind (hR.pushLong _) fun _ => hR.discard) h
  | sdiv | udiv =>
    exact hR.complete (hR.bind hR.pop fun _ => hR.bind hR.pop fun _ => keeps_ite (hR.raiseTrap _) <|
      hR.bind (hR.push _) fun _ => hR.bind (hR.push _) fun _ => hR.discard) h
  | ludiv =>
    exact hR.complete (hR.bind hR.pop fun _ => hR.bind hR.popLong fun _ => keeps_ite (hR.raiseTrap _) <|
      keeps_ite (hR.raiseTrap _) <| hR.bind (hR.push _) fun _ => hR.bind (hR.push _) fun _ => hR.discard) h
  | sddiv | uddiv =>
    exact hR.complete (hR.bind hR.popLong fun _ => hR.bind hR.popLong fun _ => keeps_ite (hR.raiseTrap _) <|
      hR.bind (hR.pushLong _) fun _ => hR.bind (hR.pushLong _) fun _ => hR.bind hR.discard fun _ => hR.discard) h
  | dcmp | udcmp => exact hR.complete (hR.bind hR.popLong fun _ => hR.bind hR.popLong fun _ => hR.push _) h
  -- Map, pointer and register instructions (40_map_pointer_register.md).
  | sm => exact hR.exec_sm h
  | gmf => exact hR.exec_gmf h
  | smf => exact hR.exec_smf h
  | lp => exact hR.complete (hR.bind hR.pop fun _ => hR.bind hR.get fun _ => hR.pushLong _) h
  | rob =>
    exact hR.complete (hR.bind hR.pop fun _ => keeps_ite
      (hR.bind hR.get fun _ => hR.bind (hR.fetchOverhead _) fun _ => hR.push _) (hR.refuse _)) h
  | wob =>
    exact hR.complete (hR.bind hR.pop fun _ => keeps_ite (hR.bind hR.get fun _ => hR.storeOverheadPop _) (hR.refuse _)) h
  | rrmds | rrpsb | rrptc | rrwdc | rrwp | rrxts => exact hR.complete (hR.push _) h
  | rrit => exact hR.complete (hR.pushLong _) h
  | writ => exact hR.complete (hR.bind hR.popLong fun v => keeps_modify fun u => hw _ _ (.it u v)) h
  | wrmds => exact hR.complete (hR.bind hR.pop fun v => keeps_modify fun u => hw _ _ (.mds u v)) h
  | wrmp => exact hR.exec_wrmp hw h
  | wrpsb => exact hR.complete (hR.bind hR.pop fun v => keeps_modify fun u => hw _ _ (.psb u _)) h
  | wrptc => exact hR.complete (hR.bind hR.pop fun v => keeps_modify fun u => hw _ _ (.ptc u v)) h
  | wrwdc => exact hR.complete (hR.bind hR.pop fun v => keeps_modify fun u => hw _ _ (.wdc u v)) h
  | wrwp => exact hR.exec_wrwp hw h
  | wrxts => exact hR.complete (hR.bind hR.pop fun v => keeps_modify fun u => hw _ _ (.xts u v)) h
  -- Block transfers, BITBLT and TXTBLT (46_block.md, 47_bitblt_txtblt.md).
  | blt => exact hR.complete (hR.blockLoop hR.bltIteration) h
  | bltl => exact hR.complete (hR.blockLoop hR.bltlIteration) h
  | bltlr => exact hR.complete (hR.blockLoop hR.bltlrIteration) h
  | bltc => exact hR.complete (hR.blockLoop hR.bltcIteration) h
  | bltcl => exact hR.complete (hR.blockLoop hR.bltclIteration) h
  | cksum => exact hR.complete (hR.blockLoop hR.cksumIteration) h
  | blel => exact hR.complete (hR.blockLoop hR.blelIteration) h
  | blecl => exact hR.complete (hR.blockLoop hR.bleclIteration) h
  | bytblt | bytbltr => exact hR.complete (hR.blockLoop (hR.byteBlockIteration _)) h
  | bitblt => exact hR.exec_bitblt h
  | txtblt => exact hR.exec_txtblt h
  -- Traps (30_encoding.md R167), and the instructions whose routines are lost (48_control_transfers.md R640).
  | esc | escl | nilck => exact hR.complete (hR.raiseTrap _) h
  | brk | llkb | rkib | rkdib | lkb | efc0 | efc1 | efc2 | efc3 | efc4 | efc5 | efc6 | efc7 | efc8 | efc9 | efc10 | efc11
  | efc12 | efcb | lfc | sfc | ret | kfcb | af | ff | pi | po | por | dsk | xe | xf | lsk | me | mx | mw | mr | nc | bc | req
  | spp | di | ei => exact hR.complete (hR.refuse _) h

end RoutineRel

end Sys2Proof.Machine
end

section
/-! Which instruction may change which register, and what no step changes (10_state.md R32; 40_map_pointer_register.md R219 to R227). -/

namespace Sys2Proof.Machine

/-! A whole step, by what its instruction keeps. -/

namespace RoutineRel
variable {R : State → State → Prop} (hR : RoutineRel R)
include hR

theorem fetchInstr : Keeps R fetchInstr :=
  hR.bind hR.get fun _ => hR.bind hR.getCodeByte fun _ => keeps_ite (hR.pure _) <|
    hR.bind hR.getCodeByte fun _ => keeps_ite (hR.pure _) <| hR.bind hR.getCodeByte fun _ => hR.pure _

variable {s t : State}

theorem continueScan {scan : TxtScan} (h : continueScan scan s = .next t) : R s t :=
  hR.trans _ _ _ (hR.scanNoted s none) (hR.complete (hR.txtScan _ _ _ _) h)

variable (hw : ∀ i s t, RegisterWrite i s t → R s t)
include hw

theorem dispatch {d : Decoded} (h : dispatch d s = .next t) : R s t := by
  cases d with
  | instr i => exact hR.exec (hw i) h
  | unassigned b => exact hR.complete (hR.raiseTrap _) h
  | reserved b => cases h

theorem executeInstr (h : executeInstr s = .next t) : R s.saveContext t := by
  have hf := hR.fetchInstr s.saveContext
  unfold Machine.executeInstr at h
  split at h
  · rename_i hs; rw [hs] at hf; exact hR.trans _ _ _ hf (hR.dispatch hw h)
  · rename_i hs; rw [hs] at hf; cases h; exact hR.trans _ _ _ hf (hR.exceptionTaken _ _)
  · cases h
  · cases h

theorem checkAndExecute {timeout : Bool} (h : checkAndExecute timeout s = .next t) : R s t ∨ R s.saveContext t := by
  unfold Machine.checkAndExecute at h
  split at h
  · cases h; exact .inl (hR.exceptionTaken _ _)
  · split at h
    · split at h
      · exact .inr (hR.executeInstr hw h)
      · cases h
    · cases h; exact .inl (hR.refl s)

/-- A step starts from the state after the environment, with its context saved where an instruction is fetched. -/
theorem step (h : step s = .next t) : R s.withEnvironment t ∨ R s.withEnvironment.saveContext t := by
  unfold Machine.step mainLoop at h
  split at h
  · cases h
  · split at h
    · exact .inl (hR.continueScan h)
    · exact hR.checkAndExecute hw h

end RoutineRel

/-! What no instruction changes. -/

/-- The registers that no instruction writes, the depth of the stack, the parameters and the inputs are the same. -/
structure State.SameContext (s t : State) : Prop where
  lf : t.lf = s.lf
  gf : t.gf = s.gf
  cb : t.cb = s.cb
  pid : t.pid = s.pid
  wm : t.wm = s.wm
  breakByte : t.breakByte = s.breakByte
  savedPC : t.savedPC = s.savedPC
  running : t.running = s.running
  depth : t.stack.length = s.stack.length
  cfg : t.cfg = s.cfg
  inputs : t.inputs = s.inputs

theorem sameContext_routineRel : RoutineRel State.SameContext where
  refl s := by constructor <;> rfl
  trans s t u h h' :=
    ⟨h'.lf.trans h.lf, h'.gf.trans h.gf, h'.cb.trans h.cb, h'.pid.trans h.pid, h'.wm.trans h.wm,
      h'.breakByte.trans h.breakByte, h'.savedPC.trans h.savedPC, h'.running.trans h.running, h'.depth.trans h.depth,
      h'.cfg.trans h.cfg, h'.inputs.trans h.inputs⟩
  pushed s w _ := by constructor <;> simp
  popped s _ := by constructor <;> rfl
  recovered s _ := by constructor <;> rfl
  turned s := by constructor <;> simp
  turnsCleared s := by constructor <;> rfl
  touched s va a _ := by constructor <;> simp
  wordPut s va ra w := by constructor <;> rfl
  mapWritten s vp flags real := by constructor <;> simp
  jumped s pc := by constructor <;> rfl
  freeUsed s := by constructor <;> rfl
  suspensionNoted s u := by constructor <;> rfl
  scanNoted s u := by constructor <;> rfl
  stackSaved s := by constructor <;> rfl
  exceptionTaken e s := by constructor <;> simp

theorem RegisterWrite.sameContext {i : Instr} {s t : State} (h : RegisterWrite i s t) : s.SameContext t := by
  cases h <;> constructor <;> rfl

/-! What only one instruction changes. -/

/-- The registers that have a write instruction of their own are the same, but for the one that `i` writes. Devices raise wakeups only at
their turns. -/
structure OwnRegisters (i : Instr) (s t : State) : Prop where
  mds : i ≠ .wrmds → t.mds = s.mds
  psb : i ≠ .wrpsb → t.psb = s.psb
  xts : i ≠ .wrxts → t.xts = s.xts
  wdc : i ≠ .wrwdc → t.wdc = s.wdc
  timer : i ≠ .wrptc → t.ptc = s.ptc ∧ t.time = s.time
  mp : i ≠ .wrmp → t.mp = s.mp
  it : i ≠ .writ → t.it = s.it
  wp : i ≠ .wrwp → s.undisturbed → t.wp = s.wp
  undisturbed : s.undisturbed → t.undisturbed

theorem ownRegisters_routineRel (i : Instr) : RoutineRel (OwnRegisters i) where
  refl s := by constructor <;> simp
  trans s t u h h' :=
    ⟨fun hi => (h'.mds hi).trans (h.mds hi), fun hi => (h'.psb hi).trans (h.psb hi), fun hi => (h'.xts hi).trans (h.xts hi),
      fun hi => (h'.wdc hi).trans (h.wdc hi),
      fun hi => ⟨(h'.timer hi).1.trans (h.timer hi).1, (h'.timer hi).2.trans (h.timer hi).2⟩,
      fun hi => (h'.mp hi).trans (h.mp hi), fun hi => (h'.it hi).trans (h.it hi),
      fun hi hu => (h'.wp hi (h.undisturbed hu)).trans (h.wp hi hu), fun hu => h'.undisturbed (h.undisturbed hu)⟩
  pushed s w _ := by constructor <;> simp
  popped s _ := by constructor <;> simp
  recovered s _ := by constructor <;> simp
  turned s := by
    refine ⟨?_, ?_, ?_, ?_, ?_, ?_, ?_, fun _ hu => by rw [hu.turn], fun hu => by rwa [hu.turn]⟩ <;> simp
  turnsCleared s := by constructor <;> simp
  touched s va a _ := by constructor <;> simp [State.undisturbed]
  wordPut s va ra w := by constructor <;> simp [State.undisturbed]
  mapWritten s vp flags real := by constructor <;> simp [State.undisturbed]
  jumped s pc := by constructor <;> simp
  freeUsed s := by constructor <;> simp
  suspensionNoted s u := by constructor <;> simp
  scanNoted s u := by constructor <;> simp
  stackSaved s := by constructor <;> simp
  exceptionTaken e s := by constructor <;> simp [State.undisturbed]

theorem RegisterWrite.ownRegisters {i : Instr} {s t : State} (h : RegisterWrite i s t) : OwnRegisters i s t := by
  cases h <;> constructor <;> simp

theorem State.sameContext_withEnvironment (s : State) :
    { s with inputs := s.withEnvironment.inputs }.SameContext s.withEnvironment := by constructor <;> simp

theorem State.sameContext_saveContext (s : State) : { s with savedPC := s.pc }.SameContext s.saveContext := by
  constructor <;> simp

/-- Settles O12: every routine keeps the one relation and, but for its own write of a register, the other. -/
theorem registerOwnership : Obligations.RegisterOwnership := by
  refine ⟨fun i s t h => ?_, fun s t h => ?_⟩
  · have hc := sameContext_routineRel.exec (fun _ _ => RegisterWrite.sameContext) h
    have ho := (ownRegisters_routineRel i).exec (fun _ _ => RegisterWrite.ownRegisters) h
    refine ⟨⟨hc.lf, hc.gf, hc.cb, hc.pid, hc.wm, hc.breakByte, hc.savedPC, hc.running, hc.depth, hc.cfg, hc.inputs⟩,
      ho.mds, ho.psb, ho.xts, ho.wdc, ho.timer, ho.mp, ho.it, ho.wp, ?_⟩
    rw [← hc.lf, ← hc.gf, ← hc.cb, ← hc.pid, ← hc.wm, ← hc.breakByte, ← hc.savedPC, ← hc.running, ← hc.cfg, ← hc.inputs]
  · rcases sameContext_routineRel.step (fun _ _ _ => RegisterWrite.sameContext) h with hc | hc
    · have hs := sameContext_routineRel.trans _ _ _ s.sameContext_withEnvironment hc
      exact ⟨hs.lf, hs.gf, hs.cb, hs.pid, hs.wm, hs.breakByte, hs.running, hs.depth, hs.cfg, .inl hs.savedPC⟩
    · have he := s.sameContext_withEnvironment
      have hs := sameContext_routineRel.trans _ _ _ s.withEnvironment.sameContext_saveContext hc
      exact ⟨hs.lf.trans he.lf, hs.gf.trans he.gf, hs.cb.trans he.cb, hs.pid.trans he.pid, hs.wm.trans he.wm,
        hs.breakByte.trans he.breakByte, hs.running.trans he.running, hs.depth.trans he.depth, hs.cfg.trans he.cfg,
        .inr (hs.savedPC.trans s.withEnvironment_pc)⟩

end Sys2Proof.Machine
end

section
/-! The state at reset, and the invariant of every step (10_state.md R42, R45, R61, R83; 20_memory.md R102, R103). -/

namespace Sys2Proof.Machine

/-- Settles O9: each register of R83's table has its value in the definition of the state at reset. -/
theorem resetValues : Obligations.ResetValues := ⟨rfl, rfl, rfl, rfl, rfl, rfl, rfl, rfl, rfl⟩

/-! The invariant through the changes of memory and map. -/

theorem storedMapEntry_flags (c : Config) (flags : Word) (real : Long) :
    (storedMapEntry c flags real).flags &&& ~~~(implementedMapFlags c) = 0 := by
  have h : (storedMapEntry c flags real).flags = flags &&& implementedMapFlags c := by
    unfold storedMapEntry
    dsimp only
    split <;> rfl
  rw [h, BitVec.and_assoc, BitVec.and_not_self]
  exact BitVec.and_zero

namespace State.Inv
variable {s : State}

theorem writeMap (h : s.Inv) (vp : Nat) (flags : Word) (real : Long) : (s.writeMap vp flags real).Inv := by
  by_cases hv : s.cfg.virtualPage vp = true
  · rw [State.writeMap, if_pos hv]
    refine { h with mapWf := sparsePut_wf _ _ h.mapWf, mapFlags := fun p hp => ?_, mapPages := fun p hp => ?_ }
    · rcases sparsePut_mem hp with rfl | hp
      · exact storedMapEntry_flags _ _ _
      · exact h.mapFlags p hp
    · rcases sparsePut_mem hp with rfl | hp
      · exact hv
      · exact h.mapPages p hp
  · rwa [State.writeMap, if_neg hv]

theorem touch (h : s.Inv) (va : Long) (a : Access) : (s.touch va a).Inv := by
  unfold State.touch
  split
  · dsimp only
    split
    · exact { h with }
    · exact { h.writeMap _ _ _ with }
  · exact h.writeMap _ _ _

theorem putWord (h : s.Inv) (va : Long) (ra : Nat) (w : Word) : (s.putWord va ra w).Inv :=
  { h with memoryWf := State.putWord_memoryWf va ra w h.memoryWf }

theorem deviceAccess (h : s.Inv) (d : DeviceAccess) : (s.deviceAccess d).Inv := by
  unfold State.deviceAccess
  cases d with
  | read va =>
    dsimp only
    split
    · exact h.touch va .read
    · exact h
  | write va w =>
    dsimp only
    split
    · exact (h.touch va .write).putWord _ _ _
    · exact h

theorem deviceAccesses (h : s.Inv) (ds : List DeviceAccess) : (s.deviceAccesses ds).Inv := by
  induction ds generalizing s with
  | nil => exact h
  | cons d ds ih => exact ih (h.deviceAccess d)

theorem takeTurn (h : s.Inv) : s.takeTurn.Inv := by
  unfold State.takeTurn
  split
  · exact h
  · refine deviceAccesses ?_ _
    exact { h with }

theorem withEnvironment (h : s.Inv) : s.withEnvironment.Inv := by
  unfold State.withEnvironment
  split
  · exact { h with }
  · refine deviceAccesses ?_ _
    exact { h with }

theorem saveContext (h : s.Inv) : s.saveContext.Inv := { h with savedSpBound := h.spBound }

theorem takeException (h : s.Inv) (e : Exception) : (takeException e s).Inv := by
  cases e with
  | trap t => exact { h with spBound := h.savedSpBound }
  | fault k va => exact { h with spBound := h.savedSpBound }
  | reschedule => exact { h with }

end State.Inv

/-! The invariant through routines and steps. -/

/-- Where the invariant holds in `s`, it holds in `t`. -/
def InvKept (s t : State) : Prop := s.Inv → t.Inv

theorem invKept_routineRel : RoutineRel InvKept where
  refl _ h := h
  trans _ _ _ h h' hs := h' (h hs)
  pushed _ _ hl h :=
    { h with
      spBound := (Nat.succ_le_of_lt hl).trans_eq List.length_set.symm
      savedSpBound := h.savedSpBound.trans_eq List.length_set.symm }
  popped _ _ h := { h with spBound := (Nat.sub_le _ _).trans h.spBound }
  recovered _ hl h := { h with spBound := hl }
  turned _ h := h.takeTurn
  turnsCleared _ h := { h with }
  touched _ va a _ h := h.touch va a
  wordPut _ va ra w h := h.putWord va ra w
  mapWritten _ vp flags real h := h.writeMap vp flags real
  jumped _ _ h := { h with }
  freeUsed _ h := { h with }
  suspensionNoted _ _ h := { h with }
  scanNoted _ _ h := { h with }
  stackSaved _ h := { h with savedSpBound := h.spBound }
  exceptionTaken e _ h := h.takeException e

/-- Of the registers with a write instruction only `MDS` is in the invariant: the half that `WRMDS` does not write is 0 (R42, R220). -/
theorem RegisterWrite.invKept {i : Instr} {s t : State} (hw : RegisterWrite i s t) : InvKept s t := fun h => by
  cases hw with
  | mds => exact { h with mdsLow := Long.low_ofHalves _ 0 }
  | it | mp | psb | ptc | wdc | wp | xts => exact { h with }

/-- Settles O11: the environment, the saving of the context and every routine keep the invariant. -/
theorem invariantKept : Obligations.InvariantKept := fun _ _ h hstep => by
  rcases invKept_routineRel.step (fun _ _ _ => RegisterWrite.invKept) hstep with hk | hk
  · exact hk h.withEnvironment
  · exact hk h.withEnvironment.saveContext

end Sys2Proof.Machine
end

section
/-! An access through the map after the devices' turn: faults, the flags it sets, the entries it leaves (20_memory.md R108 to R113). -/

namespace Sys2Proof.Machine

/-! The entry of the page after a successful access. -/

section Entry
variable {s : State} {va : Long}

theorem State.real_touch {a : Access} (h : s.accessible va a) (vb : Long) :
    ((s.touch va a).entryOf vb).real = (s.entryOf vb).real := (State.readMap_touch h _).1

theorem State.isReferenced_touch {a : Access} (h : s.accessible va a) (hr : s.cfg.residentPage (virtualPageOf va) = false) :
    ((s.touch va a).entryOf va).isReferenced = true := by
  rw [State.entryOf, State.readMap_touch_same a h.1 hr]
  refine (implementedMapFlags_low _ _ 0 (by decide)).trans ?_
  cases a <;> simp [touchFlags]

theorem State.isDirty_touch_write (h : s.accessible va .write) (hr : s.cfg.residentPage (virtualPageOf va) = false) :
    ((s.touch va .write).entryOf va).isDirty = true := by
  rw [State.entryOf, State.readMap_touch_same .write h.1 hr]
  refine (implementedMapFlags_low _ _ 1 (by decide)).trans ?_
  simp [touchFlags]

/-- A read leaves `dirty` alone, on a resident page too. -/
theorem State.isDirty_touch_read (h : s.accessible va .read) :
    ((s.touch va .read).entryOf va).isDirty = (s.entryOf va).isDirty := by
  by_cases hr : s.cfg.residentPage (virtualPageOf va) = true
  · rw [State.entryOf, State.touch, if_pos hr, State.readMap_freeIndex]
    split
    · rfl
    · rename_i hne
      have hv := residentFlags_vacant (f := (s.entryOf va).flags) (Config.freeWord s.freeIndex) h.1 h.2
      rw [State.readMap_writeMap_flagged _ (State.virtualPage_of_present h.1) hv (residentFlags_changed hne)]
      exact (implementedMapFlags_low _ _ 1 (by decide)).trans ((residentFlags_low _ .read _).2.2 rfl)
  · rw [Bool.not_eq_true] at hr
    rw [State.entryOf, State.readMap_touch_same .read h.1 hr]
    refine (implementedMapFlags_low _ _ 1 (by decide)).trans ?_
    simp [touchFlags, MapEntry.isDirty]

theorem State.entryOf_storeWord (w : Word) (vb : Long) : (s.storeWord va w).entryOf vb = (s.touch va .write).entryOf vb :=
  State.entryOf_congr (by simp) (by simp) vb

end Entry

/-! Accesses from any state, whatever the devices do in their turn. -/

section Turn
variable {u t : State} {va : Long} (ht : u.takeTurn = t)
include ht

theorem fetch_vacant_turn (h : (t.entryOf va).isVacant = true) :
    fetch va u = .error (.exception (.fault .pageFault va)) t := by
  simp [fetch, ht, translate_vacant .read h]

theorem fetch_ok_turn (h : t.readable va) : fetch va u = .ok (t.wordAt va) (t.touch va .read) := by
  simp [fetch, ht, translate_ok h.accessible, checkReal, h.1.2, checkOverhead, State.isOverhead_touch, h.2, State.wordAt]

theorem fetch_overhead_turn (h : t.present va) (ho : t.isOverhead va = true) :
    fetch va u = .error (.refused .overheadAccess) (t.touch va .read) := by
  simp [fetch, ht, translate_ok h.accessible, checkReal, h.2, checkOverhead, State.isOverhead_touch, ho]

theorem fetchOverhead_ok_turn (h : t.present va) :
    fetchOverhead va u = .ok (t.wordAt va) (t.touch va .read) := by
  simp [fetchOverhead, ht, translate_ok h.accessible, checkReal, h.2, State.wordAt]

theorem store_vacant_turn (w : Word) (h : (t.entryOf va).isVacant = true) :
    store va w u = .error (.exception (.fault .pageFault va)) t := by
  simp [store, ht, translate_vacant .write h]

theorem store_protected_turn (w : Word) (hv : (t.entryOf va).isVacant = false)
    (hp : (t.entryOf va).isProtected = true) :
    store va w u = .error (.exception (.fault .writeProtectFault va)) t := by
  simp [store, ht, translate_protected hv hp]

theorem store_ok_turn (w : Word) (h : t.storable va) : store va w u = .ok () (t.storeWord va w) := by
  simp [store, ht, translate_ok h.1.accessible, checkReal, h.1.1.2, checkOverhead, State.isOverhead_touch, h.2, State.storeWord]

theorem store_overhead_turn (w : Word) (h : t.writable va) (ho : t.isOverhead va = true) :
    store va w u = .error (.refused .overheadAccess) (t.touch va .write) := by
  simp [store, ht, translate_ok h.accessible, checkReal, h.1.2, checkOverhead, State.isOverhead_touch, ho]

end Turn

/-- Settles O14: the routines' results after the devices' turn, and the entry of the page that each leaves. -/
theorem accessRules : Obligations.AccessRules := by
  refine ⟨fun u va => ⟨fetch_vacant_turn rfl, fun h => ?_, fun h ho =>
      ⟨fetch_overhead_turn rfl h ho, fetchOverhead_ok_turn rfl h⟩⟩,
    fun u va w => ⟨store_vacant_turn rfl w, store_protected_turn rfl w, fun h => ?_, store_overhead_turn rfl w⟩⟩
  · have ha := h.accessible
    exact ⟨fetch_ok_turn rfl h, State.isReferenced_touch ha, State.isProtected_touch ha va, State.isDirty_touch_read ha,
      State.real_touch ha va, fun vp => State.readMap_touch_other _ .read⟩
  · have ha := h.1.accessible
    simp only [State.entryOf_storeWord]
    exact ⟨store_ok_turn rfl w h, fun hr => ⟨State.isReferenced_touch ha hr, State.isDirty_touch_write ha hr⟩,
      State.real_touch ha va,
      fun vp hvp => (State.readMap_congr (by simp) (by simp) vp).trans (State.readMap_touch_other _ .write hvp)⟩

end Sys2Proof.Machine
end

section
/-! Too few operands, or no room for a result (10_state.md R46 to R52, R693; 41_stack.md R240). -/

namespace Sys2Proof.Machine

/-- From this state the routine ends in `StackError`. -/
def StackErrs {α : Type} (m : Act α) (s : State) : Prop := ∃ t, m s = .error .stackError t

namespace StackErrs
variable {α β : Type} {m : Act α} {f : α → Act β} {s t : State} {a : α}

theorem complete {m : Act Unit} (h : StackErrs m s) : complete m s = .fault .stackError := by
  obtain ⟨t, h⟩ := h
  simp [Machine.complete, h]

theorem bind (h : StackErrs m s) : StackErrs (m >>= f) s := by
  obtain ⟨t, h⟩ := h
  exact ⟨t, bind_error h⟩

/-- The error comes after a first part that succeeds. -/
theorem after (hm : m s = .ok a t) (h : StackErrs (f a) t) : StackErrs (m >>= f) s := by
  obtain ⟨u, h⟩ := h
  exact ⟨u, (bind_ok hm).trans h⟩

end StackErrs

/-! Routines that remove words first. -/

/-- The routine removes `n` words before it does anything else: with fewer on the stack it ends in `StackError`. -/
def Removes {α : Type} (n : Nat) (m : Act α) : Prop := ∀ s : State, s.sp < n → StackErrs m s

namespace Removes
variable {α β : Type} {n : Nat} {m : Act α}

theorem nothing (m : Act α) : Removes 0 m := fun _ h => absurd h (Nat.not_lt_zero _)

theorem discarding : Removes 1 discard := fun s h => ⟨s, discard_empty (Nat.lt_one_iff.1 h)⟩

theorem bind (h : Removes n m) (f : α → Act β) : Removes n (m >>= f) := fun s hs => (h s hs).bind

/-- A first part that removes one word. -/
theorem one_more {m : Act α} (hm : ∀ s, s.sp ≠ 0 → ∃ a t, m s = .ok a t ∧ t.sp = s.sp - 1) (hd : Removes 1 m)
    {f : α → Act β} (h : ∀ a, Removes n (f a)) : Removes (n + 1) (m >>= f) := fun s hs => by
  by_cases h0 : s.sp = 0
  · exact (hd s (by omega)).bind
  · obtain ⟨a, t, hm, ht⟩ := hm s h0
    exact .after hm (h a t (by omega))

theorem discardThen {f : Unit → Act β} (h : Removes n (f ())) : Removes (n + 1) (discard >>= f) :=
  one_more (fun _ h0 => ⟨_, _, discard_ok h0, rfl⟩) discarding fun _ => h

theorem popping : Removes 1 pop := fun s h => ⟨s, pop_empty (Nat.lt_one_iff.1 h)⟩

theorem popThen {f : Word → Act β} (h : ∀ w, Removes n (f w)) : Removes (n + 1) (pop >>= f) :=
  one_more (fun _ h0 => ⟨_, _, pop_ok h0, rfl⟩) popping h

theorem popLongThen {f : Long → Act β} (h : ∀ u, Removes n (f u)) : Removes (n + 2) (popLong >>= f) := fun s hs => by
  by_cases h2 : 2 ≤ s.sp
  · exact .after (popLong_ok h2) (h _ _ (by simp only; omega))
  · have hp : Removes 2 popLong := popThen fun _ => popThen fun _ => nothing _
    exact (hp s (by omega)).bind

/-! The shapes of the instructions' beginnings: words (`W`) and double words (`L`) popped. -/

theorem popW {f : Word → Act β} : Removes 1 (pop >>= f) := popThen fun _ => nothing _

theorem popL {f : Long → Act β} : Removes 2 (popLong >>= f) := popLongThen fun _ => nothing _

theorem popWW {f : Word → Word → Act β} : Removes 2 (do let v ← pop; let u ← pop; f v u) := popThen fun _ => popW

theorem popWL {f : Word → Long → Act β} : Removes 3 (do let v ← pop; let u ← popLong; f v u) := popThen fun _ => popL

theorem popLW {f : Long → Word → Act β} : Removes 3 (do let v ← popLong; let u ← pop; f v u) := popLongThen fun _ => popW

theorem popLL {f : Long → Long → Act β} : Removes 4 (do let v ← popLong; let u ← popLong; f v u) := popLongThen fun _ => popL

theorem popWWW {f : Word → Word → Word → Act β} :
    Removes 3 (do let w ← pop; let v ← pop; let u ← pop; f w v u) := popThen fun _ => popWW

theorem popWLW {f : Word → Long → Word → Act β} :
    Removes 4 (do let w ← pop; let v ← popLong; let u ← pop; f w v u) := popThen fun _ => popLW

theorem popWLL {f : Word → Long → Long → Act β} :
    Removes 5 (do let w ← pop; let v ← popLong; let u ← popLong; f w v u) := popThen fun _ => popLL

theorem popWWL {f : Word → Word → Long → Act β} :
    Removes 4 (do let w ← pop; let v ← pop; let u ← popLong; f w v u) := popThen fun _ => popWL

theorem popLWW {f : Long → Word → Word → Act β} :
    Removes 4 (do let w ← popLong; let v ← pop; let u ← pop; f w v u) := popLongThen fun _ => popWW

theorem popLWL {f : Long → Word → Long → Act β} :
    Removes 5 (do let w ← popLong; let v ← pop; let u ← popLong; f w v u) := popLongThen fun _ => popWL

/-- A block transfer removes what its iteration does. -/
theorem ofIteration {iteration : Act Bool} (h : Removes n iteration) : Removes n (blockLoop iteration) := fun s hs =>
  .bind <| .bind (h s hs)

theorem ofByteIteration (advance : BytePosition → BytePosition) : Removes 7 (byteBlockIteration advance) :=
  popThen fun _ => popLongThen fun _ => popThen fun _ => popWL

theorem complete {m : Act Unit} (h : Removes n m) {s : State} (hs : s.sp < n) : complete m s = .fault .stackError :=
  (h s hs).complete

end Removes

/-- How many words an instruction removes before it does anything else. -/
def wordsRemoved : Instr → Nat
  | .dis | .dup | .neg | .inc | .dec | .dbl | .trpl | .lint | .addsb _ | .shiftsb _ | .js | .jz3 | .jz4 | .jnz3 | .jnz4
  | .jzb _ | .jnzb _ | .jep _ | .jnep _ | .jebb _ _ | .jnebb _ _ | .lp | .rob _ | .wob _ | .wrmds | .wrmp | .wrpsb | .wrptc
  | .wrwdc | .wrwp
  | .wrxts | .r0 | .r1 | .rb _ | .rd0 | .rdb _ | .rc _ | .w0 | .wb _ | .wdb _ | .rf _ | .r0f _ => 1
  | .dis2 | .exch | .exdis | .bndck | .and | .ior | .xor | .shift | .rotate | .add | .sub | .mul | .sdiv | .udiv | .jeb _
  | .jneb _ | .jlb _ | .jleb _ | .jgb _ | .jgeb _ | .julb _ | .juleb _ | .jugb _ | .jugeb _ | .jib _ | .jiw _ | .psb _
  | .rs _ | .rcfs | .wf _ | .w0f _
  | .ws0f _ | .ddup | .nilckl | .dinc | .ddbl | .gmf | .writ | .rl0 | .rlb _ | .rdl0 | .rdlb _ | .wlb _ | .wdlb _ | .rlf _
  | .rl0f _
  | .ps0f _ | .psf _ => 2
  | .dshift | .acd | .ludiv | .smf | .pslb _ | .rls _ | .rlfs | .pslf _ | .adc | .wlf _ | .wl0f _ | .psd0 | .psdb _ | .ws _
  | .blt
  | .bltc => 3
  | .dexch | .bndckl | .dand | .dior | .dxor | .dadd | .dsub | .dmul | .sddiv | .uddiv | .dcmp | .udcmp | .jdeb _ | .jdneb _
  | .psdlb _ | .wls _ | .wlfs | .bltcl | .cksum | .blecl => 4
  | .sm | .bltl | .bltlr | .blel => 5
  | .bytblt | .bytbltr => 7
  | _ => 0

/-- Every instruction that begins by removing words, by the words and double words that it pops. -/
theorem exec_of_few {i : Instr} {s : State} (hs : s.sp < wordsRemoved i) : exec i s = .fault .stackError := by
  open Removes in
  cases i with
  | dis => exact discarding.complete hs
  | dis2 => exact (discardThen discarding).complete hs
  | exch | exdis | bndck | and | ior | xor | shift | rotate | add | sub | mul | sdiv | udiv | jeb
  | jneb | jlb | jleb | jgb | jgeb | julb | juleb | jugb | jugeb | jib | jiw | psb | rs | rcfs | wf
  | w0f | ws0f => exact popWW.complete hs
  | dexch | bndckl | dand | dior | dxor | dadd | dsub | dmul | sddiv | uddiv | dcmp | udcmp | jdeb
  | jdneb => exact popLL.complete hs
  | dup | neg | inc | dec | dbl | trpl | lint | addsb | shiftsb | js | jz3 | jz4 | jnz3 | jnz4 | jzb
  | jnzb | jep | jnep | jebb | jnebb | lp | rob | wob | wrmds | wrmp | wrpsb | wrptc | wrwdc | wrwp
  | wrxts | r0 | r1 | rb | rd0 | rdb | rc | w0 | wb | wdb | rf | r0f => exact popW.complete hs
  | ddup | nilckl | dinc | ddbl | gmf | writ | rl0 | rlb | rdl0 | rdlb | wlb | wdlb | rlf | rl0f => exact popL.complete hs
  | dshift | acd | ludiv | smf | pslb | rls | rlfs | pslf => exact popWL.complete hs
  | adc | wlf | wl0f => exact popLW.complete hs
  | sm => exact popWLL.complete hs
  | psd0 | psdb | ws => exact popWWW.complete hs
  | psdlb => exact popWWL.complete hs
  | wls | wlfs => exact popWLW.complete hs
  | ps0f | psf => exact (popWW.bind _).complete hs
  | blt | bltc => exact (ofIteration popWWW).complete hs
  | bltl | bltlr | blel => exact (ofIteration popLWL).complete hs
  | bltcl | cksum | blecl => exact (ofIteration popLWW).complete hs
  | bytblt | bytbltr => exact (ofIteration (ofByteIteration _)).complete hs
  | _ => exact absurd hs (Nat.not_lt_zero _)

theorem exec_all_of_few {ps : List (Instr × Nat)} {s : State} (h : ∀ p ∈ ps, p.2 = wordsRemoved p.1) :
    ∀ p ∈ ps, s.sp < p.2 → exec p.1 s = .fault .stackError := fun p hp hs => exec_of_few (h p hp ▸ hs)

/-! Routines that need room first, or after they have removed words. -/

/-- The routine needs room for `n` words: on a stack without it the routine ends in `StackError`. -/
def NeedsRoom {α : Type} (n : Nat) (m : Act α) : Prop := ∀ s : State, s.stack.length < s.sp + n → StackErrs m s

namespace NeedsRoom
variable {α β : Type} {n : Nat}

theorem pushing (w : Word) : NeedsRoom 1 (push w) := fun s h => ⟨s, push_full w (by omega)⟩

theorem recovering : NeedsRoom 1 recover := fun s h => ⟨s, recover_full (by omega)⟩

theorem pushThen {w : Word} {f : Unit → Act β} (h : NeedsRoom n (f ())) :
    NeedsRoom (n + 1) (push w >>= f) := fun s hs => by
  by_cases hr : s.sp < s.stack.length
  · exact .after (push_ok w hr) (h _ (by simp only [List.length_set]; omega))
  · exact (pushing w s (by omega)).bind

theorem recoverThen {f : Unit → Act β} (h : NeedsRoom n (f ())) : NeedsRoom (n + 1) (recover >>= f) := fun s hs => by
  by_cases hr : s.sp < s.stack.length
  · exact .after (recover_ok hr) (h _ (by simp only; omega))
  · exact (recovering s (by omega)).bind

theorem popThen {f : Word → Act β} (h : ∀ w, NeedsRoom (n + 1) (f w)) : NeedsRoom n (pop >>= f) := fun s hs => by
  by_cases h0 : s.sp = 0
  · exact StackErrs.bind ⟨s, pop_empty h0⟩
  · exact .after (pop_ok h0) (h _ _ (by simp only; omega))

theorem popLongThen {f : Long → Act β} (h : ∀ u, NeedsRoom (n + 2) (f u)) : NeedsRoom n (popLong >>= f) := fun s hs => by
  by_cases h2 : 2 ≤ s.sp
  · exact .after (popLong_ok h2) (h _ _ (by simp only; omega))
  · exact (Removes.popWW s (by omega)).bind

theorem getThen {f : State → Act β} (h : ∀ s, NeedsRoom n (f s)) : NeedsRoom n (get >>= f) := fun s hs => h s s hs

theorem pushingLong (u : Long) : NeedsRoom 2 (pushLong u) := pushThen (pushing _)

theorem pushLongThen {u : Long} {f : Unit → Act β} (h : NeedsRoom n (f ())) :
    NeedsRoom (n + 2) (pushLong u >>= f) := fun s hs => by
  by_cases hr : s.sp + 1 < s.stack.length
  · exact .after (pushLong_ok u hr) (h _ (by simp only [List.length_set]; omega))
  · exact (pushingLong u s (by omega)).bind

theorem realPageResultThen {e : MapEntry} {f : Long → Act β} (h : ∀ u, NeedsRoom n (f u)) :
    NeedsRoom n (realPageResult e >>= f) := fun s hs => by
  by_cases hv : e.isVacant = true
  · have hm : realPageResult e s = .ok (Config.freeLong s.freeIndex) { s with freeIndex := s.freeIndex + 1 } := by
      simp [realPageResult, hv]
    exact .after hm (h _ _ hs)
  · have hm : realPageResult e s = .ok e.real s := by simp [realPageResult, hv]
    exact .after hm (h _ s hs)

theorem complete {m : Act Unit} (h : NeedsRoom n m) {s : State} (hs : s.stack.length < s.sp + n) :
    complete m s = .fault .stackError := (h s hs).complete

end NeedsRoom

/-! Loads onto a full stack: the words are read, then the push fails (log 46). -/

theorem push_noRoom {s : State} (w : Word) (h : s.stack.length ≤ s.sp) : StackErrs (push w) s := ⟨s, push_full w (by omega)⟩

section Loads
variable {s : State} (hu : s.undisturbed) (hr : s.stack.length ≤ s.sp)
include hu hr

theorem loadLong_noRoom {va : Long} (h : s.readable va) : StackErrs (loadLong va) s :=
  .after (fetch_ok hu h) (push_noRoom _ (by simpa using hr))

theorem loadMds_noRoom {ptr : Word} (h : s.readable (s.lengthenPointer ptr)) : StackErrs (loadMds ptr) s :=
  .after (fetch_ok hu h) (push_noRoom _ (by simpa using hr))

theorem loadDoubleMds_noRoom {ptr : Word} (h : s.readable (s.lengthenPointer ptr)) : StackErrs (loadDoubleMds ptr) s :=
  .after (fetch_ok hu h) (.bind (push_noRoom _ (by simpa using hr)))

theorem readDoubleLong_noRoom {va : Long} (h : s.readable va) (h1 : s.readable (va + 1)) : StackErrs (readDoubleLong va) s :=
  .after (fetch_ok hu h) <| .after (fetch_ok (hu.touch _ _) ((State.readable_touch h.accessible _).2 h1)) <|
    .bind (push_noRoom _ (by simpa using hr))

theorem loadField_noRoom {va : Long} {f : FieldSpec} (hf : f.wellFormed = true) (h : s.readable va) :
    StackErrs (loadField va f) s := by
  have hm : fetchField va f s = .ok (readFieldOf (s.wordAt va) f) (s.touch va .read) := by
    simp [fetchField, fetch_ok hu h, readField, hf]
  exact .after hm (push_noRoom _ (by simpa using hr))

end Loads

/-- What a short pointer leads to can be accessed after an access as before it. -/
theorem State.readable_pointer_touch {s : State} {va : Long} {a : Access} (h : s.accessible va a) (ptr : Word) :
    (s.touch va a).readable ((s.touch va a).lengthenPointer ptr) ↔ s.readable (s.lengthenPointer ptr) := by
  rw [lengthenPointer_congr (s := s) (by simp), State.readable_touch h]

theorem State.storable_pointer_touch {s : State} {va : Long} {a : Access} (h : s.accessible va a) (ptr : Word) :
    (s.touch va a).storable ((s.touch va a).lengthenPointer ptr) ↔ s.storable (s.lengthenPointer ptr) := by
  rw [lengthenPointer_congr (s := s) (by simp), State.storable_touch h]

section Indirect
variable {s : State} (hu : s.undisturbed) (hr : s.stack.length ≤ s.sp) {base offset : Word}
  (h : s.readable (s.lengthenPointer base))
include hu hr h

theorem readIndirect_noRoom (h' : s.readable (s.lengthenPointer (s.wordAt (s.lengthenPointer base) + offset))) :
    StackErrs (readIndirect base offset) s :=
  .after (fetch_ok hu h) <|
    loadMds_noRoom (hu.touch _ _) (by simpa using hr) ((State.readable_pointer_touch h.accessible _).2 h')

theorem readIndirectDouble_noRoom (h' : s.readable (s.lengthenPointer (s.wordAt (s.lengthenPointer base) + offset)))
    (h1 : s.readable (s.lengthenPointer (s.wordAt (s.lengthenPointer base) + offset + 1))) :
    StackErrs (readIndirectDouble base offset) s := by
  have ht' := (State.readable_pointer_touch h.accessible _).2 h'
  have ht1 := (State.readable_pointer_touch ht'.accessible _).2 ((State.readable_pointer_touch h.accessible _).2 h1)
  exact .after (fetch_ok hu h) <| .after (fetch_ok (hu.touch _ _) ht') <|
    .after (fetch_ok ((hu.touch _ _).touch _ _) ht1) <| .bind (push_noRoom _ (by simpa using hr))

end Indirect

/-- A routine that fails where a long pointer in memory leads it. -/
theorem readDblMds_then {s : State} {base : Word} {α : Type} {f : Long → Act α} (hu : s.undisturbed)
    (h : s.readable (s.lengthenPointer base)) (h1 : s.readable (s.lengthenPointer base + 1))
    (hf : ∀ t : State, t.undisturbed → t.sp = s.sp → t.stack = s.stack → (∀ va, s.readable va → t.readable va) →
      (∀ va, s.storable va → t.storable va) → StackErrs (f (s.longAt (s.lengthenPointer base))) t) :
    StackErrs (readDblMds base >>= f) s := by
  have ht1 := (State.readable_touch h.accessible _).2 h1
  refine .after (readDbl_ok hu h h1) (hf _ ((hu.touch _ _).touch _ _) (by simp) (by simp) (fun va hva => ?_) fun va hva => ?_)
  · exact (State.readable_touch ht1.accessible _).2 ((State.readable_touch h.accessible _).2 hva)
  · exact (State.storable_touch ht1.accessible _).2 ((State.storable_touch h.accessible _).2 hva)

theorem readIndirectLong_noRoom {s : State} {base : Word} {offset : Long} (hu : s.undisturbed) (hr : s.stack.length ≤ s.sp)
    (h : s.readable (s.lengthenPointer base)) (h1 : s.readable (s.lengthenPointer base + 1))
    (h' : s.readable (s.longAt (s.lengthenPointer base) + offset)) : StackErrs (readIndirectLong base offset) s :=
  readDblMds_then hu h h1 fun _ hu hsp hst kept _ => loadLong_noRoom hu (by rwa [hsp, hst]) (kept _ h')

/-! Stores with no data: the destination is mapped, then the pop fails (log 46). -/

section Stores
variable {s : State} (hu : s.undisturbed) (h0 : s.sp = 0)
include hu h0

theorem storePop_empty {va : Long} (h : s.storable va) : StackErrs (storePop va) s := by
  have hp := pop_empty (s := s.touch va .write) (by simpa using h0)
  exact ⟨s.touch va .write, by
    simp [storePop, hu.turn, translate_ok h.1.accessible, checkReal, h.1.1.2, checkOverhead, State.isOverhead_touch, h.2, hp]⟩

theorem storeMdsPop_empty {ptr : Word} (h : s.storable (s.lengthenPointer ptr)) : StackErrs (storeMdsPop ptr) s := by
  rw [StackErrs, storeMdsPop_eq]
  exact storePop_empty hu h0 h

theorem storeDoubleMds_empty {ptr : Word} (h : s.storable (s.lengthenPointer (ptr + 1))) : StackErrs (storeDoubleMds ptr) s :=
  .bind (storeMdsPop_empty hu h0 h)

theorem storeDoubleLong_empty {va : Long} (h : s.storable (va + 1)) : StackErrs (storeDoubleLong va) s :=
  .bind (storePop_empty hu h0 h)

end Stores

theorem StackErrs.of_holds {α : Type} {m : Act α} {s : State} {base : Nat} {ws : List Word} (h : s.holds base ws)
    (hm : StackErrs m (s.result base ws [])) : StackErrs m s :=
  State.result_of_holds h ▸ hm

/-- A pointer alone on the stack: with it popped there is no data. -/
theorem pop_then_empty {s : State} {ptr : Word} {f : Word → Act Unit} (h : s.holds 0 [ptr])
    (hf : StackErrs (f ptr) (s.result 0 [] [ptr])) : StackErrs (pop >>= f) s :=
  .of_holds h <| .after (pop_append (ws := []) (State.holds_bound h)) hf

theorem popLong_then_empty {s : State} {ptr high : Word} {f : Long → Act Unit} (h : s.holds 0 [ptr, high])
    (hf : StackErrs (f (Long.ofHalves high ptr)) (s.result 0 [] [ptr, high])) : StackErrs (popLong >>= f) s :=
  .of_holds h <| .after (popLong_append (ws := []) (State.holds_bound h)) hf

theorem writeDirect_empty {s : State} {ptr offset : Word} (hu : s.undisturbed) (h : s.holds 0 [ptr])
    (hs : s.storable (s.lengthenPointer (ptr + offset))) : StackErrs (writeDirect offset) s :=
  pop_then_empty h (storeMdsPop_empty (s := s.result 0 [] [ptr]) hu rfl hs)

/-- Settles O26: each instruction by what it removes first, by the room it needs, or by the access before its pop or push. -/
theorem stackErrors : Obligations.StackErrors := by
  intro s alpha disp pair f d ptr high w va local0 global0
  refine ⟨exec_all_of_few ?removed, ?_⟩
  all_goals simp only [List.forall_mem_cons, List.not_mem_nil, false_imp_iff, implies_true, and_true, State.readableAll_cons,
    State.readableAll_nil]
  case removed => and_intros <;> rfl
  refine ⟨?room, fun hu => ⟨fun h0 => ?stores, fun h0 => ?indirectStores, fun h => ?writes, fun h => ?longWrites,
    fun hr => ?loads, fun hr hf => ?fields⟩⟩
  case room =>
    have one (w : Word) (h : s.stack.length < s.sp + 1) := (NeedsRoom.pushing w).complete h
    have two (u : Long) (h : s.stack.length < s.sp + 2) := (NeedsRoom.pushingLong u).complete h
    open NeedsRoom in
    exact ⟨recovering.complete, (recoverThen recovering).complete, (popThen fun _ => pushThen (pushing _)).complete,
      (popLongThen fun _ => pushLongThen (pushingLong _)).complete, (popThen fun _ => pushThen (pushing _)).complete,
      one _, one _, one _, one _, one _, one _, one _, one _, one _, two _, one _, one _, one _, one _, one _, one _, one _, one _,
      (popThen fun _ => getThen fun _ => pushingLong _).complete,
      (popLongThen fun _ => getThen fun _ => pushThen <| realPageResultThen fun _ => pushingLong _).complete,
      one _, one _, one _, one _, one _, one _, two _⟩
  case stores =>
    have one {ptr : Word} (h : s.storable (va ptr)) := (storeMdsPop_empty hu h0 h).complete
    have two {ptr : Word} (h : s.storable (va (ptr + 1))) := (storeDoubleMds_empty hu h0 h).complete
    exact ⟨one, one, fun h => (storeMdsPop_empty hu h0 h).bind.complete,
      fun h => (storeMdsPop_empty hu h0 h).bind.complete, one, two, two, fun h => (storeDoubleMds_empty hu h0 h).bind.complete,
      fun h => (storeDoubleMds_empty hu h0 h).bind.complete, two⟩
  case indirectStores =>
    refine ⟨fun h _ hs => ?_, fun h h1 hs => ?_, fun h h1 hs => ?_⟩
    · exact StackErrs.complete <| .after (fetch_ok hu h) <| storeMdsPop_empty (hu.touch _ _) (by simpa using h0)
        ((State.storable_pointer_touch h.accessible _).2 hs)
    · exact StackErrs.complete <| readDblMds_then hu h h1 fun _ hu hsp _ _ kept => storePop_empty hu (hsp.trans h0) (kept _ hs)
    · exact StackErrs.complete <| readDblMds_then hu h h1 fun _ hu hsp _ _ kept =>
        storeDoubleLong_empty hu (hsp.trans h0) (kept _ hs)
  case writes =>
    have hu' : (s.result 0 [] [ptr]).undisturbed := hu
    exact ⟨fun hs => (writeDirect_empty (offset := 0) hu h (by simpa using hs)).complete,
      fun hs => (writeDirect_empty hu h hs).complete,
      fun hs => (pop_then_empty h (storeDoubleMds_empty (ptr := ptr + byteWord alpha) hu' rfl hs)).complete⟩
  case longWrites =>
    have hu' : (s.result 0 [] [ptr, high]).undisturbed := hu
    exact ⟨fun hs => (popLong_then_empty h (storePop_empty (va := Long.ofHalves high ptr + byteLong alpha) hu' rfl hs)).complete,
      fun hs => (popLong_then_empty h
        (storeDoubleLong_empty (va := Long.ofHalves high ptr + byteLong alpha) hu' rfl hs)).complete⟩
  case loads =>
    have one {ptr : Word} (h : s.readable (va ptr)) := (loadMds_noRoom hu hr h).complete
    have two {ptr : Word} (h : s.readable (va ptr)) := (loadDoubleMds_noRoom hu hr h).complete
    exact ⟨one, one, one, one, fun h => StackErrs.complete (.after (fetch_ok hu h) (push_noRoom _ (by simpa using hr))),
      two, two, two, two, fun ⟨h, h'⟩ => (readIndirect_noRoom (offset := 0) hu hr h (by simpa using h')).complete,
      fun ⟨h, h'⟩ => (readIndirect_noRoom hu hr h h').complete, fun ⟨h, h'⟩ => (readIndirect_noRoom hu hr h h').complete,
      fun ⟨h, h1, h'⟩ => (readIndirectLong_noRoom hu hr h h1 h').complete,
      fun ⟨h, h1, h'⟩ => (readIndirectLong_noRoom hu hr h h1 h').complete,
      fun ⟨h, h', h1⟩ => (readIndirectDouble_noRoom hu hr h h' h1).complete,
      fun ⟨h, h1, h', h1'⟩ => StackErrs.complete <| readDblMds_then hu h h1 fun _ hu hsp hst kept _ =>
        readDoubleLong_noRoom hu (by rwa [hsp, hst]) (kept _ h') (kept _ h1')⟩
  case fields =>
    refine ⟨fun ⟨h, h'⟩ => ?_, fun ⟨h, h1, h'⟩ => ?_⟩
    · exact StackErrs.complete <| .after (fetch_ok hu h) <|
        loadField_noRoom (hu.touch _ _) (by simpa using hr) hf ((State.readable_touch h.accessible _).2 h')
    · exact StackErrs.complete <| readDblMds_then hu h h1 fun _ hu hsp hst kept _ =>
        loadField_noRoom hu (by rwa [hsp, hst]) hf (kept _ h')

end Sys2Proof.Machine
end

section
/-! SUPPORT. A routine run from any state of a kind, by what its answer is; and the states that a routine comes to by loads and by setting
bits of words, from the one it began in. -/

namespace Sys2Proof.Machine

/-- From every state that `P` holds of, what the routine answers is as `Q` says. -/
def Runs {α : Type} (P : State → Prop) (m : Act α) (Q : EStateM.Result Raise State α → Prop) : Prop := ∀ u, P u → Q (m u)

/-- The answer is `a`, in a state that `P` holds of. -/
def Answers {α : Type} (a : α) (P : State → Prop) (r : EStateM.Result Raise State α) : Prop := ∃ u, r = .ok a u ∧ P u

/-- The routine is abandoned, for the reason `e`. -/
def Raises {α : Type} (e : Raise) (r : EStateM.Result Raise State α) : Prop := ∃ u, r = .error e u

namespace Runs
variable {α β : Type} {P P' : State → Prop} {m : Act α} {f : α → Act β} {a : α} {Q : EStateM.Result Raise State β → Prop}

theorem bind (hm : Runs P m (Answers a P')) (hf : Runs P' (f a) Q) : Runs P (m >>= f) Q := fun u hu => by
  obtain ⟨t, ht, hP⟩ := hm u hu
  rw [bind_ok ht]
  exact hf t hP

theorem raised {e : Raise} (hm : Runs P m (Raises e)) (f : α → Act β) : Runs P (m >>= f) (Raises e) := fun u hu => by
  obtain ⟨t, ht⟩ := hm u hu
  exact ⟨t, bind_error ht⟩

theorem pure (a : α) : Runs P (pure a) (Answers a P) := fun u hu => ⟨u, rfl, hu⟩

theorem refuse (x : Refusal) : Runs P (refuse x : Act α) (Raises (.refused x)) := fun u _ => ⟨u, rfl⟩

theorem get {f : State → Act β} (hf : ∀ t, P t → Runs P (f t) Q) : Runs P (get >>= f) Q := fun u hu => hf u hu u hu

theorem pos {c : Prop} [Decidable c] {m n : Act β} (hc : c) (h : Runs P m Q) : Runs P (if c then m else n) Q := by
  rwa [if_pos hc]

theorem neg {c : Prop} [Decidable c] {m n : Act β} (hc : ¬ c) (h : Runs P n Q) : Runs P (if c then m else n) Q := by
  rwa [if_neg hc]

theorem complete_refused {x : Refusal} {m : Act Unit} {s : State} (h : Runs P m (Raises (.refused x))) (hs : P s) :
    complete m s = .refused x := Refuses.complete (h s hs)

theorem complete_stackError {m : Act Unit} {s : State} (h : Runs P m (Raises .stackError)) (hs : P s) :
    complete m s = .fault .stackError := StackErrs.complete (h s hs)

end Runs

/-! States after loads and after bits have been set. -/

/-- `u` is `s` after accesses that have set the bits `D` of memory, by real address and number, and nothing else. -/
structure Accessed (s : State) (D : Nat → Nibble → Prop) (u : State) : Prop where
  frame : u = { s with map := u.map, mem := u.mem, codeWrites := u.codeWrites, freeIndex := u.freeIndex }
  real : ∀ va, u.realAddress va = s.realAddress va
  isVacant : ∀ va, (u.entryOf va).isVacant = (s.entryOf va).isVacant
  isProtected : ∀ va, (u.entryOf va).isProtected = (s.entryOf va).isProtected
  memoryWf : Memory.wf s.mem = true → Memory.wf u.mem = true
  bits : ∀ r b, bitOf (Memory.wordAt u.mem r) b = true ↔ bitOf (Memory.wordAt s.mem r) b = true ∨ D r b

/-- No bit. -/
def noBits (_ : Nat) (_ : Nibble) : Prop := False

/-- A load at `va` succeeds and gives the word of `s` when the bits `D` are set. -/
def State.intact (s : State) (D : Nat → Nibble → Prop) (va : Long) : Prop := s.readable va ∧ ∀ b, ¬ D (s.realAddress va) b

theorem bitOf_ext {v w : Word} (h : ∀ b, bitOf v b = true ↔ bitOf w b = true) : v = w :=
  BitVec.eq_of_getMsbD_eq fun i hi => by
    have hb := h (BitVec.ofNat 4 i)
    rwa [bitOf, bitOf, BitVec.toNat_ofNat, Nat.mod_eq_of_lt hi, ← Bool.eq_iff_iff] at hb

namespace Accessed
variable {s u : State} {D : Nat → Nibble → Prop}

theorem refl (s : State) : Accessed s noBits s :=
  ⟨rfl, fun _ => rfl, fun _ => rfl, fun _ => rfl, id, fun _ _ => by simp [noBits]⟩

section Fields
variable (h : Accessed s D u)
include h

theorem cfg : u.cfg = s.cfg := by rw [h.frame]
theorem mds : u.mds = s.mds := by rw [h.frame]
theorem lf : u.lf = s.lf := by rw [h.frame]
theorem gf : u.gf = s.gf := by rw [h.frame]
theorem stack : u.stack = s.stack := by rw [h.frame]
theorem sp : u.sp = s.sp := by rw [h.frame]
theorem suspended : u.suspended = s.suspended := by rw [h.frame]
theorem undisturbed (hu : s.undisturbed) : u.undisturbed := by rw [h.frame]; exact hu

theorem present {va : Long} : u.present va ↔ s.present va := by
  rw [State.present, State.present, h.isVacant, h.real, h.cfg]

theorem isOverhead (va : Long) : u.isOverhead va = s.isOverhead va := State.isOverhead_congr h.lf h.gf h.mds va

theorem readable {va : Long} : u.readable va ↔ s.readable va := by
  rw [State.readable, State.readable, h.present, h.isOverhead]

theorem storable {va : Long} : u.storable va ↔ s.storable va := by
  rw [State.storable, State.storable, State.writable, State.writable, h.present, h.isProtected, h.isOverhead]

/-- A word of which no bit has been set. -/
theorem wordAt {va : Long} (hd : ∀ b, ¬ D (s.realAddress va) b) : u.wordAt va = s.wordAt va :=
  bitOf_ext fun b => by rw [State.wordAt, State.wordAt, h.real, h.bits, or_iff_left (hd b)]

theorem touch {va : Long} {a : Access} (ha : u.accessible va a) : Accessed s D (u.touch va a) where
  frame := by
    obtain ⟨m, n, ht⟩ := u.touch_cases va a
    rw [ht, h.frame]
  real vb := (State.realAddress_touch ha vb).trans (h.real vb)
  isVacant vb := (State.isVacant_touch ha vb).trans (h.isVacant vb)
  isProtected vb := (State.isProtected_touch ha vb).trans (h.isProtected vb)
  memoryWf hw := by rw [State.touch_mem]; exact h.memoryWf hw
  bits r b := by rw [State.touch_mem]; exact h.bits r b

end Fields

/-! Loads. -/

variable (hu : s.undisturbed)
include hu

theorem fetch {va : Long} (hi : s.intact D va) :
    Runs (Accessed s D) (fetch va) (Answers (s.wordAt va) (Accessed s D)) := fun u h => by
  have hr := h.readable.2 hi.1
  exact ⟨u.touch va .read, by rw [fetch_ok (h.undisturbed hu) hr, h.wordAt hi.2], h.touch hr.accessible⟩

theorem fetchMds {ptr : Word} (hi : s.intact D (s.lengthenPointer ptr)) :
    Runs (Accessed s D) (fetchMds ptr) (Answers (s.wordAt (s.lengthenPointer ptr)) (Accessed s D)) :=
  .get fun t ht => by rw [lengthenPointer_congr ht.mds]; exact fetch hu hi

theorem readDbl {va : Long} (hi : s.intact D va) (hi1 : s.intact D (va + 1)) :
    Runs (Accessed s D) (readDbl va) (Answers (s.longAt va) (Accessed s D)) :=
  .bind (fetch hu hi) <| .bind (fetch hu hi1) <| .pure _

theorem packedByte {base : Long} {index : Word} (hi : s.intact D (base + lengthen (index >>> 1))) :
    Runs (Accessed s D) (packedByte base index) (Answers (s.packedByteAt base index) (Accessed s D)) :=
  .bind (fetch hu hi) <| .pure _

end Accessed

/-! Argument records. -/

theorem State.recordAddresses_succ (s : State) (ptr : Word) (n : Nat) :
    s.recordAddresses ptr (n + 1) = s.lengthenPointer ptr :: s.recordAddresses (ptr + 1) n := by
  simp only [State.recordAddresses, List.range_succ_eq_map, List.map_cons, List.map_map, Function.comp_def]
  refine congrArg₂ _ (by simp) (List.map_congr_left fun k _ => ?_)
  rw [BitVec.add_assoc, Nat.succ_eq_one_add, BitVec.ofNat_add]
  rfl

theorem Accessed.fetchRecord {s : State} {D : Nat → Nibble → Prop} (hu : s.undisturbed) {n : Nat} {ptr : Word}
    (hi : ∀ va ∈ s.recordAddresses ptr n, s.intact D va) :
    Runs (Accessed s D) (fetchRecord ptr n) (Answers (s.record ptr n) (Accessed s D)) := by
  induction n generalizing ptr with
  | zero => exact .pure _
  | succ n ih =>
    rw [State.recordAddresses_succ, List.forall_mem_cons] at hi
    rw [State.record, State.recordAddresses_succ]
    exact .bind (fetchMds hu hi.1) <| .bind (ih hi.2) <| .pure _

/-! The test for a restart (R590, R605). -/

theorem checkRestart_ok {s u : State} {ptr : Word} {record : List Word} (hs : u.suspended = s.suspended)
    (h : s.restartable ptr record) :
    checkRestart s ptr record u = .ok () { u with suspended := s.suspensionLeft ptr } := by
  unfold State.suspensionLeft
  simp only [checkRestart, act_bind, act_get, hs]
  cases hv : s.suspended with
  | none => simp only [act_pure, ← hv, ← hs]
  | some v =>
    by_cases hc : v.pc = s.savedPC ∧ v.stack = s.stack.take s.sp ∧ v.ptr = ptr
    · obtain ⟨hpc, hst, hptr⟩ := hc
      simp [hpc, hst, hptr, h v hv hpc hst hptr]
    · simp only [if_neg hc, act_pure, ← hv, ← hs]

theorem checkRestart_changed {s u : State} {ptr : Word} {record old : List Word} (hs : u.suspended = s.suspended)
    (h : s.suspended = some ⟨s.savedPC, s.stack.take s.sp, ptr, old⟩) (ho : old ≠ record) :
    checkRestart s ptr record u = .error (.refused .changedArgument) u := by
  simp [checkRestart, hs, h, ho]

/-- The test of `s`, whose operands have been popped: a restart with the record that it was suspended with, or no restart. -/
theorem Accessed.checkRestart {s : State} {base : Nat} {D : Nat → Nibble → Prop} {ptr : Word} {record : List Word}
    (h : s.restartable ptr record) : Runs (Accessed { s with sp := base } D) (checkRestart s ptr record)
      (Answers () (Accessed { s with sp := base, suspended := s.suspensionLeft ptr } D)) := fun u hu =>
  ⟨{ u with suspended := s.suspensionLeft ptr }, checkRestart_ok hu.suspended h, { hu with frame := by rw [hu.frame] }⟩

/-- A record other than the one that the instruction was suspended with. -/
theorem Accessed.checkRestart_changed {s : State} {base : Nat} {D : Nat → Nibble → Prop} {ptr : Word} {record old : List Word}
    (h : s.suspended = some ⟨s.savedPC, s.stack.take s.sp, ptr, old⟩) (ho : old ≠ record) :
    Runs (Accessed { s with sp := base } D) (Machine.checkRestart s ptr record) (Raises (.refused .changedArgument)) :=
  fun u hu => ⟨u, Machine.checkRestart_changed hu.suspended h ho⟩

end Sys2Proof.Machine
end

section
/-! What BITBLT and TXTBLT refuse, and where they end in StackError (47_bitblt_txtblt.md R583 to R590, R604 to R606). -/

namespace Sys2Proof.Machine

/-! What TXTBLT finds of its operands in memory depends on the map's vacancies, on the words in memory and on the parameters only. -/

/-- From `u` the operands of TXTBLT look as they do from `s`. -/
structure State.SameOperands (s u : State) : Prop where
  cfg : u.cfg = s.cfg
  mds : u.mds = s.mds
  freeIndex : u.freeIndex = s.freeIndex
  wordAt : ∀ va, u.wordAt va = s.wordAt va
  isVacant : ∀ va, (u.entryOf va).isVacant = (s.entryOf va).isVacant

theorem Accessed.sameOperands {s u : State} (h : Accessed s noBits u) : s.SameOperands { u with freeIndex := s.freeIndex } :=
  ⟨h.cfg, h.mds, rfl, fun _ => h.wordAt fun _ => id, h.isVacant⟩

namespace State.SameOperands
variable {s u : State} (h : s.SameOperands u) (a : TxtBltArg)
include h

theorem longAt (va : Long) : u.longAt va = s.longAt va := by simp only [State.longAt, h.wordAt]

theorem packedByteAt (base : Long) (i : Word) : u.packedByteAt base i = s.packedByteAt base i := by
  simp only [State.packedByteAt, h.wordAt]

theorem flagsByteAt (font : Long) (char : Word) : u.flagsByteAt font char = s.flagsByteAt font char := by
  simp only [State.flagsByteAt, h.cfg, h.longAt, h.packedByteAt, h.freeIndex]

theorem characterAt (index : Word) : u.characterAt a index = s.characterAt a index := by
  simp only [State.characterAt, h.packedByteAt, h.longAt, h.wordAt, h.flagsByteAt, h.cfg]

theorem mapped (p : OperandPart) : u.mapped p = s.mapped p := by simp only [State.mapped, h.isVacant]

theorem endsAt (t : TxtState) (v : CharacterView) : u.endsAt a t v = s.endsAt a t v := by simp only [State.endsAt, h.cfg]

theorem flagsParts (v : CharacterView) : u.flagsParts a v = s.flagsParts a v := by
  simp only [State.flagsParts, h.cfg, h.longAt]

theorem seesCharacter (t : TxtState) : u.seesCharacter a t = s.seesCharacter a t := by
  simp only [State.seesCharacter, h.mapped]

theorem seesFlags (t : TxtState) : u.seesFlags a t = s.seesFlags a t := by
  rw [State.seesFlags, State.seesFlags, h.seesCharacter, h.characterAt, h.flagsParts, funext h.mapped]

theorem processesAt (t : TxtState) : u.processesAt a t = s.processesAt a t := by
  simp only [State.processesAt, h.seesFlags, h.endsAt, h.characterAt, h.cfg, h.mapped, State.printingPart, h.longAt]

theorem displaysAt (t : TxtState) : u.displaysAt a t = s.displaysAt a t := by
  simp only [State.displaysAt, h.processesAt, h.characterAt, h.mapped, State.rasterInfoPart, State.spacingPart, h.longAt]

theorem passesAt (t : TxtState) : u.passesAt a t = s.passesAt a t := by
  simp only [State.passesAt, h.processesAt, h.characterAt, h.mapped, State.spacingPart, State.printingPart, h.longAt]

theorem fontParts (t : TxtState) : u.fontParts a t = s.fontParts a t := by
  simp only [State.fontParts, h.seesCharacter, h.seesFlags, h.processesAt, h.displaysAt, h.characterAt, h.flagsParts,
    State.printingPart, State.spacingPart, State.rasterInfoPart, State.rasterPart, h.longAt, h.wordAt]

theorem txtStates (n : Nat) (t : TxtState) : u.txtStates a n t = s.txtStates a n t := by
  induction n generalizing t with
  | zero => rfl
  | succ n ih => simp only [State.txtStates, h.passesAt, h.characterAt, ih]

theorem txtBltMemoryError (ptr : Word) (t : TxtState) : u.txtBltMemoryError ptr a t = s.txtBltMemoryError ptr a t := by
  simp only [State.txtBltMemoryError, h.txtStates, funext (h.fontParts a), funext (h.displaysAt a), State.bitmapPart, h.wordAt,
    lengthenPointer_congr h.mds]

end State.SameOperands

/-! The instructions from the state in which their operands have been popped. -/

theorem complete_congr {m m' : Act Unit} {s s' : State} (h : m s = m' s') : complete m s = complete m' s' := by
  simp only [complete, h]

theorem wordsFrom_prefix {st : List Word} {base : Nat} {vs ws : List Word} (h : wordsFrom st base (vs ++ ws)) :
    wordsFrom st base vs := by
  induction vs generalizing base with
  | nil => trivial
  | cons v vs ih => exact ⟨h.1, ih h.2⟩

theorem pop_holds {s : State} {base : Nat} {ws : List Word} {w : Word} (h : s.holds base (ws ++ [w])) :
    pop s = .ok w { s with sp := base + ws.length } ∧ { s with sp := base + ws.length }.holds base ws := by
  have hb := State.holds_bound h
  have hp := pop_append (s := s) (above := []) hb
  rw [State.result_of_holds h] at hp
  refine ⟨hp.trans ?_, rfl, ?_, wordsFrom_prefix h.2.2⟩
  · rw [State.result, setWords_of_wordsFrom h.2.2 hb]
  · simp at hb ⊢
    omega

theorem exec_bitblt_first {s : State} {ptr : Word} (h : s.holds 0 [ptr]) :
    exec .bitblt s = complete (do
      let record ← bitBltRecord ptr
      let b ← bitBltSetup record
      minimalStack
      bitBltLines ptr record bitBltFuel true b) { s with sp := 0 } :=
  have hsp : s.sp = 1 := h.1
  complete_congr <| (act_ite ..).trans <| (if_pos hsp).trans (bind_ok (pop_holds (ws := []) h).1)

theorem exec_bitblt_restart {s : State} {base : Nat} {ptr line : Word} (h : s.holds base [ptr, line]) :
    exec .bitblt s = complete (do
      let record ← bitBltRecord ptr
      checkRestart s ptr record
      let b ← bitBltSetup record
      minimalStack
      bitBltLines ptr record bitBltFuel true (bitBltResume b line)) { s with sp := base } :=
  have hsp : s.sp ≠ 1 := by rw [h.1]; simp
  have hline := pop_holds (ws := [ptr]) h
  complete_congr <| (act_ite ..).trans <| (if_neg hsp).trans <| (bind_ok hline.1).trans (bind_ok (pop_holds (ws := []) hline.2).1)

theorem exec_txtblt_operands {s : State} {index bitPos printPos count ptr : Word}
    (h : s.holds 0 [index, bitPos, printPos, count, ptr]) :
    exec .txtblt s = complete (if ptr &&& 0x000F ≠ 0 then refuse .txtBltArgument
      else do
        let record ← fetchRecord ptr 13
        checkRestart s ptr record
        txtScan ptr record s.freeIndex ⟨index, bitPos, printPos, count⟩) { s with sp := 0 } :=
  have h5 := pop_holds (ws := [index, bitPos, printPos, count]) h
  have h4 := pop_holds (ws := [index, bitPos, printPos]) h5.2
  have h3 := pop_holds (ws := [index, bitPos]) h4.2
  have h2 := pop_holds (ws := [index]) h3.2
  have h1 := pop_holds (ws := []) h2.2
  complete_congr <| (bind_ok h5.1).trans <| (bind_ok h4.1).trans <| (bind_ok h3.1).trans <| (bind_ok h2.1).trans <|
    (bind_ok h1.1).trans (bind_ok (minimalStack_ok rfl))

/-! A stack with other words than the operands. -/

/-- With another number of words on the stack than `n` the routine ends in `StackError`. -/
def WantsExactly {α : Type} (n : Nat) (m : Act α) : Prop := ∀ s : State, s.sp ≠ n → StackErrs m s

theorem wantsExactly_minimalStack {α : Type} (f : Unit → Act α) : WantsExactly 0 (minimalStack >>= f) := fun s h =>
  StackErrs.bind ⟨s, by simp [minimalStack, h]⟩

theorem WantsExactly.popThen {α : Type} {n : Nat} {f : Word → Act α} (h : ∀ w, WantsExactly n (f w)) :
    WantsExactly (n + 1) (pop >>= f) := fun s hs => by
  by_cases h0 : s.sp = 0
  · exact StackErrs.bind ⟨s, pop_empty h0⟩
  · exact .after (pop_ok h0) (h _ _ (by simp only; omega))

theorem exec_bitblt_empty {s : State} (h : s.sp = 0) : exec .bitblt s = .fault .stackError :=
  have hp : StackErrs pop s := ⟨s, pop_empty h⟩
  have hsp : s.sp ≠ 1 := by rw [h]; decide
  (complete_congr ((act_ite ..).trans (if_neg hsp))).trans hp.bind.complete

theorem exec_txtblt_otherStack {s : State} (h : s.sp ≠ 5) : exec .txtblt s = .fault .stackError :=
  StackErrs.complete <| WantsExactly.popThen (fun _ => .popThen fun _ => .popThen fun _ => .popThen fun _ => .popThen fun _ =>
    wantsExactly_minimalStack _) s h

/-! The tests of the argument records. -/

section Records
variable {s : State} {ptr : Word}

theorem bitBltRecord_unaligned {P : State → Prop} (ha : ptr &&& 0x000F ≠ 0) :
    Runs P (bitBltRecord ptr) (Raises (.refused .bitBltArgument)) := .pos ha (.refuse _)

theorem bitBltRecord_aligned (hu : s.undisturbed) (ha : ptr &&& 0x000F = 0) (hr : s.readableAll (s.recordAddresses ptr 12)) :
    Runs (Accessed s noBits) (bitBltRecord ptr) (Answers (s.record ptr 12) (Accessed s noBits)) :=
  .neg (not_not.2 ha) (Accessed.fetchRecord hu fun va hva => ⟨hr va hva, fun _ => id⟩)

theorem bitBltSetup_error {P : State → Prop} {record : List Word} (he : bitBltError (bitBltArg record) = true) :
    Runs P (bitBltSetup record) (Raises (.refused .bitBltArgument)) := .pos he (.refuse _)

theorem bitBltSetup_legal {record : List Word} (he : bitBltError (bitBltArg record) = false) :
    Runs (Accessed s noBits) (bitBltSetup record)
      (Answers (bitBltStart (computeDirection s.cfg (bitBltInitial (bitBltArg record)))) (Accessed s noBits)) :=
  .neg (by simp [he]) <| .get fun t ht => by rw [ht.cfg]; exact .pure _

theorem minimalStack_words {D : Nat → Nibble → Prop} (h : s.sp ≠ 0) :
    Runs (Accessed s D) minimalStack (Raises .stackError) := fun u hu => ⟨u, by simp [minimalStack, hu.sp, h]⟩

/-- The tests of TXTBLT's argument and operands, and that of the first position (R604, R605). -/
theorem txtScan_refused {v : Option Suspension} {record : List Word} {t : TxtState}
    (h : txtBltArgError (txtBltArg record) = true ∨ s.txtBltMemoryError ptr (txtBltArg record) t = true ∨ 32767 < t.bitPos.toNat) :
    Runs (Accessed { s with sp := 0, suspended := v } noBits) (txtScan ptr record s.freeIndex t)
      (Raises (.refused .txtBltArgument)) := fun u hu => by
  have hs : s.SameOperands { u with freeIndex := s.freeIndex } := { hu.sameOperands with }
  rw [txtScan_apply, hs.txtBltMemoryError]
  split
  · exact ⟨u, rfl⟩
  · rename_i hn
    obtain ⟨ha, hm⟩ := not_or.1 hn
    have hp := (h.resolve_left ha).resolve_left hm
    exact Runs.raised (P := fun _ => True) (.pos hp (.refuse _)) _ u trivial

end Records

/-- Settles O60: each instruction up to the test that fails. -/
theorem blockTransferStops : Obligations.BlockTransferStops := by
  intro s base index bitPos printPos count ptr line hu suspendedWith
  refine ⟨exec_bitblt_empty, fun h => ?first, fun h => ?restart, exec_txtblt_otherStack, fun h => ?txtblt⟩
  case first =>
    rw [exec_bitblt_first h]
    have hu' : { s with sp := 0 }.undisturbed := hu
    refine ⟨fun ha => Runs.complete_refused (P := fun _ => True) (.raised (bitBltRecord_unaligned ha) _) trivial, fun ha hr he => ?_⟩
    exact Runs.complete_refused (.bind (bitBltRecord_aligned hu' ha hr) <| .raised (bitBltSetup_error he) _) (Accessed.refl _)
  case restart =>
    rw [exec_bitblt_restart h]
    have hu' : { s with sp := base }.undisturbed := hu
    refine ⟨fun ha => Runs.complete_refused (P := fun _ => True) (.raised (bitBltRecord_unaligned ha) _) trivial,
      fun ha hr => ⟨?_, fun hres => ⟨fun he => ?_, fun he hb => ?_⟩⟩⟩
    all_goals have record := bitBltRecord_aligned hu' ha hr
    · rintro ⟨old, hold, hne⟩
      exact Runs.complete_refused (.bind record <| .raised (Accessed.checkRestart_changed hold hne) _) (Accessed.refl _)
    · exact Runs.complete_refused (.bind record <| .bind (Accessed.checkRestart hres) <| .raised (bitBltSetup_error he) _)
        (Accessed.refl _)
    · exact Runs.complete_stackError (.bind record <| .bind (Accessed.checkRestart hres) <| .bind (bitBltSetup_legal he) <|
        .raised (minimalStack_words hb) _) (Accessed.refl _)
  case txtblt =>
    rw [exec_txtblt_operands h]
    have hu' : { s with sp := 0 }.undisturbed := hu
    refine ⟨fun ha => Runs.complete_refused (P := fun _ => True) (.pos ha (.refuse _)) trivial,
      fun ha hr => ⟨?_, fun hres herr => ?_⟩⟩
    all_goals have record := Accessed.fetchRecord (D := noBits) hu' fun va hva => ⟨hr va hva, fun _ => id⟩
    · rintro ⟨old, hold, hne⟩
      exact Runs.complete_refused (.neg (not_not.2 ha) <| .bind record <|
        .raised (Accessed.checkRestart_changed hold hne) _) (Accessed.refl _)
    · exact Runs.complete_refused (.neg (not_not.2 ha) <| .bind record <| .bind (Accessed.checkRestart hres) <|
        txtScan_refused herr) (Accessed.refl _)

end Sys2Proof.Machine
end

section
/-! SUPPORT. Bits set in words of memory, one at a time (45_string_field.md R501; 47_bitblt_txtblt.md R573). -/

namespace Sys2Proof.Machine

theorem getLsbD_boolWord_shiftLeft (v : Bool) {i k : Nat} (hi : i < 16) :
    (boolWord v <<< k).getLsbD i = (v && decide (i = k)) := by
  cases v with
  | false => simp [boolWord]
  | true =>
    have hik : k ≤ i ∧ i - k = 0 ↔ i = k := by omega
    by_cases hk : k ≤ i
    · simp [boolWord, hi, ← hik, hk]
    · simp [boolWord, ← hik, hk, Nat.lt_of_not_le hk]

/-- `WriteField` of one bit. -/
theorem bitOf_setBit (w : Word) (n m : Nibble) (v : Bool) : bitOf (setBit w n v) m = if m = n then v else bitOf w m := by
  have hn := n.isLt
  have hm := m.isLt
  have hmask : maskTable 0 = boolWord true := rfl
  have hshift : fieldShift ⟨n, 0⟩ = 15 - n.toNat := by simp [fieldShift]
  have heq : 15 - m.toNat = 15 - n.toNat ↔ m = n := by rw [← BitVec.toNat_inj]; omega
  have hm' : m.toNat < 16 := hm
  simp only [bitOf, setBit, writeFieldOf, hshift, hmask, BitVec.getMsbD_eq_getLsbD, hm', decide_true, Bool.true_and,
    BitVec.getLsbD_or, BitVec.getLsbD_and, BitVec.getLsbD_not, getLsbD_boolWord_shiftLeft _ (show 16 - 1 - m.toNat < 16 by omega)]
  by_cases h : m = n
  · subst h
    simp
  · have hne : ¬ 15 - m.toNat = 15 - n.toNat := mt heq.1 h
    simp [h, hne]
    omega

theorem State.bitAt_touch {s : State} {va : Long} {a : Access} (h : s.accessible va a) (x : BitAddress) :
    (s.touch va a).bitAt x = s.bitAt x := by rw [State.bitAt, State.wordAt_touch h, State.bitAt]

section Bits
variable {s : State} (hu : s.undisturbed) {dst x : BitAddress} {offset : Word} (he : bump dst (lengthenSigned offset) = x)
include hu he

theorem readBit_ok (h : s.readable x.word) : readBit dst offset s = .ok (s.bitAt x) (s.touch x.word .read) := by
  subst he
  exact bind_ok (fetch_ok hu h)

theorem writeBit_ok (b : Bool) (h : s.storable x.word) : writeBit dst offset b s =
    .ok () ((s.touch x.word .read).storeWord x.word (setBit (s.wordAt x.word) x.bit b)) := by
  subst he
  have ha := h.readable.accessible
  exact (bind_ok (fetch_ok hu h.readable)).trans (store_ok _ (hu.touch _ _) ((State.storable_touch ha _).2 h))

end Bits

/-- The bits `D`, and bit `b` of the word at `r` if `v`. -/
def orBit (D : Nat → Nibble → Prop) (v : Bool) (r : Nat) (b : Nibble) (r' : Nat) (b' : Nibble) : Prop :=
  D r' b' ∨ v = true ∧ r = r' ∧ b = b'

namespace Accessed
variable {s u : State} {D : Nat → Nibble → Prop}

theorem congr {D' : Nat → Nibble → Prop} (h : Accessed s D u) (hd : ∀ r b, D r b ↔ D' r b) : Accessed s D' u :=
  { h with bits := fun r b => (h.bits r b).trans (or_congr_right (hd r b)) }

/-- Or-ing `v` into a bit of memory. -/
theorem storeBit (h : Accessed s D u) (hw : Memory.wf s.mem = true) {x : BitAddress} (hx : s.storable x.word) (v : Bool) :
    Accessed s (orBit D v (s.realAddress x.word) x.bit)
      (u.storeWord x.word (setBit (u.wordAt x.word) x.bit (v || u.bitAt x))) := by
  have hs := h.storable.2 hx
  have ha := h.touch hs.1.accessible
  have hwf := h.memoryWf hw
  refine ⟨?_, fun vb => ?_, fun vb => ?_, fun vb => ?_, fun _ => ?_, fun r b => ?_⟩
  · rw [State.storeWord, State.putWord, ha.frame]
  · exact (State.realAddress_storeWord hs.1 _ vb).trans (h.real vb)
  · exact (State.isVacant_storeWord hs.1 _ vb).trans (h.isVacant vb)
  · exact (State.isProtected_storeWord hs.1 _ vb).trans (h.isProtected vb)
  · rw [State.storeWord_mem]
    exact Memory.setWord_wf _ _ hwf
  · rw [State.storeWord_mem, h.real]
    by_cases hr : s.realAddress x.word = r
    · subst hr
      rw [Memory.wordAt_setWord_same _ _ hwf, bitOf_setBit, State.bitAt, State.wordAt, h.real]
      by_cases hb : b = x.bit
      · subst hb
        simp only [if_true, Bool.or_eq_true, h.bits, orBit, and_true]
        tauto
      · simp only [if_neg hb, h.bits, orBit, Ne.symm hb, and_false, or_false]
    · rw [Memory.wordAt_setWord_other _ _ (Ne.symm hr), h.bits]
      simp only [orBit, hr, false_and, and_false, or_false]

/-- The bit `v` or-ed into the bit at an offset: it is read, and the word is read and written (R573, R608). -/
theorem readOrWriteBit (hu : s.undisturbed) (hw : Memory.wf s.mem = true) {dst x : BitAddress} {offset : Word}
    (he : bump dst (lengthenSigned offset) = x) (hx : s.storable x.word) (v : Bool) {β : Type} {k : Act β}
    {Q : EStateM.Result Raise State β → Prop} (hk : Runs (Accessed s (orBit D v (s.realAddress x.word) x.bit)) k Q) :
    Runs (Accessed s D) (do let d ← readBit dst offset; writeBit dst offset (v || d); k) Q := fun u h => by
  have hr := h.readable.2 hx.readable
  have h1 := h.touch hr.accessible
  have hr1 := h1.readable.2 hx.readable
  have h2 := h1.touch hr1.accessible
  have h3 := h2.storeBit hw hx v
  rw [State.bitAt_touch hr1.accessible, State.bitAt_touch hr.accessible, State.wordAt_touch hr1.accessible] at h3
  rw [bind_ok (readBit_ok (h.undisturbed hu) he hr), bind_ok (writeBit_ok (h1.undisturbed hu) he _ (h1.storable.2 hx))]
  exact hk _ h3

end Accessed

end Sys2Proof.Machine
end

section
/-! What the display function of TXTBLT draws of a character (47_bitblt_txtblt.md R602, R603, R608). -/

namespace Sys2Proof.Machine

theorem Runs.mono {α : Type} {P P' : State → Prop} {m : Act α} {Q : EStateM.Result Raise State α → Prop} (h : ∀ u, P u → P' u)
    (hm : Runs P' m Q) : Runs P m Q := fun u hu => hm u (h u hu)

/-- The bits that the lines before line `n` and the first `j` columns of line `n` of a character set. -/
def State.drawn (s : State) (a : TxtBltArg) (v : CharacterView) (pos : Word) (n j : Nat) (r : Nat) (b : Nibble) : Prop :=
  ∃ i k, (i < n ∧ k < v.width.toNat ∨ i = n ∧ k < j) ∧ s.realAddress (displayTarget a pos i k).word = r ∧
    (displayTarget a pos i k).bit = b ∧ s.rasterBitAt a v (i * v.width.toNat + k) = true

/-- A load at `va` succeeds, and no bit of a character that is drawn at `pos` goes into the word. -/
def State.steady (s : State) (a : TxtBltArg) (v : CharacterView) (pos : Word) (height : Nat) (va : Long) : Prop :=
  s.readable va ∧ ∀ n < height, ∀ k < v.width.toNat, s.realAddress va ≠ s.realAddress (displayTarget a pos n k).word

/-- A character of `height` lines can be drawn at `pos`: its words can be stored to, and they are none that the drawing reads. -/
structure State.Drawable (s : State) (a : TxtBltArg) (v : CharacterView) (pos : Word) (height : Nat) : Prop where
  undisturbed : s.undisturbed
  memoryWf : Memory.wf s.mem = true
  target : ∀ n < height, ∀ k < v.width.toNat, s.storable (displayTarget a pos n k).word
  font : s.steady a v pos height a.font
  font1 : s.steady a v pos height (a.font + 1)
  raster : ∀ m < height * v.width.toNat, s.steady a v pos height (s.rasterWordAt a v m)

section Drawing
variable {s : State} {a : TxtBltArg} {v : CharacterView} {pos : Word} {height n j : Nat}

theorem State.drawn_zero (r : Nat) (b : Nibble) : s.drawn a v pos 0 0 r b ↔ noBits r b := by
  simp [State.drawn, noBits]

theorem State.drawn_line (r : Nat) (b : Nibble) : s.drawn a v pos n v.width.toNat r b ↔ s.drawn a v pos (n + 1) 0 r b := by
  refine exists_congr fun i => exists_congr fun k => and_congr_left fun _ => ?_
  omega

theorem State.drawn_bit (hj : j < v.width.toNat) (r : Nat) (b : Nibble) :
    orBit (s.drawn a v pos n j) (s.rasterBitAt a v (n * v.width.toNat + j)) (s.realAddress (displayTarget a pos n j).word)
      (displayTarget a pos n j).bit r b ↔ s.drawn a v pos n (j + 1) r b := by
  constructor
  · rintro (⟨i, k, hik, h⟩ | ⟨hv, hr, hb⟩)
    · exact ⟨i, k, by omega, h⟩
    · exact ⟨n, j, by omega, hr, hb, hv⟩
  · rintro ⟨i, k, hik, hr, hb, hv⟩
    by_cases he : i = n ∧ k = j
    · obtain ⟨rfl, rfl⟩ := he
      exact .inr ⟨hv, hr, hb⟩
    · exact .inl ⟨i, k, by omega, hr, hb, hv⟩

theorem State.steady.intact {va : Long} (h : s.steady a v pos height va)
    (hn : n < height ∧ j ≤ v.width.toNat ∨ n ≤ height ∧ j = 0) :
    s.intact (s.drawn a v pos n j) va := by
  refine ⟨h.1, fun b => ?_⟩
  rintro ⟨i, k, hik, hr, -⟩
  exact h.2 i (by omega) k (by omega) hr.symm

theorem Accessed.rasterBit {D : Nat → Nibble → Prop} {m : Nat} (hu : s.undisturbed) (h0 : s.intact D a.font)
    (h1 : s.intact D (a.font + 1)) (hm : s.intact D (s.rasterWordAt a v m)) :
    Runs (Accessed s D) (rasterBit a.font (rasterInfo v.raster) (BitVec.ofNat 16 m))
      (Answers (s.rasterBitAt a v m) (Accessed s D)) := by
  have hb : (BitVec.ofNat 16 m).extractLsb' 0 4 = BitVec.ofNat 4 m := by
    apply BitVec.eq_of_toNat_eq
    simp
  rw [State.rasterBitAt, ← hb]
  exact .bind (Accessed.readDbl hu h0 h1) <| .bind (Accessed.fetch hu hm) <| .pure _

/-- The bit in column `j` of line `n`. -/
theorem displayLine_rasterBit (hd : s.Drawable a v pos height) (hn : n < height) (hj : j < v.width.toNat) :
    Runs (Accessed s (s.drawn a v pos n j)) (rasterBit a.font (rasterInfo v.raster) (BitVec.ofNat 16 (n * v.width.toNat + j)))
      (Answers (s.rasterBitAt a v (n * v.width.toNat + j)) (Accessed s (s.drawn a v pos n j))) := by
  have hm : n * v.width.toNat + j < height * v.width.toNat :=
    calc n * v.width.toNat + j < (n + 1) * v.width.toNat := by rw [Nat.succ_mul]; omega
      _ ≤ height * v.width.toNat := Nat.mul_le_mul_right _ hn
  have hnj : n < height ∧ j ≤ v.width.toNat ∨ n ≤ height ∧ j = 0 := .inl ⟨hn, hj.le⟩
  exact Accessed.rasterBit hd.undisturbed (hd.font.intact hnj) (hd.font1.intact hnj) ((hd.raster _ hm).intact hnj)

/-- A column that lies within the line is drawn, then the next ones. -/
theorem displayLine_step (hd : s.Drawable a v pos height) (hn : n < height) (hj : j < v.width.toNat)
    (hwide : (pos + BitVec.ofNat 16 j).toNat < a.dstBpl.toNat)
    {m : Nat} {Q : EStateM.Result Raise State Unit → Prop}
    (h : Runs (Accessed s (s.drawn a v pos n (j + 1))) (displayLine a.font (rasterInfo v.raster) a.dstBpl (displayLineAt a n) m
      (BitVec.ofNat 16 (n * v.width.toNat + (j + 1))) (pos + BitVec.ofNat 16 (j + 1))) Q) :
    Runs (Accessed s (s.drawn a v pos n j)) (displayLine a.font (rasterInfo v.raster) a.dstBpl (displayLineAt a n) (m + 1)
      (BitVec.ofNat 16 (n * v.width.toNat + j)) (pos + BitVec.ofNat 16 j)) Q := by
  have hcount : BitVec.ofNat 16 (n * v.width.toNat + (j + 1)) = BitVec.ofNat 16 (n * v.width.toNat + j) + 1 :=
    BitVec.ofNat_add (n * v.width.toNat + j) 1
  have hoffset : pos + BitVec.ofNat 16 (j + 1) = pos + BitVec.ofNat 16 j + 1 := by
    rw [BitVec.ofNat_add, ← BitVec.add_assoc]
    rfl
  rw [hcount, hoffset] at h
  refine .bind (displayLine_rasterBit hd hn hj) <| .neg (Nat.not_le.2 hwide) ?_
  exact Accessed.readOrWriteBit hd.undisturbed hd.memoryWf rfl (hd.target n hn j hj) _ (h.mono fun u hu => hu.congr (State.drawn_bit hj))

theorem displayLine_draws (hd : s.Drawable a v pos height) (hn : n < height)
    (hwide : ∀ k < v.width.toNat, (pos + BitVec.ofNat 16 k).toNat < a.dstBpl.toNat)
    {m : Nat} (hm : j + m = v.width.toNat) :
    Runs (Accessed s (s.drawn a v pos n j)) (displayLine a.font (rasterInfo v.raster) a.dstBpl (displayLineAt a n) m
      (BitVec.ofNat 16 (n * v.width.toNat + j)) (pos + BitVec.ofNat 16 j))
      (Answers () (Accessed s (s.drawn a v pos n v.width.toNat))) := by
  induction m generalizing j with
  | zero => obtain rfl : j = v.width.toNat := hm; exact .pure _
  | succ m ih =>
    exact displayLine_step hd hn (by omega) (hwide j (by omega)) (ih (by omega))

/-- A line with a column past its bits is refused (R604). -/
theorem displayLine_refused (hd : s.Drawable a v pos height) (hn : n < height) {m : Nat} (hm : j + m = v.width.toNat)
    (hbad : ∃ k, j ≤ k ∧ k < v.width.toNat ∧ ¬ (pos + BitVec.ofNat 16 k).toNat < a.dstBpl.toNat) :
    Runs (Accessed s (s.drawn a v pos n j)) (displayLine a.font (rasterInfo v.raster) a.dstBpl (displayLineAt a n) m
      (BitVec.ofNat 16 (n * v.width.toNat + j)) (pos + BitVec.ofNat 16 j)) (Raises (.refused .txtBltArgument)) := by
  obtain ⟨k, hjk, hk, hbad⟩ := hbad
  induction m generalizing j with
  | zero => omega
  | succ m ih =>
    by_cases hwide : (pos + BitVec.ofNat 16 j).toNat < a.dstBpl.toNat
    · have hne : j ≠ k := by rintro rfl; exact hbad hwide
      exact displayLine_step hd hn (by omega) hwide (ih (by omega) (by omega))
    · exact .bind (displayLine_rasterBit hd hn (by omega)) <|
        .pos (Nat.not_lt.1 hwide) (.refuse _)

theorem displayLines_draws (hd : s.Drawable a v pos height)
    (hwide : ∀ k < v.width.toNat, (pos + BitVec.ofNat 16 k).toNat < a.dstBpl.toNat)
    {m : Nat} (hm : n + m = height) :
    Runs (Accessed s (s.drawn a v pos n 0)) (displayLines a.font (rasterInfo v.raster) a.dstBpl v.width pos m (displayLineAt a n)
      (BitVec.ofNat 16 (n * v.width.toNat))) (Answers () (Accessed s (s.drawn a v pos height 0))) := by
  induction m generalizing n with
  | zero => obtain rfl : n = height := hm; exact .pure _
  | succ m ih =>
    have line := displayLine_draws hd (n := n) (j := 0) (by omega) hwide (Nat.zero_add _)
    have rest := ih (n := n + 1) (by omega)
    rw [Nat.succ_mul, BitVec.ofNat_add, BitVec.ofNat_toNat, BitVec.setWidth_eq] at rest
    rw [Nat.add_zero, BitVec.add_zero] at line
    exact .bind line (rest.mono fun u hu => hu.congr State.drawn_line)

theorem displayLines_refused (hd : s.Drawable a v pos height) (h0 : height ≠ 0)
    (hbad : ¬ ∀ k < v.width.toNat, (pos + BitVec.ofNat 16 k).toNat < a.dstBpl.toNat) :
    Runs (Accessed s noBits) (displayLines a.font (rasterInfo v.raster) a.dstBpl v.width pos height ⟨a.dst, 0⟩ 0)
      (Raises (.refused .txtBltArgument)) := by
  obtain ⟨m, rfl⟩ := Nat.exists_eq_succ_of_ne_zero h0
  push Not at hbad
  obtain ⟨k, hk, hbad⟩ := hbad
  have line := displayLine_refused hd (n := 0) (j := 0) (Nat.succ_pos m) (Nat.zero_add _)
    ⟨k, Nat.zero_le k, hk, Nat.not_lt.2 hbad⟩
  rw [Nat.add_zero, Nat.zero_mul, BitVec.add_zero] at line
  exact .raised (line.mono fun u hu => hu.congr fun r b => (State.drawn_zero r b).symm) _

end Drawing

end Sys2Proof.Machine
end

section
/-! A character of TXTBLT's display function, from the loads of what its font says of it to the operands after it
(47_bitblt_txtblt.md R602 to R609). -/

namespace Sys2Proof.Machine

/-! What the scan of one character reads. -/

section Reads
variable {s : State} {D : Nat → Nibble → Prop} {a : TxtBltArg} {index : Word} (hu : s.undisturbed)
  (hc : ∀ va ∈ s.characterWords a index, s.intact D va)

theorem State.fontWord_mem (s : State) (a : TxtBltArg) (index : Word) {k : Nat} (hk : k < 11) :
    a.font + BitVec.ofNat 32 k ∈ s.characterWords a index :=
  List.mem_append_left _ (List.mem_map_of_mem (f := fun k => a.font + BitVec.ofNat 32 k) (List.mem_range.2 hk))

/-- A word that the font record points to, or the word of the text. -/
theorem State.characterWord_mem (s : State) (a : TxtBltArg) (index : Word) {va : Long}
    (h : va ∈ [a.text + lengthen (index >>> 1), s.longAt (a.font + 2) + lengthen ((s.characterAt a index).char >>> 1),
      s.longAt (a.font + 4) + lengthen (s.characterAt a index).char,
      s.longAt (a.font + 6) + lengthen ((s.characterAt a index).char >>> 1),
      s.longAt (a.font + 8) + lengthen (s.characterAt a index).char]) : va ∈ s.characterWords a index :=
  List.mem_append_right _ h

include hu hc

/-- The double word at word `k` of the font record. -/
theorem fontLong_reads (k : Nat) (hk : k + 1 < 11) : Runs (Accessed s D) (readDbl (a.font + BitVec.ofNat 32 k))
    (Answers (s.longAt (a.font + BitVec.ofNat 32 k)) (Accessed s D)) := by
  refine Accessed.readDbl hu (hc _ (s.fontWord_mem a index (by omega))) ?_
  have hnext := hc _ (s.fontWord_mem a index hk)
  rwa [BitVec.ofNat_add, ← BitVec.add_assoc] at hnext

theorem text_reads : Runs (Accessed s D) (packedByte a.text index) (Answers (s.packedByteAt a.text index) (Accessed s D)) :=
  Accessed.packedByte hu (hc _ (s.characterWord_mem a index (.head _)))

theorem characterFlags_reads (hp : s.cfg.fontFormat = .packed) (fi : Nat) :
    Runs (Accessed s D) (characterFlags a.font (s.characterAt a index).char fi)
      (Answers (fontFlags (s.characterAt a index).flags) (Accessed s D)) := by
  have hflags : (s.characterAt a index).flags = s.packedByteAt (s.longAt (a.font + 6)) (s.characterAt a index).char := by
    simp only [State.characterAt, State.flagsByteAt, hp]
  refine .get fun t ht => ?_
  rw [ht.cfg, hp, hflags]
  exact .bind (fontLong_reads hu hc 6 (by decide)) <|
    .bind (Accessed.packedByte hu (hc _ (s.characterWord_mem a index (.tail _ (.tail _ (.tail _ (.head _))))))) <| .pure _

theorem spacingWidth_reads : Runs (Accessed s D) (spacingWidth a.font (s.characterAt a index).char)
    (Answers (s.characterAt a index).spacing (Accessed s D)) :=
  .bind (fontLong_reads hu hc 2 (by decide)) <|
    .bind (Accessed.packedByte hu (hc _ (s.characterWord_mem a index (.tail _ (.head _))))) <| .pure _

theorem printerWidth_reads : Runs (Accessed s D) (printerWidth a.font (s.characterAt a index).char)
    (Answers (s.characterAt a index).printing (Accessed s D)) :=
  .bind (fontLong_reads hu hc 4 (by decide)) <|
    Accessed.fetch hu (hc _ (s.characterWord_mem a index (.tail _ (.tail _ (.head _)))))

theorem characterRaster_reads : Runs (Accessed s D) (characterRaster a.font (s.characterAt a index).char)
    (Answers (rasterInfo (s.characterAt a index).raster) (Accessed s D)) :=
  .bind (fontLong_reads hu hc 8 (by decide)) <|
    .bind (Accessed.fetch hu (hc _ (s.characterWord_mem a index (.tail _ (.tail _ (.tail _ (.tail _ (.head _)))))))) <|
    .get fun t ht => by rw [ht.cfg]; exact .pure _

theorem displayWidth_reads : Runs (Accessed s D)
    (displayWidth a.font (s.characterAt a index).char (rasterInfo (s.characterAt a index).raster))
    (Answers (s.characterAt a index).width (Accessed s D)) :=
  .bind (spacingWidth_reads hu hc) <| .pure _

/-- The reads of `DisplayChar` before it draws. -/
theorem displayChar_reads {pos : Word} {Q : EStateM.Result Raise State Unit → Prop}
    (h : Runs (Accessed s D) (displayLines a.font (rasterInfo (s.characterAt a index).raster) a.dstBpl (s.characterAt a index).width
      (pos - boolWord ((s.characterAt a index).raster.getLsbD 15)) (s.wordAt (a.font + 10)).toNat ⟨a.dst, 0⟩ 0) Q) :
    Runs (Accessed s D) (displayChar a pos (s.characterAt a index).char) Q :=
  .bind (characterRaster_reads hu hc) <| .bind (displayWidth_reads hu hc) <|
    .bind (Accessed.fetch hu (hc _ (s.fontWord_mem a index (k := 10) (by decide)))) h

/-- The pass of a character within `last`, no stop character and within the margin, up to its processing (R605). -/
theorem txtPass_reads {t : TxtState} {fi : Nat} {Q : EStateM.Result Raise State TxtStep → Prop} (hindex : t.index = index)
    (hp : s.cfg.fontFormat = .packed) (hpos : t.bitPos.toNat ≤ 32767) (hfn : a.function = .display)
    (hlast : index.toNat ≤ a.last.toNat) (hstop : (s.characterAt a index).flags.getLsbD 6 = false)
    (hmargin : s.cfg.txtbltMarginAll = true → (t.printPos + (s.characterAt a index).printing).toNat ≤ a.margin.toNat)
    (h : Runs (Accessed s D) (txtProcess a (fontFlags (s.characterAt a index).flags) (s.characterAt a index).char t) Q) :
    Runs (Accessed s D) (txtPass a fi t) Q := by
  subst hindex
  have hnr : a.function ≠ .resolve := by rw [hfn]; decide
  have hns : ¬ (fontFlags (s.characterAt a t.index).flags).stop = true := by
    simp only [fontFlags, hstop, Bool.false_eq_true, not_false_eq_true]
  refine .neg (Nat.not_lt.2 hpos) <| .neg (Nat.not_lt.2 hlast) <| .neg hnr <| .bind (text_reads hu hc) <|
    .bind (characterFlags_reads hu hc hp fi) <| .neg hns <| .get fun u hu' => ?_
  rw [hu'.cfg]
  by_cases hm : marginApplies s.cfg a.function = true
  · have hall : s.cfg.txtbltMarginAll = true := by simpa [marginApplies, hfn] using hm
    exact .pos hm <| .bind (printerWidth_reads hu hc) <| .neg (Nat.not_lt.2 (hmargin hall)) h
  · exact .neg hm h

end Reads

/-! The passes of a display scan. -/

section Pass
variable {s : State} {a : TxtBltArg} {t : TxtState} {fi : Nat}

/-- What a display pass asks of the character at the index of `t`. -/
structure State.DisplayPass (s : State) (a : TxtBltArg) (t : TxtState) : Prop where
  drawable : s.Drawable a (s.characterAt a t.index) (t.bitPos - boolWord ((s.characterAt a t.index).raster.getLsbD 15))
    (s.wordAt (a.font + 10)).toNat
  words : ∀ va ∈ s.characterWords a t.index, s.steady a (s.characterAt a t.index)
    (t.bitPos - boolWord ((s.characterAt a t.index).raster.getLsbD 15)) (s.wordAt (a.font + 10)).toNat va
  packed : s.cfg.fontFormat = .packed
  bitPos : t.bitPos.toNat ≤ 32767
  display : a.function = .display
  last : t.index.toNat ≤ a.last.toNat
  stop : (s.characterAt a t.index).flags.getLsbD 6 = false
  margin : s.cfg.txtbltMarginAll = true → (t.printPos + (s.characterAt a t.index).printing).toNat ≤ a.margin.toNat

/-- The bits that the pass sets. -/
def State.passDrawn (s : State) (a : TxtBltArg) (t : TxtState) : Nat → Nibble → Prop :=
  s.drawn a (s.characterAt a t.index) (t.bitPos - boolWord ((s.characterAt a t.index).raster.getLsbD 15))
    (s.wordAt (a.font + 10)).toNat 0

/-- The operands after the pass. -/
def State.afterPass (s : State) (a : TxtBltArg) (t : TxtState) : TxtState :=
  txtAfter a (fontFlags (s.characterAt a t.index).flags).pad (s.characterAt a t.index).spacing (s.characterAt a t.index).printing t

/-- Every column lies within the bits of a line. -/
def State.passFits (s : State) (a : TxtBltArg) (t : TxtState) : Prop := ∀ k < (s.characterAt a t.index).width.toNat,
  (t.bitPos - boolWord ((s.characterAt a t.index).raster.getLsbD 15) + BitVec.ofNat 16 k).toNat < a.dstBpl.toNat

/-- The operands on the stack after the pass, with `data` on top. -/
def State.passOperands (s : State) (a : TxtBltArg) (t : TxtState) (data : Word) : List Word :=
  (s.characterAt a t.index).after a t.index t.bitPos t.printPos t.count ++ [data]

theorem State.afterPass_operands (hfn : a.function = .display) (data : Word) :
    [(s.afterPass a t).index, (s.afterPass a t).bitPos, (s.afterPass a t).printPos, (s.afterPass a t).count, data] =
      s.passOperands a t data := by
  cases hpad : (s.characterAt a t.index).flags.getLsbD 7 with
  | false =>
    simp only [State.afterPass, State.passOperands, txtAfter, CharacterView.after, fontFlags, hpad]
    simp
  | true =>
    simp only [State.afterPass, State.passOperands, txtAfter, CharacterView.after, fontFlags, hpad, padState, justifies, hfn,
      BitVec.add_assoc]
    simp

variable (h : s.DisplayPass a t)
include h

theorem txtPass_display {Q : EStateM.Result Raise State TxtStep → Prop}
    (hQ : Runs (Accessed s noBits) (txtProcess a (fontFlags (s.characterAt a t.index).flags) (s.characterAt a t.index).char t) Q) :
    Runs (Accessed s noBits) (txtPass a fi t) Q :=
  txtPass_reads h.drawable.undisturbed (fun va hva => ⟨(h.words va hva).1, fun _ => id⟩) rfl h.packed h.bitPos h.display h.last
    h.stop h.margin hQ

/-- The pass draws the character and goes on. -/
theorem txtPass_draws (hfit : s.passFits a t) : Runs (Accessed s noBits) (txtPass a fi t)
    (Answers (.advance (s.afterPass a t)) (Accessed s (s.passDrawn a t))) := by
  have hu := h.drawable.undisturbed
  have lines := displayLines_draws h.drawable hfit (n := 0) (Nat.zero_add _)
  rw [Nat.zero_mul] at lines
  have hc : ∀ va ∈ s.characterWords a t.index, s.intact (s.passDrawn a t) va := fun va hva =>
    (h.words va hva).intact (.inr ⟨le_rfl, rfl⟩)
  have draw : Runs (Accessed s noBits) (displayChar a t.bitPos (s.characterAt a t.index).char)
      (Answers () (Accessed s (s.passDrawn a t))) :=
    displayChar_reads hu (fun va hva => ⟨(h.words va hva).1, fun _ => id⟩)
      (lines.mono fun u hu => hu.congr fun r b => (State.drawn_zero r b).symm)
  exact txtPass_display h <| .pos h.display <| .bind draw <| .bind (spacingWidth_reads hu hc) <|
    .bind (printerWidth_reads hu hc) <| .pure _

/-- A character with a column past the bits of a line is refused (R604). -/
theorem txtPass_refused (h0 : (s.wordAt (a.font + 10)).toNat ≠ 0) (hfit : ¬ s.passFits a t) :
    Runs (Accessed s noBits) (txtPass a fi t) (Raises (.refused .txtBltArgument)) :=
  txtPass_display h <| .pos h.display <| .raised (displayChar_reads h.drawable.undisturbed
    (fun va hva => ⟨(h.words va hva).1, fun _ => id⟩) (displayLines_refused h.drawable h0 hfit)) _

end Pass

end Sys2Proof.Machine
end

section
/-! The display function of TXTBLT up to where it ends or is suspended after its first character (47_bitblt_txtblt.md R604 to R609). -/

namespace Sys2Proof.Machine

/-! The test for interrupts, and the operands on the stack again. -/

theorem Accessed.pollInterrupt {s : State} {D : Nat → Nibble → Prop} (hu : s.undisturbed) :
    Runs (Accessed s D) pollInterrupt (Answers (interruptPending s) (Accessed s D)) := fun u h => by
  have hu' := h.undisturbed hu
  have hp : interruptPending u = interruptPending s := by rw [h.frame]; rfl
  exact ⟨u, by rw [pollInterrupt_apply, State.testOmitted_undisturbed hu', hu'.turn, hp]; rfl, h⟩

theorem take_setWords {st ws : List Word} (h : ws.length ≤ st.length) : (setWords st 0 ws).take ws.length = ws := by
  refine List.ext_getElem? fun i => ?_
  by_cases hi : i < ws.length
  · have hst : i < st.length := by omega
    rw [List.getElem?_take_of_lt hi, getElem?_setWords, if_pos (by omega), List.getElem?_eq_getElem hst]
    rfl
  · simp [hi]

/-- The operands of TXTBLT as words on the stack, with `data` on top. -/
def TxtState.words (t : TxtState) (data : Word) : List Word := [t.index, t.bitPos, t.printPos, t.count, data]

section Push
variable {u : State} (h0 : u.sp = 0) (h5 : 5 ≤ u.stack.length)
include h0 h5

theorem txtPushState_ok (t : TxtState) (data : Word) : txtPushState t data u = .ok () (u.result 0 (t.words data) []) := by
  have hu : u.result 0 [] [] = u := State.result_of_holds ⟨h0, by omega, trivial⟩
  have step {ws : List Word} (hl : ws.length < 5) (w : Word) :
      push w (u.result 0 ws []) = .ok () (u.result 0 (ws ++ [w]) []) := push_result (by omega)
  have first := step (ws := []) (by decide) t.index
  rw [hu] at first
  exact (bind_ok first).trans <| (bind_ok (step (by simp) t.bitPos)).trans <| (bind_ok (step (by simp) t.printPos)).trans <|
    (bind_ok (step (by simp) t.count)).trans (step (by simp) data)

theorem txtSuspend_ok (t : TxtState) (ptr : Word) (record : List Word) :
    (do txtPushState t ptr; noteSuspension ptr record; suspend : Act Unit) u =
      .ok () { u.result 0 (t.words ptr) [] with
        pc := u.savedPC, suspended := some ⟨u.savedPC, t.words ptr, ptr, record⟩ } := by
  have htake : (u.result 0 (t.words ptr) []).stack.take (0 + (t.words ptr).length) = t.words ptr := by
    rw [State.result_stack, List.append_nil, Nat.zero_add, take_setWords (ws := t.words ptr) h5]
  rw [bind_ok (txtPushState_ok h0 h5 t ptr), bind_ok (noteSuspension_apply ..), suspend_apply]
  simp only [State.result_sp, htake]
  rfl

end Push

/-! The loop. -/

/-- A pass at an index past the last one (R605). -/
theorem txtPass_finish {P : State → Prop} {a : TxtBltArg} {t : TxtState} {fi : Nat} (hpos : t.bitPos.toNat ≤ 32767)
    (hlast : a.last < t.index) : Runs P (txtPass a fi t) (Answers (.finish t 0) P) :=
  .neg (Nat.not_lt.2 hpos) <| .pos hlast <| .pure _

section Loop
variable {s : State} {record : List Word} {t : TxtState} {ptr : Word} {fi fuel : Nat}
  (h : s.DisplayPass (txtBltArg record) t)
include h

theorem txtLoop_refused (h0 : (s.wordAt ((txtBltArg record).font + 10)).toNat ≠ 0) (hfit : ¬ s.passFits (txtBltArg record) t) :
    Runs (Accessed s noBits) (txtLoop ptr record fi (fuel + 1) t) (Raises (.refused .txtBltArgument)) :=
  .raised (txtPass_refused h h0 hfit) _

variable (hfit : s.passFits (txtBltArg record) t) (h0 : s.sp = 0) (h5 : 5 ≤ s.stack.length)
include hfit h0 h5

/-- With an interrupt pending the instruction is suspended after the character (R605). -/
theorem txtLoop_suspends (hp : interruptPending s = true) :
    Runs (Accessed s noBits) (txtLoop ptr record fi (fuel + 1) t) (Answers () fun w =>
      ∃ u, Accessed s (s.passDrawn (txtBltArg record) t) u ∧ w =
        { u.result 0 (s.passOperands (txtBltArg record) t ptr) [] with
          pc := u.savedPC, suspended := some ⟨u.savedPC, s.passOperands (txtBltArg record) t ptr, ptr, record⟩ }) := by
  refine .bind (txtPass_draws h hfit) <| .bind (Accessed.pollInterrupt h.drawable.undisturbed) <| .pos hp fun u hu => ?_
  rw [← State.afterPass_operands h.display]
  exact ⟨_, txtSuspend_ok (hu.sp.trans h0) (hu.stack ▸ h5) _ ptr record, u, hu, rfl⟩

/-- A last character ends the scan with result 0. -/
theorem txtLoop_ends (hp : interruptPending s = false) (hlast : t.index = (txtBltArg record).last) (hmax : t.index ≠ 0xFFFF)
    (hpos : (s.afterPass (txtBltArg record) t).bitPos.toNat ≤ 32767) :
    Runs (Accessed s noBits) (txtLoop ptr record fi (fuel + 1 + 1) t) (Answers () fun w =>
      ∃ u, Accessed s (s.passDrawn (txtBltArg record) t) u ∧ w = u.result 0 (s.passOperands (txtBltArg record) t 0) []) := by
  have hnext : (txtBltArg record).last < (s.afterPass (txtBltArg record) t).index := by
    have hindex : (s.afterPass (txtBltArg record) t).index = t.index + 1 := rfl
    rw [hindex, ← hlast]
    bv_omega
  have hn : ¬ interruptPending s = true := by simp [hp]
  refine .bind (txtPass_draws h hfit) <| .bind (Accessed.pollInterrupt h.drawable.undisturbed) <| .neg hn <|
    .bind (txtPass_finish hpos hnext) fun u hu => ?_
  rw [← State.afterPass_operands h.display]
  exact ⟨_, txtPushState_ok (hu.sp.trans h0) (hu.stack ▸ h5) _ 0, u, hu, rfl⟩

end Loop

/-! From the instruction to its loop. -/

section Start
variable {s : State} {v : Option Suspension} {record : List Word} {t : TxtState} {a : TxtBltArg}

theorem txtScan_legal {ptr : Word} {Q : EStateM.Result Raise State Unit → Prop} (ha : txtBltArgError (txtBltArg record) = false)
    (hm : s.txtBltMemoryError ptr (txtBltArg record) t = false)
    (h : Runs (Accessed { s with sp := 0, suspended := v } noBits) (txtLoop ptr record s.freeIndex txtBltFuel t) Q) :
    Runs (Accessed { s with sp := 0, suspended := v } noBits) (txtScan ptr record s.freeIndex t) Q := fun u hu => by
  have hs : s.SameOperands { u with freeIndex := s.freeIndex } := { hu.sameOperands with }
  rw [txtScan_apply, hs.txtBltMemoryError, if_neg (by simp [ha, hm])]
  exact h u hu

/-- The instruction up to its loop, of a legal argument. -/
theorem exec_txtblt_loop {index bitPos printPos count ptr : Word} (hu : s.undisturbed)
    (h : s.holds 0 [index, bitPos, printPos, count, ptr]) (hr : s.readableAll (s.recordAddresses ptr 13))
    (hl : s.txtBltLegal ptr ⟨index, bitPos, printPos, count⟩) (hres : s.restartable ptr (s.record ptr 13))
    {Q : EStateM.Result Raise State Unit → Prop}
    (hloop : Runs (Accessed { s with sp := 0, suspended := s.suspensionLeft ptr } noBits)
      (txtLoop ptr (s.record ptr 13) s.freeIndex txtBltFuel ⟨index, bitPos, printPos, count⟩) Q) :
    ∃ m, exec .txtblt s = complete m { s with sp := 0 } ∧ Runs (Accessed { s with sp := 0 } noBits) m Q := by
  obtain ⟨ha, he, hm⟩ := hl
  have hu' : { s with sp := 0 }.undisturbed := hu
  have record := Accessed.fetchRecord (D := noBits) hu' fun va hva => ⟨hr va hva, fun _ => id⟩
  exact ⟨_, exec_txtblt_operands h, .neg (not_not.2 ha) <| .bind record <|
    .bind (Accessed.checkRestart hres) <| txtScan_legal he hm hloop⟩

/-- The pass does not depend on the words that the stack has lost, or on the suspension that is remembered. -/
theorem State.DisplayPass.operandsPopped (h : s.DisplayPass a t) : { s with sp := 0, suspended := v }.DisplayPass a t :=
  { h with drawable := { h.drawable with } }

end Start

/-- The bits that all lines of a character set. -/
theorem State.drawn_lines {s : State} {a : TxtBltArg} {v : CharacterView} {pos : Word} {height r : Nat} {b : Nibble} :
    s.drawn a v pos height 0 r b ↔ ∃ n < height, ∃ k < v.width.toNat, s.realAddress (displayTarget a pos n k).word = r ∧
      (displayTarget a pos n k).bit = b ∧ s.rasterBitAt a v (n * v.width.toNat + k) = true := by
  constructor
  · rintro ⟨n, k, hnk | ⟨_, hk⟩, h⟩
    · exact ⟨n, hnk.1, k, hnk.2, h⟩
    · exact absurd hk (Nat.not_lt_zero k)
  · rintro ⟨n, hn, k, hk, h⟩
    exact ⟨n, k, .inl ⟨hn, hk⟩, h⟩

theorem Accessed.bitAt {s u : State} {D : Nat → Nibble → Prop} (h : Accessed s D u) (x : BitAddress) :
    u.bitAt x = true ↔ s.bitAt x = true ∨ D (s.realAddress x.word) x.bit := by
  rw [State.bitAt, State.wordAt, h.real, h.bits]
  rfl

/-- The bits in memory after the display of a character. -/
theorem Accessed.bitAt_passDrawn {s u : State} {a : TxtBltArg} {t : TxtState} (h : Accessed s (s.passDrawn a t) u) (x : BitAddress) :
    let v := s.characterAt a t.index
    let target := displayTarget a (t.bitPos - boolWord (v.raster.getLsbD 15))
    u.bitAt x = true ↔ s.bitAt x = true ∨ ∃ n < (s.wordAt (a.font + 10)).toNat, ∃ k < v.width.toNat,
      s.realAddress (target n k).word = s.realAddress x.word ∧ (target n k).bit = x.bit ∧
        s.rasterBitAt a v (n * v.width.toNat + k) = true :=
  (h.bitAt x).trans (or_congr_right State.drawn_lines)

/-- Settles O56: the pass at the first character draws it; then the instruction is suspended, or the pass at the next index ends it. -/
theorem txtBltDisplay : Obligations.TxtBltDisplay := by
  intro s index bitPos printPos count ptr hu h hw hrec hlegal hres hpacked hwf a v pos height width target next wide
    hpos hdisplay hlast hstop hmargin hwords hraster htarget
  let t : TxtState := ⟨index, bitPos, printPos, count⟩
  have reads {va : Long} (ho : s.isOverhead va = false) : s.readable va := ⟨(hw va).1, ho⟩
  have words : ∀ va ∈ s.characterWords a index, s.steady a v pos height va := fun va hva =>
    ⟨reads (hwords va hva), fun n hn k hk => (htarget n hn k hk).2.1 va hva⟩
  have font : s.steady a v pos height a.font := by simpa using words _ (s.fontWord_mem a index (k := 0) (by decide))
  have pass : s.DisplayPass a t :=
    { drawable :=
        { undisturbed := hu
          memoryWf := hwf
          target := fun n hn k hk => (htarget n hn k hk).1
          font := font
          font1 := words _ (s.fontWord_mem a index (k := 1) (by decide))
          raster := fun m hm => ⟨reads (hraster m hm), fun n hn k hk => (htarget n hn k hk).2.2 m hm⟩ }
      words := words
      packed := hpacked
      bitPos := hpos
      display := hdisplay
      last := hlast
      stop := hstop
      margin := hmargin }
  have pass' := pass.operandsPopped (v := s.suspensionLeft ptr)
  have hr : s.readableAll (s.recordAddresses ptr 13) := fun va hva => reads (hrec va hva)
  have h5 : 5 ≤ s.stack.length := State.holds_bound h
  refine ⟨fun h0 hwide => ?refused, fun hwide hends => ?_⟩
  case refused =>
    obtain ⟨m, hexec, run⟩ := exec_txtblt_loop hu h hr hlegal hres (txtLoop_refused pass' h0 hwide)
    rw [hexec]
    exact run.complete_refused (Accessed.refl _)
  cases hp : interruptPending s with
  | true =>
    obtain ⟨m, hexec, run⟩ := exec_txtblt_loop hu h hr hlegal hres (txtLoop_suspends pass' hwide rfl h5 hp)
    obtain ⟨w, hm, u, hacc, rfl⟩ := run _ (Accessed.refl _)
    refine ⟨_, hexec.trans (complete_ok hm), nofun, fun _ => ?_, hacc.bitAt_passDrawn⟩
    rw [hacc.frame]
    rfl
  | false =>
    obtain ⟨hindex, hmax, hnext⟩ := hends.resolve_left (by simp [hp])
    have hnext' : (s.afterPass a t).bitPos.toNat ≤ 32767 := by
      have ops := congrArg (fun ws => (ws.getD 1 0).toNat) (State.afterPass_operands (s := s) (t := t) hdisplay 0)
      exact ops.le.trans hnext
    obtain ⟨m, hexec, run⟩ := exec_txtblt_loop hu h hr hlegal hres
      (txtLoop_ends pass' hwide rfl h5 hp hindex hmax hnext')
    obtain ⟨w, hm, u, hacc, rfl⟩ := run _ (Accessed.refl _)
    refine ⟨_, hexec.trans (complete_ok hm), fun _ => ?_, nofun, hacc.bitAt_passDrawn⟩
    rw [hacc.frame]
    rfl

end Sys2Proof.Machine
end

section
/-! What the environment may change before a step and at the devices' turns during it (10_state.md R63 to R65; 20_memory.md R118, R140;
60_exceptions.md R687, R712 to R716). -/

namespace Sys2Proof.Machine

/-! One access of a device (R118). -/

section Access
variable {s : State} {va : Long}

theorem State.deviceAccess_read_present (h : s.present va) : s.deviceAccess (.read va) = s.touch va .read := by
  obtain ⟨hv, hr⟩ := h
  simp [State.deviceAccess, hv, hr]

theorem State.deviceAccess_read_absent (h : ¬ s.present va) : s.deviceAccess (.read va) = s := by
  rw [State.present] at h
  simpa [State.deviceAccess] using fun hv hr => absurd ⟨hv, hr⟩ h

theorem State.deviceAccess_write_writable (w : Word) (h : s.writable va) : s.deviceAccess (.write va w) = s.storeWord va w := by
  obtain ⟨⟨hv, hr⟩, hp⟩ := h
  simp [State.deviceAccess, hv, hr, hp, State.storeWord]

theorem State.deviceAccess_write_unwritable (w : Word) (h : ¬ s.writable va) : s.deviceAccess (.write va w) = s := by
  rw [State.writable, State.present] at h
  simpa [State.deviceAccess] using fun hv hr hp => absurd ⟨⟨hv, hr⟩, hp⟩ h

end Access

/-! What an access, and so a list of them, leaves of the map and of memory. -/

/-- Every page has the real page it had, and is vacant and protected or not as before. -/
def State.SamePages (s t : State) : Prop := ∀ vp, (t.readMap vp).real = (s.readMap vp).real ∧
  (t.readMap vp).isVacant = (s.readMap vp).isVacant ∧ (t.readMap vp).isProtected = (s.readMap vp).isProtected

namespace State.SamePages
variable {s t u : State}

theorem refl (s : State) : s.SamePages s := fun _ => ⟨rfl, rfl, rfl⟩

theorem trans (h : s.SamePages t) (h' : t.SamePages u) : s.SamePages u := fun vp =>
  have ⟨hr, hv, hp⟩ := h vp
  have ⟨hr', hv', hp'⟩ := h' vp
  ⟨hr'.trans hr, hv'.trans hv, hp'.trans hp⟩

theorem inWord (h : s.SamePages t) (va : Long) (a : Nat) : t.inWord va a ↔ s.inWord va a := by
  simp [State.inWord, State.realAddress, State.entryOf, (h _).1]

theorem touch {va : Long} {a : Access} (h : s.accessible va a) : s.SamePages (s.touch va a) := State.readMap_touch h

theorem storeWord {va : Long} (h : s.writable va) (w : Word) : s.SamePages (s.storeWord va w) :=
  (touch h.accessible).trans fun vp => by
    rw [State.readMap_congr (s := s.touch va .write) (t := s.storeWord va w) (by simp) (by simp) vp]
    exact ⟨rfl, rfl, rfl⟩

end State.SamePages

theorem State.samePages_deviceAccess (s : State) (d : DeviceAccess) : s.SamePages (s.deviceAccess d) := by
  cases d with
  | read va =>
    by_cases h : s.present va
    · rw [State.deviceAccess_read_present h]; exact .touch h.accessible
    · rw [State.deviceAccess_read_absent h]; exact .refl s
  | write va w =>
    by_cases h : s.writable va
    · rw [State.deviceAccess_write_writable w h]; exact .storeWord h w
    · rw [State.deviceAccess_write_unwritable w h]; exact .refl s

theorem State.byteAt_deviceAccess (s : State) {d : DeviceAccess} {a : Nat} (h : ∀ va w, .write va w = d → ¬ s.inWord va a) :
    (s.deviceAccess d).byteAt a = s.byteAt a := by
  cases d with
  | read va =>
    by_cases hp : s.present va
    · simp [State.deviceAccess_read_present hp, State.byteAt]
    · rw [State.deviceAccess_read_absent hp]
  | write va w =>
    by_cases hp : s.writable va
    · rw [State.deviceAccess_write_writable w hp]; exact s.byteAt_storeWord w (h va w rfl)
    · rw [State.deviceAccess_write_unwritable w hp]

theorem State.samePages_deviceAccesses (s : State) (ds : List DeviceAccess) : s.SamePages (s.deviceAccesses ds) := by
  induction ds generalizing s with
  | nil => exact .refl s
  | cons d ds ih => exact (s.samePages_deviceAccess d).trans (ih _)

theorem State.byteAt_deviceAccesses (s : State) {ds : List DeviceAccess} {a : Nat}
    (h : ∀ va w, .write va w ∈ ds → ¬ s.inWord va a) : (s.deviceAccesses ds).byteAt a = s.byteAt a := by
  induction ds generalizing s with
  | nil => rfl
  | cons d ds ih =>
    have hds : ∀ va w, .write va w ∈ ds → ¬ (s.deviceAccess d).inWord va a := fun va w hw => by
      rw [(s.samePages_deviceAccess d).inWord]
      exact h va w (List.mem_cons_of_mem _ hw)
    exact (ih _ hds).trans (s.byteAt_deviceAccess fun va w hw => h va w (hw ▸ List.mem_cons_self))

/-- But for the map, memory, the record of code words stored to and the count of free values the accesses leave the state as it was. -/
theorem State.deviceAccesses_frame (s : State) (ds : List DeviceAccess) : s.deviceAccesses ds = { s with
    map := (s.deviceAccesses ds).map, mem := (s.deviceAccesses ds).mem, codeWrites := (s.deviceAccesses ds).codeWrites
    freeIndex := (s.deviceAccesses ds).freeIndex } := by
  obtain ⟨m, n, c, k, h⟩ := s.deviceAccesses_cases ds
  rw [h]

theorem State.withEnvironment_nil {s : State} (h : s.inputs = []) : s.withEnvironment = { s with turns := [] } := by
  simp [State.withEnvironment, h]

theorem State.withEnvironment_cons {s : State} {i : Input} {rest : List Input} (h : s.inputs = i :: rest) :
    s.withEnvironment = State.deviceAccesses { s with
      it := s.it + i.pulses, wp := s.wp ||| i.wakeups, ptc := (i.bookkeeping.getD (s.ptc, s.time)).1
      time := (i.bookkeeping.getD (s.ptc, s.time)).2, inputs := rest, turns := i.turns } i.accesses := by
  simp [State.withEnvironment, h, applyInput]

theorem State.takeTurn_cons {s : State} {d : DeviceTurn} {rest : List DeviceTurn} (h : s.turns = d :: rest) :
    s.takeTurn = State.deviceAccesses { s with wp := s.wp ||| d.wakeups, turns := rest } d.accesses := by
  simp [State.takeTurn, h]

/-- Settles O13: an input, and a turn, set their registers and then make their accesses. -/
theorem environment : Obligations.Environment := by
  refine ⟨fun s i rest => ⟨State.withEnvironment_nil, fun h => ?input⟩,
    fun s d rest => ⟨fun h => State.takeTurn_undisturbed h, fun h => ?turn⟩,
    fun s va w => ⟨State.deviceAccess_read_present, fun h => ⟨State.deviceAccess_read_absent h, ?absent⟩,
      State.deviceAccess_write_writable w, State.deviceAccess_write_unwritable w⟩⟩
  case input =>
    rw [State.withEnvironment_cons h]
    exact ⟨State.deviceAccesses_frame _ _, fun a ha => State.byteAt_deviceAccesses _ ha, State.samePages_deviceAccesses _ _⟩
  case turn =>
    rw [State.takeTurn_cons h]
    exact ⟨State.deviceAccesses_frame _ _, fun a ha => State.byteAt_deviceAccesses _ ha, State.samePages_deviceAccesses _ _⟩
  case absent => exact State.deviceAccess_write_unwritable w fun hw => h hw.1

end Sys2Proof.Machine
end

section
/-! Words, bytes and map entries read back after they are written (20_memory.md R104, R105, R113, R119, R136, R137). -/

namespace Sys2Proof.Machine

section Words
variable {s : State} {va : Long} (hw : Memory.wf s.mem = true)
include hw

theorem State.wordAt_storeWord_same (w : Word) (h : s.writable va) : (s.storeWord va w).wordAt va = w := by
  rw [State.wordAt, State.realAddress_storeWord h, State.storeWord_mem]
  exact Memory.wordAt_setWord_same _ _ hw

/-- The left byte of a stored word is its most significant half (R119). -/
theorem State.byteAt_storeWord_left (w : Word) : (s.storeWord va w).byteAt (2 * s.realAddress va) = Word.left w := by
  rw [State.byteAt, State.storeWord_mem, Memory.setWord, Memory.byteAt_setByte_other _ _ (by omega),
    Memory.byteAt_setByte_same _ _ hw]

theorem State.byteAt_storeWord_right (w : Word) : (s.storeWord va w).byteAt (2 * s.realAddress va + 1) = Word.right w := by
  rw [State.byteAt, State.storeWord_mem, Memory.setWord, Memory.byteAt_setByte_same _ _ (Memory.setByte_wf _ _ hw)]

/-- A byte stored into a packed array replaces one byte of its word (R137). -/
theorem storeByte_wordAt {ptr offset : Long} (b : Byte) (hu : s.undisturbed) (h : s.storable (byteAddress ptr offset)) :
    ∃ t, storeByte ptr offset b s = .ok () t ∧
      t.wordAt (byteAddress ptr offset) = replaceByte (s.wordAt (byteAddress ptr offset)) offset b :=
  ⟨_, storeByte_ok b hu h, State.wordAt_storeWord_same (by simpa using hw) _
    ((State.writable_touch h.readable.accessible _).2 h.1)⟩

end Words

theorem storedMapEntry_flags_eq (c : Config) (flags : Word) (real : Long) :
    (storedMapEntry c flags real).flags = flags &&& implementedMapFlags c := by
  unfold storedMapEntry
  dsimp only
  split <;> rfl

theorem storedMapEntry_real (c : Config) {flags : Word} (real : Long) (h : vacantFlags flags = false) :
    (storedMapEntry c flags real).real = real := by
  simp [storedMapEntry, vacantFlags_implemented, h]

/-- Settles O15: the laws of the lists that hold memory and map, through the address that the map gives. -/
theorem readAfterWrite : Obligations.ReadAfterWrite := by
  refine ⟨fun s va w hw h => ⟨State.wordAt_storeWord_same hw w h, State.byteAt_storeWord_left hw w,
      State.byteAt_storeWord_right hw w, fun a h0 h1 => s.byteAt_storeWord w (not_or.2 ⟨h0, h1⟩)⟩,
    fun s ptr offset b hw hu h => ⟨fetchByte_ok hu h.readable, storeByte_wordAt hw b hu h⟩,
    fun s vp flags real hw hp => ?map⟩
  case map =>
    rw [State.readMap_writeMap_same flags real hw hp]
    exact ⟨storedMapEntry_flags_eq _ _ _, storedMapEntry_real _ _, fun vq hne => s.readMap_writeMap_other flags real hne⟩

end Sys2Proof.Machine
end

section
/-! SUPPORT. Loads one after another, from a state with any evaluation stack: each gives the word of the first state, whatever has been
read since. -/

namespace Sys2Proof.Machine

/-- Loads set flags of the map only. -/
theorem Accessed.reads {s u : State} {D : Nat → Nibble → Prop} {vas : List Long} (h : Accessed s D u) (hr : s.readableAll vas) :
    Accessed s D (u.reads vas) := by
  induction vas generalizing u with
  | nil => exact h
  | cons va vas ih =>
    obtain ⟨hva, hvas⟩ := State.readableAll_cons.1 hr
    exact ih (h.touch (h.readable.2 hva).accessible) hvas

theorem State.reads_append (s : State) (vas : List Long) (va : Long) : s.reads (vas ++ [va]) = (s.reads vas).touch va .read := by
  simp [State.reads]

section Reads
variable {s : State} {vas : List Long} {va : Long} (hr : s.readableAll vas)
include hr

theorem State.readable_reads : (s.reads vas).readable va ↔ s.readable va := ((Accessed.refl s).reads hr).readable

theorem State.storable_reads : (s.reads vas).storable va ↔ s.storable va := ((Accessed.refl s).reads hr).storable

theorem State.wordAt_reads : (s.reads vas).wordAt va = s.wordAt va := ((Accessed.refl s).reads hr).wordAt fun _ => id

theorem State.faultsAt_reads {a : Access} {k : FaultKind} : (s.reads vas).faultsAt a va k ↔ s.faultsAt a va k := by
  have h := (Accessed.refl s).reads hr
  rw [State.faultsAt, State.faultsAt, h.isVacant, h.isProtected]

end Reads

theorem State.undisturbed.reads {s : State} (hu : s.undisturbed) (vas : List Long) : (s.reads vas).undisturbed :=
  (State.reads_turns s vas).trans hu

theorem State.readableAll_pair {s : State} {va vb : Long} : s.readableAll [va, vb] ↔ s.readable va ∧ s.readable vb := by
  simp [State.readableAll_cons, State.readableAll_nil]

theorem State.readableAll_append {s : State} {vas vbs : List Long} :
    s.readableAll (vas ++ vbs) ↔ s.readableAll vas ∧ s.readableAll vbs := by
  simp only [State.readableAll, List.mem_append, or_imp, forall_and]

theorem State.readableAll_single {s : State} {va : Long} : s.readableAll [va] ↔ s.readable va := by
  simp [State.readableAll]

/-! Loads after the loads of `vas`. -/

section Loads
variable {s : State} {vas : List Long} {va : Long} {ptr : Word} (hu : s.undisturbed) (hr : s.readableAll vas) (st : List Word) (n : Nat)
include hu hr

theorem fetch_reads (h : s.readable va) :
    fetch va ((s.reads vas).stacked st n) = .ok (s.wordAt va) ((s.reads (vas ++ [va])).stacked st n) := by
  rw [fetch_stacked st n (hu.reads vas) ((State.readable_reads hr).2 h), State.wordAt_reads hr, State.reads_append]

omit hu hr in
theorem State.lengthenPointer_reads_stacked :
    ((s.reads vas).stacked st n).lengthenPointer ptr = s.lengthenPointer ptr := lengthenPointer_congr (by simp [State.stacked]) ptr

theorem fetchMds_reads (h : s.readable (s.lengthenPointer ptr)) :
    fetchMds ptr ((s.reads vas).stacked st n) =
      .ok (s.wordAt (s.lengthenPointer ptr)) ((s.reads (vas ++ [s.lengthenPointer ptr])).stacked st n) := by
  rw [fetchMds_eq, State.lengthenPointer_reads_stacked, fetch_reads hu hr st n h]

end Loads

theorem readDblMds_stacked {s : State} {ptr : Word} (st : List Word) (n : Nat) (hu : s.undisturbed)
    (h : s.readable (s.lengthenPointer ptr)) (h1 : s.readable (s.lengthenPointer ptr + 1)) :
    readDblMds ptr (s.stacked st n) =
      .ok (s.longAt (s.lengthenPointer ptr)) ((s.reads [s.lengthenPointer ptr, s.lengthenPointer ptr + 1]).stacked st n) :=
  readDbl_stacked st n hu h h1

/-! The next states of the statements. -/

theorem State.reads_loaded (s : State) (vas : List Long) (n : Nat) (w : Word) :
    (s.reads vas).stacked (s.stack.set n w) (n + 1) = (s.reads vas).result n [w] [] := by
  simp [State.stacked, State.result, setWords]

theorem State.reads_loaded_two (s : State) (vas : List Long) (n : Nat) (u v : Word) :
    (s.reads vas).stacked ((s.stack.set n u).set (n + 1) v) (n + 2) = (s.reads vas).result n [u, v] [] := by
  simp [State.stacked, State.result, setWords]

theorem State.stacked_same {s : State} {st : List Word} (n : Nat) (h : s.stack = st) : s.stacked st n = { s with sp := n } := by
  subst h; rfl

/-- A word that a routine has in hand is pushed. -/
theorem push_loaded {s : State} {vas : List Long} {n : Nat} (w : Word) (h : n < s.stack.length) :
    push w ((s.reads vas).stacked s.stack n) = .ok () ((s.reads vas).result n [w] []) := by
  rw [push_stacked _ _ _ _ h, State.reads_loaded]

theorem push_two_loaded {s : State} {vas : List Long} {n : Nat} (u v : Word) (h : n + 2 ≤ s.stack.length) :
    (do push u; push v : Act Unit) ((s.reads vas).stacked s.stack n) = .ok () ((s.reads vas).result n [u, v] []) := by
  rw [bind_ok (push_stacked _ _ _ _ (Nat.lt_of_succ_le (Nat.le_of_succ_le h))),
    push_stacked _ _ _ _ (by rw [List.length_set]; exact h), State.reads_loaded_two]

/-! Stores of words on the stack, after loads. -/

section Stores
variable {s : State} {vas : List Long} {va : Long} {base : Nat} {low high : Word} (hu : s.undisturbed) (hr : s.readableAll vas)
include hu hr

theorem storePop_loaded (hs : s.holds base [low]) (h : s.storable va) :
    storePop va ((s.reads vas).stacked s.stack s.sp) = .ok () { (s.reads vas).storeWord va low with sp := base } := by
  obtain ⟨hsp, -, hlow, -⟩ := hs
  have hsp : s.sp = base + 1 := hsp
  rw [storePop_stacked _ _ (hu.reads vas) ((State.storable_reads hr).2 h) (by omega), State.stacked_same _ (by simp), hsp,
    Nat.add_sub_cancel, hlow]

theorem storeMdsPop_loaded {ptr : Word} (hs : s.holds base [low]) (h : s.storable (s.lengthenPointer ptr)) :
    storeMdsPop ptr ((s.reads vas).stacked s.stack s.sp) =
      .ok () { (s.reads vas).storeWord (s.lengthenPointer ptr) low with sp := base } := by
  rw [storeMdsPop_eq, State.lengthenPointer_reads_stacked, storePop_loaded hu hr hs h]

theorem storeDoubleLong_loaded (hs : s.holds base [low, high]) (h1 : s.storable (va + 1)) (h : s.storable va) :
    storeDoubleLong va ((s.reads vas).stacked s.stack s.sp) =
      .ok () { ((s.reads vas).storeWord (va + 1) high).storeWord va low with sp := base } := by
  obtain ⟨hsp, -, hlow, hhigh, -⟩ := hs
  have hsp : s.sp = base + 2 := hsp
  rw [storeDoubleLong_ok _ _ (hu.reads vas) ((State.storable_reads hr).2 h1) ((State.storable_reads hr).2 h) (by omega),
    State.stacked_same _ (by simp), hsp, show base + 2 - 1 = base + 1 from rfl, Nat.add_sub_cancel, hlow, hhigh]

end Stores

end Sys2Proof.Machine
end

section
/-! The indirect reads and writes (44_pointer.md R450 to R462). -/

namespace Sys2Proof.Machine

section Indirect
variable {s : State} (hu : s.undisturbed) {ptr : Word} (h : s.readable (s.lengthenPointer ptr))
include hu h

/-! A short pointer is loaded from a frame, then what it leads to is loaded or stored. -/

theorem readIndirect_ok {offset : Word} (hr : s.room 1)
    (h' : s.readable (s.lengthenPointer (s.wordAt (s.lengthenPointer ptr) + offset))) :
    complete (readIndirect ptr offset) s =
      .next ((s.reads [s.lengthenPointer ptr, s.lengthenPointer (s.wordAt (s.lengthenPointer ptr) + offset)]).result s.sp
        [s.wordAt (s.lengthenPointer (s.wordAt (s.lengthenPointer ptr) + offset))] []) :=
  complete_ok <| (bind_ok (fetchMds_stacked s.stack s.sp hu h)).trans <|
    (bind_ok (fetchMds_second s.stack s.sp hu h h')).trans (push_loaded (vas := [_, _]) _ hr)

theorem readIndirectDouble_ok {offset : Word} (hr : s.room 2)
    (h' : s.readable (s.lengthenPointer (s.wordAt (s.lengthenPointer ptr) + offset)))
    (h1 : s.readable (s.lengthenPointer (s.wordAt (s.lengthenPointer ptr) + offset + 1))) :
    complete (readIndirectDouble ptr offset) s =
      .next ((s.reads [s.lengthenPointer ptr, s.lengthenPointer (s.wordAt (s.lengthenPointer ptr) + offset),
          s.lengthenPointer (s.wordAt (s.lengthenPointer ptr) + offset + 1)]).result s.sp
        [s.wordAt (s.lengthenPointer (s.wordAt (s.lengthenPointer ptr) + offset)),
          s.wordAt (s.lengthenPointer (s.wordAt (s.lengthenPointer ptr) + offset + 1))] []) :=
  complete_ok <| (bind_ok (fetchMds_stacked s.stack s.sp hu h)).trans <|
    (bind_ok (fetchMds_second s.stack s.sp hu h h')).trans <|
    (bind_ok (fetchMds_reads hu (State.readableAll_pair.2 ⟨h, h'⟩) s.stack s.sp h1)).trans (push_two_loaded _ _ hr)

theorem wlip_ok {offset : Word} {base : Nat} {low : Word} (hs : s.holds base [low])
    (h' : s.storable (s.lengthenPointer (s.wordAt (s.lengthenPointer ptr) + offset))) :
    complete (do let p ← fetchMds ptr; storeMdsPop (p + offset)) s =
      .next { (s.reads [s.lengthenPointer ptr]).storeWord (s.lengthenPointer (s.wordAt (s.lengthenPointer ptr) + offset)) low with
        sp := base } :=
  complete_ok <| (bind_ok (fetchMds_stacked s.stack s.sp hu h)).trans <|
    storeMdsPop_loaded (vas := [_]) hu (State.readableAll_single.2 h) hs h'

/-! A long pointer is loaded from a frame, then what it leads to is loaded or stored. -/

variable (h1 : s.readable (s.lengthenPointer ptr + 1)) {offset : Long}
include h1

theorem readIndirectLong_ok (hr : s.room 1) (h' : s.readable (s.longAt (s.lengthenPointer ptr) + offset)) :
    complete (readIndirectLong ptr offset) s =
      .next ((s.reads [s.lengthenPointer ptr, s.lengthenPointer ptr + 1, s.longAt (s.lengthenPointer ptr) + offset]).result s.sp
        [s.wordAt (s.longAt (s.lengthenPointer ptr) + offset)] []) :=
  complete_ok <| (bind_ok (readDblMds_stacked s.stack s.sp hu h h1)).trans <|
    (bind_ok (fetch_reads hu (State.readableAll_pair.2 ⟨h, h1⟩) s.stack s.sp h')).trans (push_loaded _ hr)

theorem readIndirectLongDouble_ok (hr : s.room 2) (h' : s.readable (s.longAt (s.lengthenPointer ptr) + offset))
    (h1' : s.readable (s.longAt (s.lengthenPointer ptr) + offset + 1)) :
    complete (do let p ← readDblMds ptr; readDoubleLong (p + offset)) s =
      .next ((s.reads [s.lengthenPointer ptr, s.lengthenPointer ptr + 1, s.longAt (s.lengthenPointer ptr) + offset,
          s.longAt (s.lengthenPointer ptr) + offset + 1]).result s.sp
        [s.wordAt (s.longAt (s.lengthenPointer ptr) + offset), s.wordAt (s.longAt (s.lengthenPointer ptr) + offset + 1)] []) :=
  have hr2 := State.readableAll_pair.2 ⟨h, h1⟩
  complete_ok <| (bind_ok (readDblMds_stacked s.stack s.sp hu h h1)).trans <|
    (bind_ok (fetch_reads hu hr2 s.stack s.sp h')).trans <|
    (bind_ok (fetch_reads hu (State.readableAll_append.2 ⟨hr2, State.readableAll_single.2 h'⟩) s.stack s.sp h1')).trans <|
    push_two_loaded _ _ hr

theorem wlilp_ok {base : Nat} {low : Word} (hs : s.holds base [low])
    (h' : s.storable (s.longAt (s.lengthenPointer ptr) + offset)) :
    complete (do let p ← readDblMds ptr; storePop (p + offset)) s =
      .next { (s.reads [s.lengthenPointer ptr, s.lengthenPointer ptr + 1]).storeWord
        (s.longAt (s.lengthenPointer ptr) + offset) low with sp := base } :=
  complete_ok <| (bind_ok (readDblMds_stacked s.stack s.sp hu h h1)).trans <|
    storePop_loaded hu (State.readableAll_pair.2 ⟨h, h1⟩) hs h'

theorem wldilp_ok {base : Nat} {low high : Word} (hs : s.holds base [low, high])
    (h1' : s.storable (s.longAt (s.lengthenPointer ptr) + offset + 1))
    (h' : s.storable (s.longAt (s.lengthenPointer ptr) + offset)) :
    complete (do let p ← readDblMds ptr; storeDoubleLong (p + offset)) s =
      .next { ((s.reads [s.lengthenPointer ptr, s.lengthenPointer ptr + 1]).storeWord
        (s.longAt (s.lengthenPointer ptr) + offset + 1) high).storeWord (s.longAt (s.lengthenPointer ptr) + offset) low with
        sp := base } :=
  complete_ok <| (bind_ok (readDblMds_stacked s.stack s.sp hu h h1)).trans <|
    storeDoubleLong_loaded hu (State.readableAll_pair.2 ⟨h, h1⟩) hs h1' h'

end Indirect

/-- Settles O35: each instruction by its pointer, short or long, and by what it does where that leads. -/
theorem indirectReadsAndWrites : Obligations.IndirectReadsAndWrites := by
  refine ⟨fun s pair hu => ?reads, fun s base low high pair hu => ⟨fun hs => ?write,
    fun hs h h1 h1' h' => wldilp_ok hu h h1 hs h1' h'⟩⟩
  case reads =>
    simp only [List.forall_mem_cons, List.not_mem_nil, false_imp_iff, implies_true, and_true]
    refine ⟨fun hr => ?short, fun hr => ?shortDouble, fun hr => ?long,
      fun hr h h1 h' h1' => readIndirectLongDouble_ok hu h h1 hr h' h1'⟩
    case short => and_intros <;> exact fun h h' => readIndirect_ok hu h hr h'
    case shortDouble => and_intros <;> exact fun h h' h1 => readIndirectDouble_ok hu h hr h' h1
    case long => and_intros <;> exact fun h h1 h' => readIndirectLong_ok hu h h1 hr h'
  case write => exact ⟨fun h h' => wlip_ok hu h hs h', fun h h1 h' => wlilp_ok hu h h1 hs h'⟩

end Sys2Proof.Machine
end

section
/-! The field reads of a legal field (45_string_field.md R500, R505 to R512). -/

namespace Sys2Proof.Machine

theorem popLong_holds {s : State} {base : Nat} {ws : List Word} {low high : Word} (h : s.holds base (ws ++ [low, high])) :
    popLong s = .ok (Long.ofHalves high low) { s with sp := base + ws.length } ∧
      { s with sp := base + ws.length }.holds base ws := by
  have hh := pop_holds (ws := ws ++ [low]) (by simpa using h)
  have hl := pop_holds hh.2
  refine ⟨?_, hl.2⟩
  rw [popLong, bind_ok hh.1, bind_ok hl.1]
  rfl

section Fields
variable {s : State} {vas : List Long} {va : Long} {f : FieldSpec} {base : Nat} {a b : Word} (hf : f.wellFormed = true)
  (hu : s.undisturbed)
include hf hu

/-- The field of a word is loaded, after the loads of `vas`. -/
theorem loadField_reads {n : Nat} (hr : s.readableAll vas) (hn : n < s.stack.length) (h : s.readable va) :
    loadField va f ((s.reads vas).stacked s.stack n) =
      .ok () ((s.reads (vas ++ [va])).result n [readFieldOf (s.wordAt va) f] []) := by
  have hm : fetchField va f ((s.reads vas).stacked s.stack n) =
      .ok (readFieldOf (s.wordAt va) f) ((s.reads (vas ++ [va])).stacked s.stack n) := by
    rw [fetchField, bind_ok (fetch_reads hu hr s.stack n h), readField, if_pos hf, act_pure]
  exact (bind_ok hm).trans (push_loaded _ hn)

theorem loadField_popped (hb : base < s.stack.length) (h : s.readable va) :
    loadField va f { s with sp := base } = .ok () ((s.reads [va]).result base [readFieldOf (s.wordAt va) f] []) :=
  loadField_reads (vas := []) hf hu ((State.readableAll_nil s).2 trivial) hb h

theorem readFieldDirect_ok {offset : Word} (hs : s.holds base [a]) (hva : s.lengthenPointer (a + offset) = va)
    (h : s.readable va) :
    complete (readFieldDirect offset f) s = .next ((s.reads [va]).result base [readFieldOf (s.wordAt va) f] []) :=
  complete_ok <| (bind_ok (pop_holds (ws := []) hs).1).trans <| (bind_ok (act_get _)).trans <|
    (congrArg (loadField · f _) hva).trans (loadField_popped hf hu (State.holds_bound hs) h)

theorem readFieldDirectLong_ok {offset : Long} {n : Nat} (hs : { s with sp := n }.holds base [a, b])
    (hva : Long.ofHalves b a + offset = va) (h : s.readable va) :
    readFieldDirectLong offset f { s with sp := n } = .ok () ((s.reads [va]).result base [readFieldOf (s.wordAt va) f] []) :=
  (bind_ok (popLong_holds (ws := []) hs).1).trans <|
    (congrArg (loadField · f _) hva).trans (loadField_popped hf hu (Nat.lt_of_succ_lt (State.holds_bound hs)) h)

theorem rlipf_ok {pair : NibblePair} (hr : s.room 1) (h : s.readable (s.lengthenPointer (s.lf + nibbleWord pair.left)))
    (h' : s.readable (s.lengthenPointer (s.wordAt (s.lengthenPointer (s.lf + nibbleWord pair.left)) + nibbleWord pair.right))) :
    exec (.rlipf pair f) s = .next ((s.reads [s.lengthenPointer (s.lf + nibbleWord pair.left),
        s.lengthenPointer (s.wordAt (s.lengthenPointer (s.lf + nibbleWord pair.left)) + nibbleWord pair.right)]).result s.sp
      [readFieldOf (s.wordAt (s.lengthenPointer
        (s.wordAt (s.lengthenPointer (s.lf + nibbleWord pair.left)) + nibbleWord pair.right))) f] []) :=
  complete_ok <| (bind_ok (fetchMds_stacked s.stack s.sp hu h)).trans <|
    loadField_reads (vas := [_]) hf hu (State.readableAll_single.2 h) hr h'

theorem rlilpf_ok {pair : NibblePair} (hr : s.room 1) (h : s.readable (s.lengthenPointer (s.lf + nibbleWord pair.left)))
    (h1 : s.readable (s.lengthenPointer (s.lf + nibbleWord pair.left) + 1))
    (h' : s.readable (s.longAt (s.lengthenPointer (s.lf + nibbleWord pair.left)) + nibbleLong pair.right)) :
    exec (.rlilpf pair f) s = .next ((s.reads [s.lengthenPointer (s.lf + nibbleWord pair.left),
        s.lengthenPointer (s.lf + nibbleWord pair.left) + 1,
        s.longAt (s.lengthenPointer (s.lf + nibbleWord pair.left)) + nibbleLong pair.right]).result s.sp
      [readFieldOf (s.wordAt (s.longAt (s.lengthenPointer (s.lf + nibbleWord pair.left)) + nibbleLong pair.right)) f] []) :=
  complete_ok <| (bind_ok (readDblMds_stacked s.stack s.sp hu h h1)).trans <|
    loadField_reads hf hu (State.readableAll_pair.2 ⟨h, h1⟩) hr h'

end Fields

/-! A descriptor on the stack (R509, R510). -/

section Descriptor
variable {s : State} {base : Nat} {a b w : Word} (hf : (fieldDesc w).field.wellFormed = true) (hu : s.undisturbed)
include hf hu

theorem rlfs_ok (hs : s.holds base [a, b, w]) (h : s.readable (Long.ofHalves b a + byteLong (fieldDesc w).offset)) :
    exec .rlfs s = .next ((s.reads [Long.ofHalves b a + byteLong (fieldDesc w).offset]).result base
      [readFieldOf (s.wordAt (Long.ofHalves b a + byteLong (fieldDesc w).offset)) (fieldDesc w).field] []) :=
  have hp := pop_holds (ws := [a, b]) hs
  complete_ok <| (bind_ok hp.1).trans <| (readFieldDirectLong_ok hf hu hp.2 rfl h)

theorem rcfs_ok (hs : s.holds base [a, w]) (h : s.codeReadable (a + byteWord (fieldDesc w).offset)) :
    exec .rcfs s = .next ((s.reads [s.codeAddress (a + byteWord (fieldDesc w).offset)]).result base
      [readFieldOf (s.wordAt (s.codeAddress (a + byteWord (fieldDesc w).offset))) (fieldDesc w).field] []) := by
  have hw := pop_holds (ws := [a]) hs
  have ha := pop_holds (ws := []) hw.2
  have hc := fetch_stacked s.stack base hu h.2
  refine complete_ok <| (bind_ok hw.1).trans <| (bind_ok ha.1).trans <| 
    (bind_ok ((readCode_inBank (s := s.stacked s.stack base) h.1).trans hc)).trans ?_
  rw [readField, if_pos hf, bind_ok (act_pure _ _)]
  exact push_loaded (vas := [_]) _ (Nat.lt_of_succ_lt (State.holds_bound hs))

end Descriptor

/-- Settles O38: each instruction by the address it computes, whose word's field it loads. -/
theorem fieldReads : Obligations.FieldReads := by
  intro s base ptr high w desc pair hu
  simp only [List.forall_mem_cons, List.not_mem_nil, false_imp_iff, implies_true, and_true]
  refine ⟨fun hs => ⟨fun hf h => readFieldDirect_ok hf hu hs rfl h, fun hf h => readFieldDirect_ok hf hu hs (by simp) h⟩,
    fun hs => ⟨fun hf h => complete_ok (readFieldDirectLong_ok hf hu hs rfl h),
      fun hf h => complete_ok (readFieldDirectLong_ok hf hu hs (by simp) h)⟩,
    fun hs hf h => rlfs_ok hf hu hs h, fun hs hf h => rcfs_ok hf hu hs h,
    fun hr hf => ⟨fun h h' => rlipf_ok hf hu hr h h', fun h h1 h' => rlilpf_ok hf hu hr h h1 h'⟩⟩

end Sys2Proof.Machine
end

section
/-! SUPPORT. Routines that a fault abandons (20_memory.md R108; 60_exceptions.md R683, R684): which access faults, and what is kept of those
before it. -/

namespace Sys2Proof.Machine

/-- From the state `s` the routine takes the fault `k` at `va`, with `t` left behind but for what the fault restores. -/
def Faults {α : Type} (k : FaultKind) (va : Long) (t : State) (m : Act α) (s : State) : Prop :=
  ∃ u, m s = .error (.exception (.fault k va)) u ∧ takeException (.fault k va) u = takeException (.fault k va) t

namespace Faults
variable {α β : Type} {k : FaultKind} {va : Long} {s t u : State} {m : Act α} {f : α → Act β} {a : α}

theorem complete {m : Act Unit} (h : Faults k va t m s) : complete m s = .next (takeException (.fault k va) t) := by
  obtain ⟨u, hm, hu⟩ := h
  rw [complete_exception hm, hu]

theorem bind (h : Faults k va t m s) : Faults k va t (m >>= f) s := by
  obtain ⟨u, hm, hu⟩ := h
  exact ⟨u, bind_error hm, hu⟩

/-- The fault comes after a first part that succeeds. -/
theorem after (hm : m s = .ok a u) (h : Faults k va t (f a) u) : Faults k va t (m >>= f) s := by
  obtain ⟨v, hf, hv⟩ := h
  exact ⟨v, (bind_ok hm).trans hf, hv⟩

theorem getThen {f : State → Act β} (h : Faults k va t (f s) s) : Faults k va t (get >>= f) s := .after (act_get s) h

theorem pos {c : Prop} [Decidable c] {m n : Act α} (hc : c) (h : Faults k va t m s) : Faults k va t (if c then m else n) s := by
  rwa [if_pos hc]

variable {base : Nat} {ws : List Word}

theorem popThen {w : Word} {f : Word → Act β} (h : s.holds base (ws ++ [w]))
    (hf : { s with sp := base + ws.length }.holds base ws → Faults k va t (f w) { s with sp := base + ws.length }) :
    Faults k va t (pop >>= f) s :=
  .after (pop_holds h).1 (hf (pop_holds h).2)

theorem popLongThen {low high : Word} {f : Long → Act β} (h : s.holds base (ws ++ [low, high]))
    (hf : { s with sp := base + ws.length }.holds base ws →
      Faults k va t (f (Long.ofHalves high low)) { s with sp := base + ws.length }) :
    Faults k va t (popLong >>= f) s :=
  .after (popLong_holds h).1 (hf (popLong_holds h).2)

end Faults

theorem State.faultsAt_of_vacant {s : State} {va : Long} (a : Access) (h : (s.entryOf va).isVacant = true) :
    s.faultsAt a va .pageFault := .inl ⟨h, rfl⟩

/-! One access that faults, with any number of words popped. -/

section Accesses
variable {s : State} (hu : s.undisturbed) {va : Long} {ptr : Word} {k : FaultKind} {st : List Word} (hst : s.stack = st) {n : Nat}
include hu hst

/-- Every access has the devices' turn and then goes through the map (R108, R140). -/
theorem access_faults {α : Type} {a : Access} {f : Nat → Act α} (h : s.faultsAt a va k) :
    Faults k va s (do deviceTurn; let ra ← translate va a; f ra) (s.stacked st n) := by
  have ht : translate va a (s.stacked st n) = .error (.exception (.fault k va)) (s.stacked st n) := by
    obtain ⟨hv, rfl⟩ | ⟨rfl, hv, hp, rfl⟩ := h
    · exact translate_vacant (s := s.stacked st n) a hv
    · exact translate_protected (s := s.stacked st n) hv hp
  have hturn : deviceTurn (s.stacked st n) = .ok () (s.stacked st n) :=
    congrArg (EStateM.Result.ok ()) (State.undisturbed.turn (s := s.stacked st n) hu)
  exact .after hturn (.bind ⟨_, ht, takeException_fault_stacked st n k va hst⟩)

theorem fetch_faults (h : s.faultsAt .read va k) : Faults k va s (fetch va) (s.stacked st n) := access_faults hu hst h

theorem store_faults (w : Word) (h : s.faultsAt .write va k) : Faults k va s (store va w) (s.stacked st n) :=
  access_faults hu hst h

theorem storePop_faults (h : s.faultsAt .write va k) : Faults k va s (storePop va) (s.stacked st n) := access_faults hu hst h

theorem fetchOverhead_faults (h : s.faultsAt .read va k) : Faults k va s (fetchOverhead va) (s.stacked st n) :=
  access_faults hu hst h

theorem storeOverheadPop_faults (h : s.faultsAt .write va k) : Faults k va s (storeOverheadPop va) (s.stacked st n) :=
  access_faults hu hst h

theorem fetchMds_faults (h : s.faultsAt .read (s.lengthenPointer ptr) k) :
    Faults k (s.lengthenPointer ptr) s (fetchMds ptr) (s.stacked st n) := .getThen (fetch_faults hu hst h)

theorem storeMds_faults (w : Word) (h : s.faultsAt .write (s.lengthenPointer ptr) k) :
    Faults k (s.lengthenPointer ptr) s (storeMds ptr w) (s.stacked st n) := .getThen (store_faults hu hst w h)

theorem storeMdsPop_faults (h : s.faultsAt .write (s.lengthenPointer ptr) k) :
    Faults k (s.lengthenPointer ptr) s (storeMdsPop ptr) (s.stacked st n) := .getThen (storePop_faults hu hst h)

end Accesses

/-! An access that faults after the loads of `vas`. -/

section AfterLoads
variable {s : State} (hu : s.undisturbed) {vas : List Long} (hr : s.readableAll vas) {va : Long} {ptr : Word} {k : FaultKind} {n : Nat}
include hu hr

theorem fetch_faults_after (h : s.faultsAt .read va k) :
    Faults k va (s.reads vas) (fetch va) ((s.reads vas).stacked s.stack n) :=
  fetch_faults (hu.reads vas) (by simp) ((State.faultsAt_reads hr).2 h)

theorem store_faults_after (w : Word) (h : s.faultsAt .write va k) :
    Faults k va (s.reads vas) (store va w) ((s.reads vas).stacked s.stack n) :=
  store_faults (hu.reads vas) (by simp) w ((State.faultsAt_reads hr).2 h)

theorem storePop_faults_after (h : s.faultsAt .write va k) :
    Faults k va (s.reads vas) (storePop va) ((s.reads vas).stacked s.stack n) :=
  storePop_faults (hu.reads vas) (by simp) ((State.faultsAt_reads hr).2 h)

theorem fetchMds_faults_after (h : s.faultsAt .read (s.lengthenPointer ptr) k) :
    Faults k (s.lengthenPointer ptr) (s.reads vas) (fetchMds ptr) ((s.reads vas).stacked s.stack n) := by
  refine .getThen ?_
  rw [State.lengthenPointer_reads_stacked]
  exact fetch_faults_after hu hr h

theorem storeMdsPop_faults_after (h : s.faultsAt .write (s.lengthenPointer ptr) k) :
    Faults k (s.lengthenPointer ptr) (s.reads vas) (storeMdsPop ptr) ((s.reads vas).stacked s.stack n) := by
  refine .getThen ?_
  rw [State.lengthenPointer_reads_stacked]
  exact storePop_faults_after hu hr h

end AfterLoads

end Sys2Proof.Machine
end

section
/-! What a fault leaves behind: the loads before it, and the first store of two (43_immediate_frame.md R361; 60_exceptions.md R683 to
R688). -/

namespace Sys2Proof.Machine

theorem writeField_legal {f : FieldSpec} (hl : f.wellFormed = true) (w data : Word) (s : State) :
    writeField w f data s = .ok (writeFieldOf w f data) s := by
  rw [writeField, if_pos hl, act_pure]

/-! Through a pointer in a frame: the pointer has been loaded, then what follows faults. -/

section Pointer
variable {s t : State} (hu : s.undisturbed) {ptr : Word} {k : FaultKind} {va : Long}
include hu

theorem through_short_fault {m : Word → Act Unit} (h : s.readable (s.lengthenPointer ptr))
    (hm : Faults k va t (m (s.wordAt (s.lengthenPointer ptr))) ((s.reads [s.lengthenPointer ptr]).stacked s.stack s.sp)) :
    complete (fetchMds ptr >>= m) s = .next (takeException (.fault k va) t) :=
  (Faults.after (fetchMds_stacked s.stack s.sp hu h) hm).complete

theorem through_long_fault {m : Long → Act Unit}
    (hr : s.readableAll [s.lengthenPointer ptr, s.lengthenPointer ptr + 1])
    (hm : Faults k va t (m (s.longAt (s.lengthenPointer ptr)))
      ((s.reads [s.lengthenPointer ptr, s.lengthenPointer ptr + 1]).stacked s.stack s.sp)) :
    complete (readDblMds ptr >>= m) s = .next (takeException (.fault k va) t) :=
  have ⟨h, h1⟩ := State.readableAll_pair.1 hr
  (Faults.after (readDblMds_stacked s.stack s.sp hu h h1) hm).complete

end Pointer

section Second
variable {s : State} (hu : s.undisturbed) {ptr : Word} {va : Long} {k : FaultKind} {n : Nat}
include hu

/-! The second of two loads. -/

theorem readDoubleMds_second (h : s.readable (s.lengthenPointer ptr)) (hf : s.faultsAt .read (s.lengthenPointer (ptr + 1)) k) :
    Faults k (s.lengthenPointer (ptr + 1)) (s.reads [s.lengthenPointer ptr]) (readDoubleMds ptr) (s.stacked s.stack n) :=
  ⟨_, readDoubleMds_fault s.stack n hu h hf, takeException_fault_stacked _ _ _ _ (by simp)⟩

theorem readDoubleLong_second (h : s.readable va) (hf : s.faultsAt .read (va + 1) k) :
    Faults k (va + 1) (s.reads [va]) (readDoubleLong va) (s.stacked s.stack n) :=
  ⟨_, readDoubleLong_fault s.stack n hu h hf, takeException_fault_stacked _ _ _ _ (by simp)⟩

theorem readDblMds_second (h : s.readable (s.lengthenPointer ptr)) (hf : s.faultsAt .read (s.lengthenPointer ptr + 1) k) :
    Faults k (s.lengthenPointer ptr + 1) (s.reads [s.lengthenPointer ptr]) (readDblMds ptr) (s.stacked s.stack n) :=
  ⟨_, readDblMds_fault s.stack n hu h hf, takeException_fault_stacked _ _ _ _ (by simp)⟩

/-- A frame's double load has pushed the first word, which stays above the restored top (R361). -/
theorem loadDoubleMds_second (hn : n < s.stack.length) (h : s.readable (s.lengthenPointer ptr))
    (hf : s.faultsAt .read (s.lengthenPointer (ptr + 1)) k) :
    Faults k (s.lengthenPointer (ptr + 1))
      { s.reads [s.lengthenPointer ptr] with stack := s.stack.set n (s.wordAt (s.lengthenPointer ptr)) }
      (loadDoubleMds ptr) (s.stacked s.stack n) :=
  ⟨_, loadDoubleMds_fault s.stack n hu hn h hf, rfl⟩

/-! The store of a field or a byte, after the load of its word (R137, R503). -/

variable {f : FieldSpec} {data : Word} {offset base : Long} {b : Byte}

theorem storeField_faults_read (hf : s.faultsAt .read va k) : Faults k va s (storeField va f data) (s.stacked s.stack n) :=
  .bind (fetch_faults hu rfl hf)

theorem storeField_faults_write (h : s.readable va) (hl : f.wellFormed = true) (hf : s.faultsAt .write va k) :
    Faults k va (s.reads [va]) (storeField va f data) (s.stacked s.stack n) :=
  .after (fetch_stacked _ _ hu h) <| .after (writeField_legal hl _ _ _) <|
    store_faults_after hu (State.readableAll_single.2 h) _ hf

theorem storeByte_faults_read (hf : s.faultsAt .read (byteAddress base offset) k) :
    Faults k (byteAddress base offset) s (storeByte base offset b) (s.stacked s.stack n) :=
  .bind (fetch_faults hu rfl hf)

theorem storeByte_faults_write (h : s.readable (byteAddress base offset)) (hf : s.faultsAt .write (byteAddress base offset) k) :
    Faults k (byteAddress base offset) (s.reads [byteAddress base offset]) (storeByte base offset b) (s.stacked s.stack n) :=
  .after (fetch_stacked _ _ hu h) (store_faults_after hu (State.readableAll_single.2 h) _ hf)

/-! The second of two stores (R361, R684). -/

theorem storeDoubleMds_second {base : Nat} {a b : Word} (hs : { s with sp := n }.holds base [a, b])
    (h : s.storable (s.lengthenPointer (ptr + 1))) (hf : s.faultsAt .write (s.lengthenPointer ptr) k) :
    Faults k (s.lengthenPointer ptr) (s.storeWord (s.lengthenPointer (ptr + 1)) b) (storeDoubleMds ptr) (s.stacked s.stack n) := by
  obtain ⟨hn, -, -, hb, -⟩ := hs
  obtain rfl : n = base + 2 := hn
  obtain rfl : s.stack.getD (base + 1) 0 = b := hb
  exact ⟨_, storeDoubleMds_fault s.stack _ hu h hf (by omega), takeException_fault_stacked _ _ _ _ (by simp)⟩

/-- Both stores through a long pointer, after the loads of `vas`. -/
theorem storeDoubleLong_second {vas : List Long} (hr : s.readableAll vas) {base : Nat} {a b : Word}
    (hs : { s with sp := n }.holds base [a, b]) (h : s.storable (va + 1)) (hf : s.faultsAt .write va k) :
    Faults k va ((s.reads vas).storeWord (va + 1) b) (storeDoubleLong va) ((s.reads vas).stacked s.stack n) := by
  obtain ⟨hn, -, -, hb, -⟩ := hs
  obtain rfl : n = base + 2 := hn
  obtain rfl : s.stack.getD (base + 1) 0 = b := hb
  exact ⟨_, storeDoubleLong_fault s.stack _ (hu.reads vas) ((State.storable_reads hr).2 h) ((State.faultsAt_reads hr).2 hf)
    (by omega), takeException_fault_stacked _ _ _ _ (by simp)⟩

theorem store_second {u v : Word} {m : Act Unit} (h : s.storable (va + 1)) (hf : s.faultsAt .write va k) :
    Faults k va (s.storeWord (va + 1) v) (do store (va + 1) v; store va u; m) (s.stacked s.stack n) :=
  .after (store_stacked s.stack n v hu h)
    (.bind (store_faults (hu.storeWord _ _) (by simp) u ((State.faultsAt_storeWord h.1 v).2 hf)))

theorem storeMds_second {u v : Word} {m : Act Unit} (h : s.storable (s.lengthenPointer (ptr + 1)))
    (hf : s.faultsAt .write (s.lengthenPointer ptr) k) :
    Faults k (s.lengthenPointer ptr) (s.storeWord (s.lengthenPointer (ptr + 1)) v)
      (do storeMds (ptr + 1) v; storeMds ptr u; m) (s.stacked s.stack n) := by
  have e : ((s.storeWord (s.lengthenPointer (ptr + 1)) v).stacked s.stack n).lengthenPointer ptr = s.lengthenPointer ptr :=
    lengthenPointer_congr (by simp [State.stacked]) ptr
  refine .after (storeMds_stacked s.stack n v hu h) (.bind (.getThen ?_))
  rw [e]
  exact store_faults (hu.storeWord _ _) (by simp) u ((State.faultsAt_storeWord h.1 v).2 hf)

end Second

theorem readCode_faults {s : State} {offset : Word} {k : FaultKind} {n : Nat} (hu : s.undisturbed)
    (hb : s.codeInBank offset = true) (hf : s.faultsAt .read (s.codeAddress offset) k) :
    Faults k (s.codeAddress offset) s (readCode offset) (s.stacked s.stack n) := by
  rw [Faults, readCode_inBank (s := s.stacked s.stack n) hb]
  exact fetch_faults hu rfl hf

end Sys2Proof.Machine
end

section
/-! Every form of load and store, by the access that faults (20_memory.md R108; 43_immediate_frame.md R361; 60_exceptions.md R683 to
R688). -/

namespace Sys2Proof.Machine

/-! What is said of the instructions: of the first access, of a second load, of a store after the load of its word, and of a second
store. -/

section Claims
variable (s : State)

/-- The instruction takes the fault `k` at `va`, with `t` left behind. -/
def State.execFaults (i : Instr) (k : FaultKind) (va : Long) (t : State) : Prop :=
  exec i s = .next (takeException (.fault k va) t)

/-- A load from a vacant page takes PageFault. -/
def State.loadsFault (ps : List (Instr × Long)) : Prop :=
  ∀ p ∈ ps, (s.entryOf p.2).isVacant = true → s.execFaults p.1 .pageFault p.2 s

/-- A store to a page takes the fault that the map gives it. -/
def State.storesFault (ps : List (Instr × Long)) : Prop :=
  ∀ p ∈ ps, ∀ k, s.faultsAt .write p.2 k → s.execFaults p.1 k p.2 s

/-- A load takes PageFault, and the store after it WriteProtectFault. -/
def State.updateFaults (legal : Bool) (i : Instr) (va : Long) : Prop :=
  ((s.entryOf va).isVacant = true → s.execFaults i .pageFault va s) ∧
    (s.readable va → s.faultsAt .write va .writeProtectFault → legal = true → s.execFaults i .writeProtectFault va (s.reads [va]))

/-- The second of two loads takes PageFault. -/
def State.secondLoadFaults (i : Instr) (first second : Long) : Prop :=
  s.readable first → (s.entryOf second).isVacant = true → s.execFaults i .pageFault second (s.reads [first])

/-- The second of two stores takes the fault that the map gives it, with `w` stored by the other. -/
def State.secondStoreFaults (i : Instr) (t : State) (first second : Long) (w : Word) : Prop :=
  s.storable second → ∀ k, s.faultsAt .write first k → s.execFaults i k first (t.storeWord second w)

end Claims

/-! The frame forms. -/

section Frame
variable (s : State) (alpha : Byte)

/-- The single loads from a frame, with their pointers. -/
def frameLoads : List (Instr × Word) :=
  [(.ll0, s.lf), (.ll1, s.lf + 1), (.ll2, s.lf + 2), (.ll3, s.lf + 3), (.ll4, s.lf + 4), (.ll5, s.lf + 5), (.ll6, s.lf + 6),
    (.ll7, s.lf + 7), (.ll8, s.lf + 8), (.ll9, s.lf + 9), (.ll10, s.lf + 10), (.ll11, s.lf + 11),
    (.llb alpha, s.lf + byteWord alpha), (.al0ib alpha, s.lf), (.lg0, s.gf), (.lg1, s.gf + 1), (.lg2, s.gf + 2),
    (.lgb alpha, s.gf + byteWord alpha)]

/-- The double loads from a frame. -/
def frameDoubleLoads : List (Instr × Word) :=
  [(.lld0, s.lf), (.lld1, s.lf + 1), (.lld2, s.lf + 2), (.lld3, s.lf + 3), (.lld4, s.lf + 4), (.lld5, s.lf + 5), (.lld6, s.lf + 6),
    (.lld7, s.lf + 7), (.lld8, s.lf + 8), (.lld10, s.lf + 10), (.lldb alpha, s.lf + byteWord alpha), (.lgd0, s.gf),
    (.lgd2, s.gf + 2), (.lgdb alpha, s.gf + byteWord alpha)]

/-- The single stores to a frame. -/
def frameStores : List (Instr × Word) :=
  [(.sl0, s.lf), (.sl1, s.lf + 1), (.sl2, s.lf + 2), (.sl3, s.lf + 3), (.sl4, s.lf + 4), (.sl5, s.lf + 5), (.sl6, s.lf + 6),
    (.sl7, s.lf + 7), (.sl8, s.lf + 8), (.sl9, s.lf + 9), (.sl10, s.lf + 10), (.slb alpha, s.lf + byteWord alpha), (.pl0, s.lf),
    (.pl1, s.lf + 1), (.pl2, s.lf + 2), (.pl3, s.lf + 3), (.plb alpha, s.lf + byteWord alpha), (.sgb alpha, s.gf + byteWord alpha)]

/-- The double stores to a frame. -/
def frameDoubleStores : List (Instr × Word) :=
  [(.sld0, s.lf), (.sld1, s.lf + 1), (.sld2, s.lf + 2), (.sld3, s.lf + 3), (.sld4, s.lf + 4), (.sld5, s.lf + 5), (.sld6, s.lf + 6),
    (.sld8, s.lf + 8), (.sldb alpha, s.lf + byteWord alpha), (.pld0, s.lf), (.pldb alpha, s.lf + byteWord alpha),
    (.sgdb alpha, s.gf + byteWord alpha)]

theorem exec_frameLoads : ∀ p ∈ frameLoads s alpha, ∃ m : Word → Act Unit, exec p.1 s = complete (fetchMds p.2 >>= m) s := by
  simp only [frameLoads, List.forall_mem_cons, List.not_mem_nil, false_imp_iff, implies_true, and_true]
  and_intros <;> exact ⟨_, rfl⟩

theorem exec_frameDoubleLoads : ∀ p ∈ frameDoubleLoads s alpha, exec p.1 s = complete (loadDoubleMds p.2) s := by
  simp only [frameDoubleLoads, List.forall_mem_cons, List.not_mem_nil, false_imp_iff, implies_true, and_true]
  and_intros <;> rfl

/-- A store to a frame is followed by nothing, or by what puts the word back on the stack. -/
theorem exec_frameStores : ∀ p ∈ frameStores s alpha,
    exec p.1 s = complete (storeMdsPop p.2) s ∨ exec p.1 s = complete (putMds p.2) s := by
  simp only [frameStores, List.forall_mem_cons, List.not_mem_nil, false_imp_iff, implies_true, and_true]
  exact ⟨.inl rfl, .inl rfl, .inl rfl, .inl rfl, .inl rfl, .inl rfl, .inl rfl, .inl rfl, .inl rfl, .inl rfl, .inl rfl, .inl rfl,
    .inr rfl, .inr rfl, .inr rfl, .inr rfl, .inr rfl, .inl rfl⟩

theorem exec_frameDoubleStores : ∀ p ∈ frameDoubleStores s alpha,
    exec p.1 s = complete (storeDoubleMds p.2) s ∨ exec p.1 s = complete (putDoubleMds p.2) s := by
  simp only [frameDoubleStores, List.forall_mem_cons, List.not_mem_nil, false_imp_iff, implies_true, and_true]
  exact ⟨.inl rfl, .inl rfl, .inl rfl, .inl rfl, .inl rfl, .inl rfl, .inl rfl, .inl rfl, .inl rfl, .inr rfl, .inr rfl, .inl rfl⟩

variable {s} {k : FaultKind} (hu : s.undisturbed)
include hu

theorem frameLoads_fault {p : Instr × Word} (hp : p ∈ frameLoads s alpha ∨ p ∈ frameDoubleLoads s alpha)
    (h : s.faultsAt .read (s.lengthenPointer p.2) k) : s.execFaults p.1 k (s.lengthenPointer p.2) s := by
  have hf := fetchMds_faults hu (st := s.stack) (n := s.sp) rfl h
  rcases hp with hp | hp
  · obtain ⟨m, hm⟩ := exec_frameLoads s alpha p hp
    exact hm.trans hf.bind.complete
  · exact (exec_frameDoubleLoads s alpha p hp).trans hf.bind.complete

theorem frameDoubleLoads_second {p : Instr × Word} (hp : p ∈ frameDoubleLoads s alpha) (hr : s.room 1)
    (h : s.readable (s.lengthenPointer p.2)) (hf : s.faultsAt .read (s.lengthenPointer (p.2 + 1)) k) :
    s.execFaults p.1 k (s.lengthenPointer (p.2 + 1))
      { s.reads [s.lengthenPointer p.2] with stack := s.stack.set s.sp (s.wordAt (s.lengthenPointer p.2)) } :=
  (exec_frameDoubleLoads s alpha p hp).trans (loadDoubleMds_second hu hr h hf).complete

theorem frameStores_fault {p : Instr × Word} (hp : p ∈ frameStores s alpha) (h : s.faultsAt .write (s.lengthenPointer p.2) k) :
    s.execFaults p.1 k (s.lengthenPointer p.2) s := by
  have hf := storeMdsPop_faults hu (st := s.stack) (n := s.sp) rfl h
  rcases exec_frameStores s alpha p hp with he | he
  · exact he.trans hf.complete
  · exact he.trans hf.bind.complete

omit hu in
theorem frameDoubleStores_fault {p : Instr × Word} {va : Long} {t : State} (hp : p ∈ frameDoubleStores s alpha)
    (h : Faults k va t (storeDoubleMds p.2) s) : s.execFaults p.1 k va t := by
  rcases exec_frameDoubleStores s alpha p hp with he | he
  · exact he.trans h.complete
  · exact he.trans h.bind.complete

end Frame

/-! The forms through a pointer in a frame. -/

section Indirect
variable (s : State) (pair : NibblePair) (f : FieldSpec)

/-- The double loads through a short pointer in a frame: the pointer to that, and the offset. -/
def shortDoubleIndirects : List (Instr × Word × Word) :=
  [(.rldi00, s.lf, 0), (.rldip pair, s.lf + nibbleWord pair.left, nibbleWord pair.right)]

/-- The loads and the store through a short pointer in a frame. -/
def shortIndirects : List (Instr × Word × Word) :=
  [(.rli00, s.lf, 0), (.rli01, s.lf, 1), (.rli02, s.lf, 2), (.rli03, s.lf, 3),
    (.rlip pair, s.lf + nibbleWord pair.left, nibbleWord pair.right), (.rgip pair, s.gf + nibbleWord pair.left, nibbleWord pair.right),
    (.rlipf pair f, s.lf + nibbleWord pair.left, nibbleWord pair.right),
    (.wlip pair, s.lf + nibbleWord pair.left, nibbleWord pair.right)] ++
    shortDoubleIndirects s pair

/-- The loads and the single store through a long pointer in a frame. -/
def longIndirects : List (Instr × Word) :=
  [(.rlilp pair, s.lf + nibbleWord pair.left), (.rgilp pair, s.gf + nibbleWord pair.left), (.rldilp pair, s.lf + nibbleWord pair.left),
    (.rlilpf pair f, s.lf + nibbleWord pair.left), (.wlilp pair, s.lf + nibbleWord pair.left)]

theorem exec_shortDoubleIndirects : ∀ p ∈ shortDoubleIndirects s pair,
    exec p.1 s = complete (readIndirectDouble p.2.1 p.2.2) s := by
  simp only [shortDoubleIndirects, List.forall_mem_cons, List.not_mem_nil, false_imp_iff, implies_true, and_true]
  exact ⟨rfl, rfl⟩

/-- After the loads of `vas` the routine `m` takes PageFault at `va`. -/
def PageFaultsAfter (vas : List Long) (va : Long) (m : Act Unit) : Prop :=
  (s.entryOf va).isVacant = true → Faults .pageFault va (s.reads vas) m ((s.reads vas).stacked s.stack s.sp)

variable {s} (hu : s.undisturbed)
include hu

theorem exec_shortIndirects : ∀ p ∈ shortIndirects s pair f, ∃ m : Word → Act Unit,
    exec p.1 s = complete (fetchMds p.2.1 >>= m) s ∧
    ∀ w vas, s.readableAll vas → PageFaultsAfter s vas (s.lengthenPointer (w + p.2.2)) (m w) := by
  have load {vas ptr} {m : Word → Act Unit} (hr : s.readableAll vas) :
      PageFaultsAfter s vas (s.lengthenPointer ptr) (fetchMds ptr >>= m) := fun hv =>
    .bind (fetchMds_faults_after hu hr (State.faultsAt_of_vacant _ hv))
  simp only [shortIndirects, shortDoubleIndirects, List.forall_mem_append, List.forall_mem_cons, List.not_mem_nil, false_imp_iff,
    implies_true, and_true]
  refine ⟨⟨?_, ?_, ?_, ?_, ?_, ?_, ?rlipf, ?wlip⟩, ?_, ?_⟩
  case rlipf => exact ⟨_, rfl, fun w vas hr hv => .bind (.bind (fetch_faults_after hu hr (State.faultsAt_of_vacant _ hv)))⟩
  case wlip => exact ⟨_, rfl, fun w vas hr hv => storeMdsPop_faults_after hu hr (State.faultsAt_of_vacant _ hv)⟩
  all_goals exact ⟨_, rfl, fun w vas hr => load hr⟩

theorem exec_longIndirects : ∀ p ∈ longIndirects s pair f, ∃ m : Long → Act Unit, exec p.1 s = complete (readDblMds p.2 >>= m) s ∧
    ∀ u vas, s.readableAll vas → PageFaultsAfter s vas (u + nibbleLong pair.right) (m u) := by
  have load {vas va} {m : Word → Act Unit} (hr : s.readableAll vas) : PageFaultsAfter s vas va (fetch va >>= m) := fun hv =>
    .bind (fetch_faults_after hu hr (State.faultsAt_of_vacant _ hv))
  simp only [longIndirects, List.forall_mem_cons, List.not_mem_nil, false_imp_iff, implies_true, and_true]
  exact ⟨⟨_, rfl, fun _ _ hr => load hr⟩, ⟨_, rfl, fun _ _ hr => load hr⟩, ⟨_, rfl, fun _ _ hr => load hr⟩,
    ⟨_, rfl, fun _ _ hr hv => .bind (.bind (fetch_faults_after hu hr (State.faultsAt_of_vacant _ hv)))⟩,
    ⟨_, rfl, fun _ _ hr hv => storePop_faults_after hu hr (State.faultsAt_of_vacant _ hv)⟩⟩

variable {pair f}

theorem shortIndirects_first : s.loadsFault ((shortIndirects s pair f).map fun p => (p.1, s.lengthenPointer p.2.1)) :=
  List.forall_mem_map.2 fun p hp hv => by
    obtain ⟨m, he, -⟩ := exec_shortIndirects pair f hu p hp
    exact he.trans (fetchMds_faults hu rfl (State.faultsAt_of_vacant _ hv)).bind.complete

theorem shortIndirects_second {p : Instr × Word × Word} (hp : p ∈ shortIndirects s pair f) :
    s.secondLoadFaults p.1 (s.lengthenPointer p.2.1) (s.lengthenPointer (s.wordAt (s.lengthenPointer p.2.1) + p.2.2)) := fun h hv => by
  obtain ⟨m, he, hm⟩ := exec_shortIndirects pair f hu p hp
  exact he.trans (through_short_fault hu h (hm _ _ (State.readableAll_single.2 h) hv))

theorem shortIndirects_third {p : Instr × Word × Word} (hp : p ∈ shortDoubleIndirects s pair) (h : s.readable (s.lengthenPointer p.2.1))
    (h' : s.readable (s.lengthenPointer (s.wordAt (s.lengthenPointer p.2.1) + p.2.2)))
    (hv : (s.entryOf (s.lengthenPointer (s.wordAt (s.lengthenPointer p.2.1) + p.2.2 + 1))).isVacant = true) :
    s.execFaults p.1 .pageFault (s.lengthenPointer (s.wordAt (s.lengthenPointer p.2.1) + p.2.2 + 1))
      (s.reads [s.lengthenPointer p.2.1, s.lengthenPointer (s.wordAt (s.lengthenPointer p.2.1) + p.2.2)]) :=
  (exec_shortDoubleIndirects s pair p hp).trans <| through_short_fault hu h <| .after (fetchMds_second s.stack s.sp hu h h') <|
    .bind (fetchMds_faults_after hu (State.readableAll_pair.2 ⟨h, h'⟩) (State.faultsAt_of_vacant _ hv))

theorem wlip_locked (h : s.readable (s.lengthenPointer (s.lf + nibbleWord pair.left)))
    (hf : s.faultsAt .write (s.lengthenPointer (s.wordAt (s.lengthenPointer (s.lf + nibbleWord pair.left)) + nibbleWord pair.right))
      .writeProtectFault) :
    s.execFaults (.wlip pair) .writeProtectFault
      (s.lengthenPointer (s.wordAt (s.lengthenPointer (s.lf + nibbleWord pair.left)) + nibbleWord pair.right))
      (s.reads [s.lengthenPointer (s.lf + nibbleWord pair.left)]) :=
  through_short_fault hu h (storeMdsPop_faults_after hu (State.readableAll_single.2 h) hf)

/-! Through a long pointer: its first word, its second, and what it leads to. -/

theorem longIndirects_first {p : Instr × Word} (hp : p ∈ (.wldilp pair, s.lf + nibbleWord pair.left) :: longIndirects s pair f)
    (hv : (s.entryOf (s.lengthenPointer p.2)).isVacant = true) : s.execFaults p.1 .pageFault (s.lengthenPointer p.2) s := by
  have hf : Faults .pageFault (s.lengthenPointer p.2) s (readDblMds p.2) s :=
    .getThen (.bind (fetch_faults hu rfl (State.faultsAt_of_vacant _ hv)))
  rcases List.mem_cons.1 hp with rfl | hp
  · exact hf.bind.complete
  · obtain ⟨m, he, -⟩ := exec_longIndirects pair f hu p hp
    exact he.trans hf.bind.complete

theorem longIndirects_second {p : Instr × Word} (hp : p ∈ (.wldilp pair, s.lf + nibbleWord pair.left) :: longIndirects s pair f) :
    s.secondLoadFaults p.1 (s.lengthenPointer p.2) (s.lengthenPointer p.2 + 1) := fun h hv => by
  have hf := readDblMds_second (n := s.sp) hu h (State.faultsAt_of_vacant _ hv)
  rcases List.mem_cons.1 hp with rfl | hp
  · exact hf.bind.complete
  · obtain ⟨m, he, -⟩ := exec_longIndirects pair f hu p hp
    exact he.trans hf.bind.complete

theorem longIndirects_third {p : Instr × Word} (hp : p ∈ longIndirects s pair f)
    (hr : s.readableAll [s.lengthenPointer p.2, s.lengthenPointer p.2 + 1])
    (hv : (s.entryOf (s.longAt (s.lengthenPointer p.2) + nibbleLong pair.right)).isVacant = true) :
    s.execFaults p.1 .pageFault (s.longAt (s.lengthenPointer p.2) + nibbleLong pair.right)
      (s.reads [s.lengthenPointer p.2, s.lengthenPointer p.2 + 1]) := by
  obtain ⟨m, he, hm⟩ := exec_longIndirects pair f hu p hp
  exact he.trans (through_long_fault hu hr (hm _ _ hr hv))

section Long
variable {k : FaultKind} {ptr : Word} {offset : Long} (hr : s.readableAll [s.lengthenPointer ptr, s.lengthenPointer ptr + 1])
include hr

theorem rldilp_second (h : s.readable (s.longAt (s.lengthenPointer ptr) + offset))
    (hf : s.faultsAt .read (s.longAt (s.lengthenPointer ptr) + offset + 1) k) :
    complete (do let p ← readDblMds ptr; readDoubleLong (p + offset)) s =
      .next (takeException (.fault k (s.longAt (s.lengthenPointer ptr) + offset + 1))
        ((s.reads [s.lengthenPointer ptr, s.lengthenPointer ptr + 1]).touch (s.longAt (s.lengthenPointer ptr) + offset) .read)) :=
  through_long_fault hu hr <| .after (fetch_reads hu hr s.stack s.sp h) <|
    .bind (fetch_faults_after hu (State.readableAll_append.2 ⟨hr, State.readableAll_single.2 h⟩) hf)

theorem wlilp_fault (hf : s.faultsAt .write (s.longAt (s.lengthenPointer ptr) + offset) k) :
    complete (do let p ← readDblMds ptr; storePop (p + offset)) s =
      .next (takeException (.fault k (s.longAt (s.lengthenPointer ptr) + offset))
        (s.reads [s.lengthenPointer ptr, s.lengthenPointer ptr + 1])) :=
  through_long_fault hu hr (storePop_faults_after hu hr hf)

theorem wldilp_fault (hf : s.faultsAt .write (s.longAt (s.lengthenPointer ptr) + offset + 1) k) :
    complete (do let p ← readDblMds ptr; storeDoubleLong (p + offset)) s =
      .next (takeException (.fault k (s.longAt (s.lengthenPointer ptr) + offset + 1))
        (s.reads [s.lengthenPointer ptr, s.lengthenPointer ptr + 1])) :=
  through_long_fault hu hr (.bind (storePop_faults_after hu hr hf))

theorem wldilp_second {base : Nat} {a b : Word} (hs : s.holds base [a, b])
    (h : s.storable (s.longAt (s.lengthenPointer ptr) + offset + 1))
    (hf : s.faultsAt .write (s.longAt (s.lengthenPointer ptr) + offset) k) :
    complete (do let p ← readDblMds ptr; storeDoubleLong (p + offset)) s =
      .next (takeException (.fault k (s.longAt (s.lengthenPointer ptr) + offset))
        ((s.reads [s.lengthenPointer ptr, s.lengthenPointer ptr + 1]).storeWord
          (s.longAt (s.lengthenPointer ptr) + offset + 1) b)) :=
  through_long_fault hu hr (storeDoubleLong_second hu hr hs h hf)

end Long

end Indirect

end Sys2Proof.Machine
end

section
/-! Loads and stores through a pointer on the stack, by the access that faults (43_immediate_frame.md R361; 44_pointer.md R422 to R444;
45_string_field.md R480 to R524). -/

namespace Sys2Proof.Machine

theorem overheadOffsetWellFormed_of_range {alpha : Byte} (h1 : 1 ≤ alpha.toNat) (h4 : alpha.toNat ≤ 4) :
    overheadOffsetWellFormed alpha = true := by
  simp [overheadOffsetWellFormed, h1, h4]

section Loads
variable {s : State} (hu : s.undisturbed) {k : FaultKind} {base : Nat} {ws : List Word} {a b c : Word}
include hu

theorem direct_load_fault {offset q : Word} {m : Word → Word → Act Unit} (hs : s.holds base (ws ++ [b])) (hq : b + offset = q)
    (hv : (s.entryOf (s.lengthenPointer q)).isVacant = true) :
    complete (do let ptr ← pop; let w ← fetchMds (ptr + offset); m ptr w) s =
      .next (takeException (.fault .pageFault (s.lengthenPointer q)) s) := by
  subst hq
  exact Faults.complete (.popThen hs fun _ => .bind (fetchMds_faults hu rfl (State.faultsAt_of_vacant _ hv)))

theorem direct_long_load_fault {offset x : Long} {m : Long → Word → Act Unit} (hs : s.holds base (ws ++ [a, b]))
    (hx : Long.ofHalves b a + offset = x) (hv : (s.entryOf x).isVacant = true) :
    complete (do let ptr ← popLong; let w ← fetch (ptr + offset); m ptr w) s = .next (takeException (.fault .pageFault x) s) := by
  subst hx
  exact Faults.complete (.popLongThen hs fun _ => .bind (fetch_faults hu rfl (State.faultsAt_of_vacant _ hv)))

theorem direct_double_second {offset q : Word} (hs : s.holds base (ws ++ [b])) (hq : b + offset = q) :
    s.readable (s.lengthenPointer q) → (s.entryOf (s.lengthenPointer (q + 1))).isVacant = true →
    complete (readDirectDouble offset) s =
      .next (takeException (.fault .pageFault (s.lengthenPointer (q + 1))) (s.reads [s.lengthenPointer q])) := fun h hv => by
  subst hq
  exact Faults.complete (.popThen hs fun _ => readDoubleMds_second hu h (State.faultsAt_of_vacant _ hv))

theorem direct_long_double_second {offset x : Long} (hs : s.holds base (ws ++ [a, b])) (hx : Long.ofHalves b a + offset = x) :
    s.readable x → (s.entryOf (x + 1)).isVacant = true →
    complete (readDirectDoubleLong offset) s = .next (takeException (.fault .pageFault (x + 1)) (s.reads [x])) := fun h hv => by
  subst hx
  exact Faults.complete (.popLongThen hs fun _ => readDoubleLong_second hu h (State.faultsAt_of_vacant _ hv))

theorem writeDirect_fault {offset q : Word} (hs : s.holds base (ws ++ [b])) (hq : b + offset = q) (k : FaultKind)
    (h : s.faultsAt .write (s.lengthenPointer q) k) :
    complete (writeDirect offset) s = .next (takeException (.fault k (s.lengthenPointer q)) s) := by
  subst hq
  exact Faults.complete (.popThen hs fun _ => storeMdsPop_faults hu rfl h)

theorem readFieldDirect_fault {f : FieldSpec} {offset q : Word} (hs : s.holds base (ws ++ [b])) (hq : b + offset = q)
    (hv : (s.entryOf (s.lengthenPointer q)).isVacant = true) :
    complete (readFieldDirect offset f) s = .next (takeException (.fault .pageFault (s.lengthenPointer q)) s) := by
  subst hq
  exact Faults.complete (.popThen hs fun _ => .getThen (.bind (.bind (fetch_faults hu rfl (State.faultsAt_of_vacant _ hv)))))

theorem readFieldDirectLong_fault {f : FieldSpec} {n : Nat} {offset x : Long} (hs : { s with sp := n }.holds base (ws ++ [a, b]))
    (hx : Long.ofHalves b a + offset = x) (hv : (s.entryOf x).isVacant = true) :
    Faults .pageFault x s (readFieldDirectLong offset f) { s with sp := n } := by
  subst hx
  exact Faults.popLongThen hs fun _ => .bind (.bind (fetch_faults hu rfl (State.faultsAt_of_vacant _ hv)))

end Loads

/-! Two words stored under a short pointer (R441, R442). -/

section PutSwapped
variable {s : State} (hu : s.undisturbed) {k : FaultKind} {base : Nat} {a b c offset q : Word} (hs : s.holds base [a, b, c])
  (hq : a + offset = q)
include hu hs hq

theorem putSwappedDouble_fault (k : FaultKind) (h : s.faultsAt .write (s.lengthenPointer (q + 1)) k) :
    complete (putSwappedDouble offset) s = .next (takeException (.fault k (s.lengthenPointer (q + 1))) s) := by
  subst hq
  exact Faults.complete (.popThen (ws := [a, b]) hs fun hs => .popThen (ws := [a]) hs fun hs => .popThen (ws := []) hs fun _ =>
    .bind (storeMds_faults hu rfl c h))

theorem putSwappedDouble_second (h : s.storable (s.lengthenPointer (q + 1))) (hf : s.faultsAt .write (s.lengthenPointer q) k) :
    complete (putSwappedDouble offset) s =
      .next (takeException (.fault k (s.lengthenPointer q)) (s.storeWord (s.lengthenPointer (q + 1)) c)) := by
  subst hq
  exact Faults.complete (.popThen (ws := [a, b]) hs fun hs => .popThen (ws := [a]) hs fun hs => .popThen (ws := []) hs fun _ =>
    storeMds_second hu h hf)

end PutSwapped

/-! A field or a byte: its word is loaded, then stored. -/

section Updates
variable {s : State} {i : Instr} {n : Nat}

theorem updateFaults_of_storeField (hu : s.undisturbed) {va : Long} {f : FieldSpec} {data : Word}
    (hi : ∀ k t, Faults k va t (storeField va f data) (s.stacked s.stack n) → s.execFaults i k va t) :
    s.updateFaults f.wellFormed i va :=
  ⟨fun hv => hi _ _ (storeField_faults_read hu (State.faultsAt_of_vacant _ hv)),
    fun h hf hl => hi _ _ (storeField_faults_write hu h hl hf)⟩

theorem updateFaults_of_storeByte (hu : s.undisturbed) {base offset : Long} {v : Byte}
    (hi : ∀ k t, Faults k (byteAddress base offset) t (storeByte base offset v) (s.stacked s.stack n) →
      s.execFaults i k (byteAddress base offset) t) : s.updateFaults true i (byteAddress base offset) :=
  ⟨fun hv => hi _ _ (storeByte_faults_read hu (State.faultsAt_of_vacant _ hv)),
    fun h hf _ => hi _ _ (storeByte_faults_write hu h hf)⟩

theorem State.updateFaults.mono {legal legal' : Bool} {va : Long} (hl : legal' = true → legal = true)
    (h : s.updateFaults legal i va) : s.updateFaults legal' i va :=
  ⟨h.1, fun hr hf hl' => h.2 hr hf (hl hl')⟩

variable {k : FaultKind} {t : State} {base : Nat} {a b c : Word} {f : FieldSpec}

theorem writeFieldDirect_faults {offset q : Word} (hs : s.holds base [a, b]) (hq : b + offset = q)
    (h : Faults k (s.lengthenPointer q) t (storeField (s.lengthenPointer q) f a) (s.stacked s.stack base)) :
    Faults k (s.lengthenPointer q) t (writeFieldDirect offset f) s := by
  subst hq
  exact .popThen (ws := [a]) hs fun hs => .popThen (ws := []) hs fun _ => .getThen h

theorem writeFieldSwapped_faults {offset q : Word} (hs : s.holds base [a, b]) (hq : a + offset = q)
    (h : Faults k (s.lengthenPointer q) t (storeField (s.lengthenPointer q) f b) (s.stacked s.stack base)) :
    Faults k (s.lengthenPointer q) t (writeFieldSwapped offset f) s := by
  subst hq
  exact .popThen (ws := [a]) hs fun hs => .popThen (ws := []) hs fun _ => .getThen h

theorem writeFieldDirectLong_faults {offset x : Long} (hs : { s with sp := n }.holds base [a, b, c])
    (hx : Long.ofHalves c b + offset = x) (h : Faults k x t (storeField x f a) (s.stacked s.stack base)) :
    Faults k x t (writeFieldDirectLong offset f) { s with sp := n } := by
  subst hx
  exact .popLongThen (ws := [a]) hs fun hs => .popThen (ws := []) hs fun _ => h

end Updates

end Sys2Proof.Machine
end

section
/-! MemoryFaults, put together. -/

namespace Sys2Proof.Machine

/-- Settles O41: each instruction by the routine that faults and by the accesses that this routine has made before. -/
theorem memoryFaults : Obligations.MemoryFaults := by
  intro s base a b c e alpha pair f d hu va plus long longPlus locals globals right string longString vacant locked faults legal
    loads doubleLoads stores doubleStores doubleThroughShort throughShort throughLong far pointed reads writes readsThenWrites
    readsSecond storesSecond
  have unmapped {x} (act : Access) (h : vacant x) : s.faultsAt act x .pageFault := .inl ⟨h, rfl⟩
  have guarded {x} (h : locked x) : s.faultsAt .write x .writeProtectFault := .inr ⟨rfl, h.1, h.2, rfl⟩
  have writesOf {ps} (h : s.storesFault ps) : writes ps :=
    ⟨fun p hp hv => h p hp _ (unmapped _ hv), fun p hp hl => h p hp _ (guarded hl)⟩
  have updatesOf {ok : Bool} {ps : List (Instr × Long)} (h : ∀ p ∈ ps, s.updateFaults ok p.1 p.2) : readsThenWrites ok ps :=
    ⟨fun p hp hv => (h p hp).1 hv, fun p hp hr hl hok => (h p hp).2 hr (guarded hl) hok⟩
  have secondOf {i t x y w} (h : s.secondStoreFaults i t x y w) : storesSecond i t x y w := fun hy =>
    ⟨fun hv => h hy _ (unmapped _ hv), fun hl => h hy _ (guarded hl)⟩
  have add0 (w : Word) : w + 0 = w := BitVec.add_zero w
  have addLong0 (u : Long) : u + 0 = u := BitVec.add_zero u
  have fields : legal = true → f.wellFormed = true ∧ d.field.wellFormed = true := Bool.and_eq_true_iff.1
  refine ⟨⟨?loads, shortIndirects_first hu, writesOf ?stores, writesOf ?doubleStores⟩,
    fun hr p hp h hv => frameDoubleLoads_second alpha hu hp hr h (unmapped _ hv), fun p hp => shortIndirects_second hu hp,
    fun h hl => wlip_locked hu h (guarded hl), fun p hp h h' hv => shortIndirects_third hu hp h h' hv,
    fun p hp => longIndirects_second hu hp, fun p hp => longIndirects_third hu hp, fun hr => ?throughLong,
    fun hs => ?two, fun hs => ?three, fun hs => ?four⟩
  case loads =>
    refine List.forall_mem_map.2 fun p hp hv => ?_
    rcases List.mem_append.1 hp with hp | hp
    · exact frameLoads_fault alpha hu (List.mem_append.1 hp) (unmapped _ hv)
    · exact longIndirects_first hu hp hv
  case stores => exact List.forall_mem_map.2 fun p hp k h => frameStores_fault alpha hu hp h
  case doubleStores =>
    exact List.forall_mem_map.2 fun p hp k h => frameDoubleStores_fault alpha hp (.bind (storeMdsPop_faults hu rfl h))
  case throughLong =>
    exact ⟨fun h hv => rldilp_second hu hr h (unmapped _ hv), fun hl => wlilp_fault hu hr (guarded hl),
      fun hv => wldilp_fault hu hr (unmapped _ hv), fun hl => wldilp_fault hu hr (guarded hl),
      fun hs => secondOf fun h k hf => wldilp_second hu hr hs h hf⟩
  case two =>
    refine ⟨?loads, direct_double_second (ws := [a]) hu hs (add0 b), direct_double_second (ws := [a]) hu hs rfl,
      direct_long_double_second (ws := []) hu hs (addLong0 _), direct_long_double_second (ws := []) hu hs rfl,
      writesOf ?stores, updatesOf ?updates,
      fun p hp => secondOf fun h k hf => frameDoubleStores_fault alpha hp (storeDoubleMds_second hu hs h hf),
      fun h1 h4 => ⟨?rob, writesOf ?wob⟩, fun hb => ?rc, fun hb => ?rcfs⟩
    all_goals try simp only [reads, State.storesFault, List.forall_mem_cons, List.not_mem_nil, false_imp_iff, implies_true, and_true]
    case loads =>
      exact ⟨direct_load_fault (ws := [a]) hu hs (add0 b), direct_load_fault (ws := [a]) hu hs rfl,
        direct_load_fault (ws := [a]) hu hs rfl, direct_long_load_fault (ws := []) hu hs (addLong0 _),
        direct_long_load_fault (ws := []) hu hs rfl,
        direct_load_fault (ws := [a]) hu hs (add0 b), direct_load_fault (ws := [a]) hu hs rfl,
        direct_long_load_fault (ws := []) hu hs (addLong0 _), direct_long_load_fault (ws := []) hu hs rfl,
        fun hv => Faults.complete (.popThen (ws := [a]) hs fun hs => .popThen (ws := []) hs fun _ =>
          .bind (.bind (fetch_faults hu rfl (unmapped _ hv)))),
        readFieldDirect_fault (ws := [a]) hu hs rfl, readFieldDirect_fault (ws := [a]) hu hs (add0 b),
        fun hv => (readFieldDirectLong_fault (ws := []) hu hs rfl hv).complete,
        fun hv => (readFieldDirectLong_fault (ws := []) hu hs (addLong0 _) hv).complete⟩
    case stores =>
      exact ⟨writeDirect_fault (ws := [a]) hu hs (add0 b), writeDirect_fault (ws := [a]) hu hs rfl,
        fun k h => Faults.complete (.popThen (ws := [a]) hs fun hs => .popThen (ws := []) hs fun _ =>
          .bind (storeMds_faults hu rfl _ h))⟩
    case updates =>
      exact ⟨.mono (fun hl => (fields hl).2) (updateFaults_of_storeField hu fun k t h => (writeFieldDirect_faults hs rfl h).complete),
        .mono (fun hl => (fields hl).1) (updateFaults_of_storeField hu fun k t h => (writeFieldDirect_faults hs (add0 b) h).complete),
        .mono (fun hl => (fields hl).1) (updateFaults_of_storeField hu fun k t h => (writeFieldSwapped_faults hs (add0 a) h).complete),
        .mono (fun hl => (fields hl).1)
          (updateFaults_of_storeField hu fun k t h => (writeFieldSwapped_faults hs (add0 a) h).bind.complete),
        .mono (fun hl => (fields hl).2) (updateFaults_of_storeField hu fun k t h => (writeFieldSwapped_faults hs rfl h).bind.complete)⟩
    case rob =>
      exact fun hv => Faults.complete (.popThen (ws := [a]) hs fun _ => .pos (overheadOffsetWellFormed_of_range h1 h4) <|
        .getThen (.bind (fetchOverhead_faults hu rfl (unmapped _ hv))))
    case wob =>
      exact fun k h => Faults.complete (.popThen (ws := [a]) hs fun _ => .pos (overheadOffsetWellFormed_of_range h1 h4) <|
        .getThen (storeOverheadPop_faults hu rfl h))
    case rc => exact fun hv => Faults.complete (.popThen (ws := [a]) hs fun _ => .bind (readCode_faults hu hb (unmapped _ hv)))
    case rcfs =>
      exact fun hv => Faults.complete (.popThen (ws := [a]) hs fun hs => .popThen (ws := []) hs fun _ =>
        .bind (readCode_faults hu hb (unmapped _ hv)))
  case three =>
    refine ⟨?loads, writesOf ?stores, secondOf fun h k hf => ?wdb, secondOf fun h k hf => putSwappedDouble_second hu hs (add0 a) h hf,
      secondOf fun h k hf => putSwappedDouble_second hu hs rfl h hf, updatesOf ?string, updatesOf ?updates⟩
    all_goals try simp only [reads, State.storesFault, List.forall_mem_cons, List.not_mem_nil, false_imp_iff, implies_true, and_true]
    case loads =>
      exact ⟨fun hv => Faults.complete (.popThen (ws := [a, b]) hs fun hs => .popLongThen (ws := []) hs fun _ =>
          .bind (.bind (fetch_faults hu rfl (unmapped _ hv)))),
        fun hv => Faults.complete (.popThen (ws := [a, b]) hs fun hs => readFieldDirectLong_fault (ws := []) hu hs rfl hv)⟩
    case stores =>
      exact ⟨fun k h => Faults.complete (.popLongThen (ws := [a]) hs fun _ => storePop_faults hu rfl h),
        fun k h => Faults.complete (.popThen (ws := [a, b]) hs fun _ => .bind (storeMdsPop_faults hu rfl h)),
        putSwappedDouble_fault hu hs (add0 a), putSwappedDouble_fault hu hs rfl,
        fun k h => Faults.complete (.popThen (ws := [a, b]) hs fun hs => .popLongThen (ws := []) hs fun _ =>
          .bind (store_faults hu rfl _ h))⟩
    case wdb => exact Faults.complete (.popThen (ws := [a, b]) hs fun hs => storeDoubleMds_second hu hs h hf)
    case string =>
      exact updateFaults_of_storeByte hu fun k t h => Faults.complete (.popThen (ws := [a, b]) hs fun hs =>
        .popThen (ws := [a]) hs fun hs => .popThen (ws := []) hs fun _ => h)
    case updates =>
      exact ⟨.mono (fun hl => (fields hl).2) (updateFaults_of_storeField hu fun k t h => (writeFieldDirectLong_faults hs rfl h).complete),
        .mono (fun hl => (fields hl).1)
          (updateFaults_of_storeField hu fun k t h => (writeFieldDirectLong_faults hs (addLong0 _) h).complete),
        .mono (fun hl => (fields hl).2) (updateFaults_of_storeField hu fun k t h => Faults.complete (.popThen (ws := [a, b]) hs fun hs =>
          .popLongThen (ws := []) hs fun _ => h.bind))⟩
  case four =>
    refine ⟨writesOf ?stores, secondOf fun h k hf => ?wdlb, secondOf fun h k hf => ?psdlb, updatesOf ?string, updatesOf ?updates⟩
    all_goals try simp only [State.storesFault, List.forall_mem_cons, List.not_mem_nil, false_imp_iff, implies_true, and_true]
    case stores =>
      exact ⟨fun k h => Faults.complete (.popLongThen (ws := [a, b]) hs fun _ => .bind (storePop_faults hu rfl h)),
        fun k h => Faults.complete (.popThen (ws := [a, b, c]) hs fun hs => .popThen (ws := [a, b]) hs fun hs =>
          .popLongThen (ws := []) hs fun _ => .bind (store_faults hu rfl _ h))⟩
    case wdlb =>
      exact Faults.complete (.popLongThen (ws := [a, b]) hs fun hs =>
        storeDoubleLong_second (vas := []) hu ((State.readableAll_nil s).2 trivial) hs h hf)
    case psdlb =>
      exact Faults.complete (.popThen (ws := [a, b, c]) hs fun hs => .popThen (ws := [a, b]) hs fun hs =>
        .popLongThen (ws := []) hs fun _ => store_second hu h hf)
    case string =>
      exact updateFaults_of_storeByte hu fun k t h => Faults.complete (.popThen (ws := [a, b, c]) hs fun hs =>
        .popLongThen (ws := [a]) hs fun hs => .popThen (ws := []) hs fun _ => h)
    case updates =>
      exact updateFaults_of_storeField hu fun k t h => Faults.complete (.popThen (ws := [a, b, c]) hs fun hs =>
        writeFieldDirectLong_faults hs rfl h)

end Sys2Proof.Machine
end

section
/-! SUPPORT. Routines that store to given words of memory only, whether they succeed or raise (20_memory.md R113, R137). -/

namespace Sys2Proof.Machine

/-- `u` is `s` but for `SP`, `PC`, the record of an exception, the flags of the map, the words at `vas` and the model's own counts and
records. -/
structure State.StoresTo (s : State) (vas : List Long) (u : State) : Prop where
  frame : u = { s with
    sp := u.sp, pc := u.pc, map := u.map, mem := u.mem, codeWrites := u.codeWrites, exception := u.exception
    freeIndex := u.freeIndex }
  pages : s.SamePages u
  bytes : ∀ a, (∀ va ∈ vas, ¬ s.inWord va a) → u.byteAt a = s.byteAt a

namespace State.StoresTo
variable {s u : State} {vas : List Long} {va : Long}

theorem refl (s : State) (vas : List Long) : s.StoresTo vas s := ⟨rfl, .refl s, fun _ _ => rfl⟩

theorem sp (h : s.StoresTo vas u) (n : Nat) : s.StoresTo vas { u with sp := n } :=
  ⟨by rw [h.frame], fun vp => h.pages vp, h.bytes⟩

theorem touch {a : Access} (h : s.StoresTo vas u) (ha : u.accessible va a) : s.StoresTo vas (u.touch va a) where
  frame := by
    obtain ⟨m, n, ht⟩ := u.touch_cases va a
    rw [ht, h.frame]
  pages := h.pages.trans (.touch ha)
  bytes b hb := by rw [State.byteAt, State.touch_mem]; exact h.bytes b hb

theorem storeWord (h : s.StoresTo vas u) (hva : va ∈ vas) (hw : u.writable va) (w : Word) : s.StoresTo vas (u.storeWord va w) where
  frame := by
    rw [State.storeWord, State.putWord, (h.touch hw.accessible).frame]
  pages := h.pages.trans (.storeWord hw w)
  bytes b hb := (u.byteAt_storeWord w (by rw [h.pages.inWord]; exact hb va hva)).trans (h.bytes b hb)

theorem takeException (h : s.StoresTo vas u) (e : Exception) : s.StoresTo vas (takeException e u) := by
  cases e <;> exact ⟨by rw [h.frame]; rfl, fun vp => h.pages vp, h.bytes⟩

theorem undisturbed (h : s.StoresTo vas u) (hu : s.undisturbed) : u.undisturbed := by rw [h.frame]; exact hu

theorem lengthenPointer (h : s.StoresTo vas u) (ptr : Word) : u.lengthenPointer ptr = s.lengthenPointer ptr :=
  lengthenPointer_congr (by rw [h.frame]) ptr

end State.StoresTo

/-! Every path of a routine, from any state that has stored to these words only. -/

/-- What has stored to `vas` only still has. -/
def StoreRel (s : State) (vas : List Long) (u v : State) : Prop := s.StoresTo vas u → s.StoresTo vas v

/-- Everything `storeOverheadPop` can do, with no device acting. -/
theorem storeOverheadPop_cases {s : State} (hu : s.undisturbed) (va : Long) :
    (s.writable va ∧
        storeOverheadPop va s = .ok () { s.storeWord va (s.stack.getD (s.sp - 1) 0) with sp := s.sp - 1 }) ∨
      (∃ e, storeOverheadPop va s = .error e s) ∨
      (s.accessible va .write ∧ ∃ e, storeOverheadPop va s = .error e (s.touch va .write)) := by
  rcases translate_cases s va .write with ⟨ha, ht⟩ | ⟨k, ht⟩
  · by_cases hr : s.cfg.realPage (s.realAddress va / 256) = true
    · have hw : s.writable va := ⟨⟨ha.1, hr⟩, ha.2 rfl⟩
      by_cases h0 : s.sp = 0
      · refine .inr (.inr ⟨ha, .stackError, ?_⟩)
        simp [storeOverheadPop, hu.turn, ht, checkReal, hr, pop_empty (s := s.touch va .write) (by simpa using h0)]
      · exact .inl ⟨hw, storeOverheadPop_ok hu hw h0⟩
    · exact .inr (.inr ⟨ha, .refused .realMemoryGap, by simp [storeOverheadPop, hu.turn, ht, checkReal, hr]⟩)
  · exact .inr (.inl ⟨_, by simp [storeOverheadPop, hu.turn, ht]; rfl⟩)

namespace StoreRel
variable {s : State} {vas : List Long}

theorem refl (u : State) : StoreRel s vas u u := id

theorem trans (u v w : State) (h : StoreRel s vas u v) (h' : StoreRel s vas v w) : StoreRel s vas u w := fun hu => h' (h hu)

theorem bind {α β : Type} {m : Act α} {f : α → Act β} (hm : Keeps (StoreRel s vas) m) (hf : ∀ a, Keeps (StoreRel s vas) (f a)) :
    Keeps (StoreRel s vas) (m >>= f) := keeps_bind trans hm hf

theorem pure {α : Type} (a : α) : Keeps (StoreRel s vas) (pure a : Act α) := keeps_pure refl a

theorem refuse {α : Type} (r : Refusal) : Keeps (StoreRel s vas) (refuse r : Act α) := keeps_throw refl _

theorem pop : Keeps (StoreRel s vas) pop := fun u h => by
  by_cases h0 : u.sp = 0
  · rw [pop_empty h0]; exact h
  · rw [pop_ok h0]; exact h.sp _

theorem popLong : Keeps (StoreRel s vas) popLong := bind pop fun _ => bind pop fun _ => pure _

theorem recover : Keeps (StoreRel s vas) recover := fun u h => by
  by_cases hl : u.sp < u.stack.length
  · rw [recover_ok hl]; exact h.sp _
  · rw [recover_full hl]; exact h

section Accesses
variable (hu : s.undisturbed)
include hu

theorem fetch (va : Long) : Keeps (StoreRel s vas) (fetch va) := fun u h => by
  have hf := fetch_cases u va
  rw [(h.undisturbed hu).turn] at hf
  rcases hf with ⟨hr, hf⟩ | ⟨-, hf⟩ | ⟨hv, r, hf⟩ <;> rw [hf]
  · exact h.touch hr.accessible
  · exact h
  · exact h.touch ⟨hv, nofun⟩

variable {va : Long} (hva : va ∈ vas)
include hva

theorem store (w : Word) : Keeps (StoreRel s vas) (store va w) := fun u h => by
  have hs := store_cases u va w
  rw [(h.undisturbed hu).turn] at hs
  rcases hs with ⟨hw, hs⟩ | ⟨k, hs⟩ | ⟨ha, r, hs⟩ <;> rw [hs]
  · exact h.storeWord hva hw.1 w
  · exact h
  · exact h.touch ha

theorem storePop : Keeps (StoreRel s vas) (storePop va) := fun u h => by
  have hs := storePop_cases u va
  rw [(h.undisturbed hu).turn] at hs
  rcases hs with ⟨hw, -, hs⟩ | ⟨hw, -, hs⟩ | ⟨k, hs⟩ | ⟨ha, r, hs⟩ <;> rw [hs]
  · exact (h.storeWord hva hw.1 _).sp _
  · exact h.touch hw.1.accessible
  · exact h
  · exact h.touch ha

theorem storeOverheadPop : Keeps (StoreRel s vas) (storeOverheadPop va) := fun u h => by
  rcases storeOverheadPop_cases (h.undisturbed hu) va with ⟨hw, hs⟩ | ⟨e, hs⟩ | ⟨ha, e, hs⟩ <;> rw [hs]
  · exact (h.storeWord hva hw _).sp _
  · exact h
  · exact h.touch ha

omit hva in
theorem storeMds {ptr : Word} (w : Word) (hp : s.lengthenPointer ptr ∈ vas) : Keeps (StoreRel s vas) (storeMds ptr w) := fun u h => by
  rw [storeMds_eq, h.lengthenPointer]
  exact store hu hp w u h

omit hva in
theorem storeMdsPop {ptr : Word} (hp : s.lengthenPointer ptr ∈ vas) : Keeps (StoreRel s vas) (storeMdsPop ptr) := fun u h => by
  rw [storeMdsPop_eq, h.lengthenPointer]
  exact storePop hu hp u h

end Accesses

end StoreRel

end Sys2Proof.Machine
end

section
/-! The storing instructions change no byte outside the words they store to (20_memory.md R113, R137; 43_immediate_frame.md R360;
45_string_field.md R503). -/

namespace Sys2Proof.Machine

/-- From the state `u` the routine ends, however it ends, with no more stored to than `vas`, as seen from `s`. -/
def Ends {α : Type} (s : State) (vas : List Long) (m : Act α) (u : State) : Prop := s.StoresTo vas (endState (m u))

namespace Ends
variable {α β : Type} {s u : State} {vas : List Long} {m : Act α} {f : α → Act β}

theorem complete {m : Act Unit} {t : State} (hc : complete m s = .next t) (h : Ends s vas m s) : s.StoresTo vas t := by
  rcases complete_cases hc with hm | ⟨e, u, hm, rfl⟩
  · rwa [Ends, hm] at h
  · rw [Ends, hm] at h
    exact h.takeException e

theorem bind (h : Ends s vas m u) (hf : ∀ a t, m u = .ok a t → Ends s vas (f a) t) : Ends s vas (m >>= f) u := by
  rw [Ends, act_bind]
  cases hm : m u with
  | ok a t => exact hf a t hm
  | error e t => rwa [Ends, hm] at h

theorem andThen (h : Ends s vas m u) (hf : ∀ a, Keeps (StoreRel s vas) (f a)) : Ends s vas (m >>= f) u :=
  bind h fun a t hm => by
    rw [Ends, hm] at h
    exact hf a t h

theorem getThen {f : State → Act β} (h : Ends s vas (f u) u) : Ends s vas (get >>= f) u := h

variable {n : Nat}

/-- What any path of the routine does, with any number of words popped. -/
theorem keeps (h : Keeps (StoreRel s vas) m) : Ends s vas m { s with sp := n } := h _ ((State.StoresTo.refl s vas).sp n)

theorem popThen {f : Word → Act β} (h : Ends s vas (f (s.stack.getD (n - 1) 0)) { s with sp := n - 1 }) :
    Ends s vas (pop >>= f) { s with sp := n } := by
  refine bind (keeps StoreRel.pop) fun a t hp => ?_
  by_cases h0 : n = 0
  · rw [pop_empty (s := { s with sp := n }) h0] at hp; cases hp
  · rw [pop_ok (s := { s with sp := n }) h0] at hp; cases hp; exact h

theorem popLongThen {f : Long → Act β}
    (h : Ends s vas (f (Long.ofHalves (s.stack.getD (n - 1) 0) (s.stack.getD (n - 2) 0))) { s with sp := n - 2 }) :
    Ends s vas (popLong >>= f) { s with sp := n } := by
  refine bind (keeps StoreRel.popLong) fun a t hp => ?_
  by_cases h2 : 2 ≤ n
  · rw [popLong_ok (s := { s with sp := n }) h2] at hp; cases hp; exact h
  · have hr : Removes 2 popLong := .popThen fun _ => .popThen fun _ => .nothing _
    obtain ⟨t', he⟩ := hr { s with sp := n } (by simpa using h2)
    rw [he] at hp; cases hp

/-- After a load the routine goes on with the word that is there. -/
theorem fetchThen (hu : s.undisturbed) (hq : s.StoresTo vas u) {va : Long} {f : Word → Act β}
    (h : u.readable va → Ends s vas (f (u.wordAt va)) (u.touch va .read)) : Ends s vas (fetch va >>= f) u := by
  refine bind (StoreRel.fetch hu va u hq) fun a t hf => ?_
  have hc := fetch_cases u va
  rw [(hq.undisturbed hu).turn, hf] at hc
  rcases hc with ⟨hr, hok⟩ | ⟨-, hno⟩ | ⟨-, r, hno⟩
  · cases hok; exact h hr
  · cases hno
  · cases hno

theorem fetchMdsThen (hu : s.undisturbed) {ptr : Word} {f : Word → Act β}
    (h : Keeps (StoreRel s vas) (f (s.wordAt (s.lengthenPointer ptr)))) : Ends s vas (fetchMds ptr >>= f) s :=
  have hs := State.StoresTo.refl s vas
  fetchThen (va := s.lengthenPointer ptr) hu hs fun hr => h _ (hs.touch hr.accessible)

/-- After the load of a long pointer the routine goes on with the pointer that is there. -/
theorem readDblMdsThen (hu : s.undisturbed) {ptr : Word} {f : Long → Act β}
    (h : Keeps (StoreRel s vas) (f (s.longAt (s.lengthenPointer ptr)))) : Ends s vas (readDblMds ptr >>= f) s := by
  have hs := State.StoresTo.refl s vas
  have two (va : Long) : (readDbl va >>= f) = (do let low ← fetch va; let high ← fetch (va + 1); f (Long.ofHalves high low)) := by
    simp [readDbl]
  have hd : Ends s vas (readDbl (s.lengthenPointer ptr) >>= f) s := by
    rw [two]
    refine fetchThen hu hs fun hr => fetchThen hu (hs.touch hr.accessible) fun hr' => ?_
    rw [State.wordAt_touch hr.accessible]
    exact h _ ((hs.touch hr.accessible).touch hr'.accessible)
  exact hd

end Ends

/-! The routines that store. -/

section Routines
variable {s : State} (hu : s.undisturbed) {ptr : Word} {va : Long}
include hu

theorem storeMdsPop_storesTo : Keeps (StoreRel s [s.lengthenPointer ptr]) (storeMdsPop ptr) :=
  StoreRel.storeMdsPop hu List.mem_cons_self

theorem storePop_storesTo : Keeps (StoreRel s [va]) (storePop va) := StoreRel.storePop hu List.mem_cons_self

theorem store_storesTo (w : Word) : Keeps (StoreRel s [va]) (store va w) := StoreRel.store hu List.mem_cons_self w

theorem storeDoubleMds_storesTo :
    Keeps (StoreRel s [s.lengthenPointer (ptr + 1), s.lengthenPointer ptr]) (storeDoubleMds ptr) :=
  StoreRel.bind (StoreRel.storeMdsPop hu List.mem_cons_self) fun _ =>
    StoreRel.storeMdsPop hu (List.mem_cons_of_mem _ List.mem_cons_self)

theorem storeDoubleLong_storesTo : Keeps (StoreRel s [va + 1, va]) (storeDoubleLong va) :=
  StoreRel.bind (StoreRel.storePop hu List.mem_cons_self) fun _ =>
    StoreRel.storePop hu (List.mem_cons_of_mem _ List.mem_cons_self)

theorem storeField_storesTo (f : FieldSpec) (data : Word) : Keeps (StoreRel s [va]) (storeField va f data) :=
  StoreRel.bind (StoreRel.fetch hu va) fun _ =>
    StoreRel.bind (keeps_ite (StoreRel.pure _) (StoreRel.refuse _)) fun _ => store_storesTo hu _

theorem storeByte_storesTo (base offset : Long) (b : Byte) :
    Keeps (StoreRel s [byteAddress base offset]) (storeByte base offset b) :=
  StoreRel.bind (StoreRel.fetch hu _) fun _ => store_storesTo hu _

end Routines

/-! The instructions, by the words that they pop and the address that they compute. -/

section Instructions
variable {s t : State} (hu : s.undisturbed)
include hu

theorem sl_storesTo {ptr : Word} (h : complete (storeMdsPop ptr) s = .next t) : s.StoresTo [s.lengthenPointer ptr] t :=
  Ends.complete h (.keeps (storeMdsPop_storesTo hu))

theorem pl_storesTo {ptr : Word} (h : complete (putMds ptr) s = .next t) : s.StoresTo [s.lengthenPointer ptr] t :=
  Ends.complete h (.keeps (StoreRel.bind (storeMdsPop_storesTo hu) fun _ => StoreRel.recover))

theorem sld_storesTo {ptr : Word} (h : complete (storeDoubleMds ptr) s = .next t) :
    s.StoresTo [s.lengthenPointer (ptr + 1), s.lengthenPointer ptr] t :=
  Ends.complete h (.keeps (storeDoubleMds_storesTo hu))

theorem pld_storesTo {ptr : Word} (h : complete (putDoubleMds ptr) s = .next t) :
    s.StoresTo [s.lengthenPointer (ptr + 1), s.lengthenPointer ptr] t :=
  Ends.complete h (.keeps (StoreRel.bind (storeDoubleMds_storesTo hu) fun _ => StoreRel.bind StoreRel.recover fun _ => StoreRel.recover))

theorem writeDirect_storesTo {offset q : Word} (hq : s.stack.getD (s.sp - 1) 0 + offset = q)
    (h : complete (writeDirect offset) s = .next t) : s.StoresTo [s.lengthenPointer q] t := by
  subst hq
  exact Ends.complete h (.popThen (.keeps (storeMdsPop_storesTo hu)))

theorem putSwappedDouble_storesTo {offset q : Word} (hq : s.stack.getD (s.sp - 1 - 2) 0 + offset = q)
    (h : complete (putSwappedDouble offset) s = .next t) : s.StoresTo [s.lengthenPointer (q + 1), s.lengthenPointer q] t := by
  subst hq
  exact Ends.complete h (.popThen (.popThen (.popThen (.keeps
    (StoreRel.bind (StoreRel.storeMds hu _ List.mem_cons_self) fun _ =>
      StoreRel.bind (StoreRel.storeMds hu _ (List.mem_cons_of_mem _ List.mem_cons_self)) fun _ => StoreRel.recover)))))

theorem writeFieldDirect_storesTo {f : FieldSpec} {offset q : Word} (hq : s.stack.getD (s.sp - 1) 0 + offset = q)
    (h : complete (writeFieldDirect offset f) s = .next t) : s.StoresTo [s.lengthenPointer q] t := by
  subst hq
  exact Ends.complete h (.popThen (.popThen (.getThen (.keeps (storeField_storesTo hu _ _)))))

theorem writeFieldSwapped_storesTo {f : FieldSpec} {offset q : Word} (hq : s.stack.getD (s.sp - 1 - 1) 0 + offset = q) :
    Ends s [s.lengthenPointer q] (writeFieldSwapped offset f) s := by
  subst hq
  exact .popThen (.popThen (.getThen (.keeps (storeField_storesTo hu _ _))))

theorem writeFieldDirectLong_storesTo {f : FieldSpec} {n : Nat} {offset x : Long}
    (hx : Long.ofHalves (s.stack.getD (n - 1) 0) (s.stack.getD (n - 2) 0) + offset = x) :
    Ends s [x] (writeFieldDirectLong offset f) { s with sp := n } := by
  subst hx
  exact .popLongThen (.popThen (.keeps (storeField_storesTo hu _ _)))

end Instructions

/-- The claim for every instruction of a list, by the words that it stores to. -/
theorem storesTo_all {s t : State} {ps : List (Instr × List Long)}
    (h : ∀ p ∈ ps, exec p.1 s = .next t → s.StoresTo p.2 t) : ∀ p ∈ ps, exec p.1 s = .next t →
      t = { s with
        sp := t.sp, pc := t.pc, map := t.map, mem := t.mem, codeWrites := t.codeWrites, exception := t.exception
        freeIndex := t.freeIndex } ∧
      ∀ a, (∀ va ∈ p.2, ¬ s.inWord va a) → t.byteAt a = s.byteAt a :=
  fun p hp he => ⟨(h p hp he).frame, (h p hp he).bytes⟩

/-- Settles O43: each instruction by the routine it comes to and by the address that it gives it. -/
theorem storeFrame : Obligations.StoreFrame := by
  intro s t alpha pair f d hu top two local0
  refine storesTo_all ?_
  simp only [List.forall_mem_cons, List.not_mem_nil, false_imp_iff, implies_true, and_true]
  have add0 (w : Word) : w + 0 = w := BitVec.add_zero w
  have addLong0 (u : Long) : u + 0 = u := BitVec.add_zero u
  have sl {ptr} (h : complete (storeMdsPop ptr) s = .next t) := sl_storesTo hu h
  have pl {ptr} (h : complete (putMds ptr) s = .next t) := pl_storesTo hu h
  have sld {ptr} (h : complete (storeDoubleMds ptr) s = .next t) := sld_storesTo hu h
  have pld {ptr} (h : complete (putDoubleMds ptr) s = .next t) := pld_storesTo hu h
  refine ⟨sl, sl, sl, sl, sl, sl, sl, sl, sl, sl, sl, sl, sl, pl, pl, pl, pl, pl, sld, sld, sld, sld, sld, sld, sld, sld, sld, sld,
    pld, pld, ?wob, writeDirect_storesTo hu (add0 _), writeDirect_storesTo hu rfl, ?wlb, ?wdb, ?wdlb, ?psb,
    putSwappedDouble_storesTo hu (add0 _), putSwappedDouble_storesTo hu rfl, ?pslb, ?psdlb, ?wlip, ?wlilp, ?wldilp, ?ws, ?wls,
    ?wf, ?w0f, ?wlf, ?wl0f, ?wlfs, ?ws0f, ?ps0f, ?psf, ?pslf⟩
  case wob =>
    exact fun h => Ends.complete h <| .popThen <| .keeps <| keeps_ite
      (keeps_get_bind fun u hq => by rw [hq.lengthenPointer]; exact StoreRel.storeOverheadPop hu List.mem_cons_self u hq)
      (StoreRel.refuse _)
  case wlb => exact fun h => Ends.complete h <| .popLongThen <| .keeps (storePop_storesTo hu)
  case wdb => exact fun h => Ends.complete h <| .popThen <| .keeps (storeDoubleMds_storesTo hu)
  case wdlb => exact fun h => Ends.complete h <| .popLongThen <| .keeps (storeDoubleLong_storesTo hu)
  case psb =>
    exact fun h => Ends.complete h <| .popThen <| .popThen <| .keeps <|
      StoreRel.bind (StoreRel.storeMds hu _ List.mem_cons_self) fun _ => StoreRel.recover
  case pslb =>
    exact fun h => Ends.complete h <| .popThen <| .popLongThen <| .keeps <|
      StoreRel.bind (store_storesTo hu _) fun _ => StoreRel.bind StoreRel.recover fun _ => StoreRel.recover
  case psdlb =>
    exact fun h => Ends.complete h <| .popThen <| .popThen <| .popLongThen <| .keeps <|
      StoreRel.bind (StoreRel.store hu List.mem_cons_self _) fun _ =>
      StoreRel.bind (StoreRel.store hu (List.mem_cons_of_mem _ List.mem_cons_self) _) fun _ =>
      StoreRel.bind StoreRel.recover fun _ => StoreRel.recover
  case wlip => exact fun h => Ends.complete h <| .fetchMdsThen hu (storeMdsPop_storesTo hu)
  case wlilp => exact fun h => Ends.complete h <| .readDblMdsThen hu (storePop_storesTo hu)
  case wldilp => exact fun h => Ends.complete h <| .readDblMdsThen hu (storeDoubleLong_storesTo hu)
  case ws => exact fun h => Ends.complete h <| .popThen <| .popThen <| .popThen <| .keeps (storeByte_storesTo hu _ _ _)
  case wls => exact fun h => Ends.complete h <| .popThen <| .popLongThen <| .popThen <| .keeps (storeByte_storesTo hu _ _ _)
  case wf => exact writeFieldDirect_storesTo hu rfl
  case w0f => exact writeFieldDirect_storesTo hu (add0 _)
  case wlf => exact fun h => Ends.complete h (writeFieldDirectLong_storesTo hu rfl)
  case wl0f => exact fun h => Ends.complete h (writeFieldDirectLong_storesTo hu (addLong0 _))
  case wlfs => exact fun h => Ends.complete h <| .popThen (writeFieldDirectLong_storesTo hu rfl)
  case ws0f => exact fun h => Ends.complete h (writeFieldSwapped_storesTo hu (add0 _))
  case ps0f => exact fun h => Ends.complete h <| .andThen (writeFieldSwapped_storesTo hu (add0 _)) fun _ => StoreRel.recover
  case psf => exact fun h => Ends.complete h <| .andThen (writeFieldSwapped_storesTo hu rfl) fun _ => StoreRel.recover
  case pslf =>
    exact fun h => Ends.complete h <| .popThen <| .popLongThen <| .keeps <|
      StoreRel.bind (storeField_storesTo hu _ _) fun _ => StoreRel.bind StoreRel.recover fun _ => StoreRel.recover

end Sys2Proof.Machine
end

section
/-! The byte block transfers (46_block.md R550 to R552; 20_memory.md R136, R137). -/

namespace Sys2Proof.Machine

/-! One byte copied. -/

theorem State.storeWord_result (s : State) (base : Nat) (ws above : List Word) (va : Long) (w : Word) :
    (s.result base ws above).storeWord va w = (s.storeWord va w).result base ws above :=
  (s.storeWord_stacked _ _ va w).trans (by simp [State.stacked, State.result])

section Copy
variable {s : State} {p q : BytePosition}

/-- The accesses of a copy, with words of the stack in hand. -/
theorem copyByte_ok (hp : s.readable p.address) (hq : s.storable q.address) (hu : s.undisturbed) {base : Nat}
    {ws above : List Word} {α : Type} (f : Unit → Act α) :
    (fetchByte p.base (lengthen p.offset) >>= fun b => storeByte q.base (lengthen q.offset) b >>= f) (s.result base ws above) =
      f () ((s.copyByte p q).result base ws above) := by
  have hq' : (s.touch p.address .read).storable q.address := (State.storable_touch hp.accessible _).2 hq
  have hu' : ((s.result base ws above).touch p.address .read).undisturbed :=
    State.undisturbed.touch (s := s.result base ws above) hu _ _
  refine (bind_ok (fetchByte_ok (s := s.result base ws above) hu hp)).trans <| (bind_ok (storeByte_ok _ hu' ?_)).trans ?_
  · rwa [State.touch_result]
  have hkept : (s.touch p.address .read).wordAt q.address = s.wordAt q.address := State.wordAt_touch hp.accessible _
  simp only [State.touch_result, State.wordAt_result, State.copyByte, BytePosition.address, State.storeWord_result] at hkept ⊢
  rw [hkept]

theorem State.copyByte_stack (s : State) (p q : BytePosition) : (s.copyByte p q).stack = s.stack := by simp [State.copyByte]

theorem State.quiet.copyByte (h : s.quiet) (p q : BytePosition) : (s.copyByte p q).quiet := by
  obtain ⟨hi, hu⟩ := h
  exact ⟨by simpa [State.copyByte, interruptPending] using hi, by simpa [State.copyByte, State.undisturbed] using hu⟩

variable (hp : s.readable p.address) (hq : s.storable q.address)
include hp hq

theorem State.readable_copyByte (va : Long) : (s.copyByte p q).readable va ↔ s.readable va := by
  have hq1 := (State.storable_touch hp.accessible q.address).2 hq
  have hq2 := (State.writable_touch hq1.readable.accessible q.address).2 hq1.1
  rw [State.copyByte, State.readable_storeWord hq2, State.readable_touch hq1.readable.accessible,
    State.readable_touch hp.accessible]

theorem State.storable_copyByte (va : Long) : (s.copyByte p q).storable va ↔ s.storable va := by
  have hq1 := (State.storable_touch hp.accessible q.address).2 hq
  have hq2 := (State.writable_touch hq1.readable.accessible q.address).2 hq1.1
  rw [State.copyByte, State.storable_storeWord hq2, State.storable_touch hq1.readable.accessible,
    State.storable_touch hp.accessible]

theorem State.byteCopyable_copyByte (ps : List (BytePosition × BytePosition)) :
    (s.copyByte p q).byteCopyable ps ↔ s.byteCopyable ps := by
  simp only [State.byteCopyable, State.readable_copyByte hp hq, State.storable_copyByte hp hq]

end Copy

/-! One iteration. -/

/-- The operands on the stack: the destination, the count and the source. -/
def byteOperands (dest : BytePosition) (count : Word) (source : BytePosition) : List Word :=
  [Long.low dest.base, Long.high dest.base, dest.offset, count, Long.low source.base, Long.high source.base, source.offset]

section Iteration
variable {s : State} {base : Nat} {p q : BytePosition} {count : Word} (advance : BytePosition → BytePosition)
  (hl : base + 7 ≤ s.stack.length)
include hl

/-- The operands popped. -/
theorem byteBlockIteration_popped : byteBlockIteration advance (s.result base (byteOperands q count p) []) =
    (if count = 0 then pure false
      else do
        let b ← fetchByte (normaliseByte p).base (lengthen (normaliseByte p).offset)
        storeByte (normaliseByte q).base (lengthen (normaliseByte q).offset) b
        pushLong (advance (normaliseByte q)).base
        push (advance (normaliseByte q)).offset
        push (count - 1)
        pushLong (advance (normaliseByte p)).base
        push (advance (normaliseByte p)).offset
        suspendOrContinue : Act Bool) (s.result base [] (byteOperands q count p)) := by
  refine (bind_ok (pop_append (ws := [_, _, _, _, _, _]) hl)).trans <|
    (bind_ok (popLong_append (ws := [_, _, _, _]) (by simp; omega))).trans <|
    (bind_ok (pop_append (ws := [_, _, _]) (by simp; omega))).trans <|
    (bind_ok (pop_append (ws := [_, _]) (by simp; omega))).trans <|
    (bind_ok (popLong_append (ws := []) (by simp; omega))).trans ?_
  rw [Long.ofHalves_high_low, Long.ofHalves_high_low]
  rfl

theorem byteBlockIteration_last :
    byteBlockIteration advance (s.result base (byteOperands q 0 p) []) = .ok false (s.result base [] (byteOperands q 0 p)) := by
  rw [byteBlockIteration_popped advance hl, if_pos rfl, act_pure]

/-- The updated operands pushed, and no interrupt found. -/
theorem byteOperands_pushed (hs : s.quiet) {above : List Word} :
    (do pushLong q.base
        push q.offset
        push count
        pushLong p.base
        push p.offset
        suspendOrContinue : Act Bool) (s.result base [] above) =
      .ok true (s.result base (byteOperands q count p) (above.drop 7)) := by
  refine (bind_ok (pushLong_result _ (by simp; omega))).trans <| (bind_ok (push_result (by simp; omega))).trans <|
    (bind_ok (push_result (by simp; omega))).trans <| (bind_ok (pushLong_result _ (by simp; omega))).trans <|
    (bind_ok (push_result (by simp; omega))).trans ?_
  obtain ⟨hi, hu⟩ := hs
  have hturn {ws above : List Word} : (s.result base ws above).takeTurn = s.result base ws above :=
    State.takeTurn_undisturbed hu
  have hpending {ws above : List Word} : interruptPending (s.result base ws above) = false := hi
  rw [suspendOrContinue_apply, hturn, if_neg (by rw [hpending]; simp), byteOperands]
  simp [← List.drop_one]

end Iteration

/-- One byte moved. -/
theorem byteBlockIteration_moved {s : State} {base : Nat} {p q : BytePosition} {count : Word}
    (advance : BytePosition → BytePosition) (hl : base + 7 ≤ s.stack.length) (hs : s.quiet) (hc : count ≠ 0)
    (hp : s.readable (normaliseByte p).address) (hq : s.storable (normaliseByte q).address) :
    byteBlockIteration advance (s.result base (byteOperands q count p) []) =
      .ok true ((s.copyByte (normaliseByte p) (normaliseByte q)).result base
        (byteOperands (advance (normaliseByte q)) (count - 1) (advance (normaliseByte p))) []) := by
  rw [byteBlockIteration_popped advance hl, if_neg hc]
  refine (copyByte_ok hp hq hs.2 _).trans ?_
  exact byteOperands_pushed (by rwa [State.copyByte_stack]) (hs.copyByte _ _)

/-! The whole transfer. -/

theorem normaliseByte_nextByte (p : BytePosition) :
    normaliseByte (nextByte (normaliseByte p)) = nextByte (normaliseByte p) := by
  rw [nextByte]
  split <;> simp [normaliseByte, lengthen]

theorem normaliseByte_previousByte (p : BytePosition) :
    normaliseByte (previousByte (normaliseByte p)) = previousByte (normaliseByte p) := by
  rw [previousByte]
  split <;> simp [normaliseByte, lengthen]

/-- The first `n` byte copies between the paths from two positions. -/
def byteMoves (advance : BytePosition → BytePosition) (p q : BytePosition) (n : Nat) : List (BytePosition × BytePosition) :=
  (bytePath advance p n).zip (bytePath advance q n)

theorem byteMoves_succ (advance : BytePosition → BytePosition) (p q : BytePosition) (n : Nat) :
    byteMoves advance p q (n + 1) = (p, q) :: byteMoves advance (advance p) (advance q) n := rfl

theorem byteBlockLoop_ok {advance : BytePosition → BytePosition}
    (ha : ∀ p, normaliseByte (advance (normaliseByte p)) = advance (normaliseByte p)) {n fuel : Nat} (hn : n < 65536)
    (hf : n < fuel) {s : State} {base : Nat} {p q : BytePosition} (hl : base + 7 ≤ s.stack.length) (hs : s.quiet)
    (hc : s.byteCopyable (byteMoves advance (normaliseByte p) (normaliseByte q) n)) :
    ∃ above : List Word, above.length = 7 ∧
      loop (byteBlockIteration advance) fuel (s.result base (byteOperands q (BitVec.ofNat 16 n) p) []) =
        .ok true ((s.byteCopies (byteMoves advance (normaliseByte p) (normaliseByte q) n)).result base [] above) := by
  induction n generalizing fuel s p q with
  | zero =>
    obtain ⟨fuel, rfl⟩ := Nat.exists_eq_add_one.2 hf
    exact ⟨byteOperands q 0 p, rfl, bind_ok (byteBlockIteration_last advance hl)⟩
  | succ n ih =>
    obtain ⟨fuel, rfl⟩ := Nat.exists_eq_add_one.2 (Nat.zero_lt_of_lt hf)
    rw [byteMoves_succ, State.byteCopyable, List.forall_mem_cons] at hc
    obtain ⟨⟨hp, hq⟩, hc⟩ := hc
    have hcount : BitVec.ofNat 16 (n + 1) ≠ 0 := by
      simp only [ne_eq, ← BitVec.toNat_inj, BitVec.toNat_ofNat]; simp; omega
    have hrest : BitVec.ofNat 16 (n + 1) - 1 = BitVec.ofNat 16 n := by
      rw [BitVec.ofNat_add]; simp
    have hstep := byteBlockIteration_moved advance hl hs hcount hp hq
    rw [hrest] at hstep
    obtain ⟨above, habove, hloop⟩ := ih (by omega) (fuel := fuel) (by omega)
      (s := s.copyByte (normaliseByte p) (normaliseByte q)) (p := advance (normaliseByte p)) (q := advance (normaliseByte q))
      (by rwa [State.copyByte_stack]) (hs.copyByte _ _)
      ((State.byteCopyable_copyByte hp hq _).2 (by rwa [ha, ha]))
    rw [ha, ha] at hloop
    exact ⟨above, habove, (bind_ok hstep).trans hloop⟩

/-- A byte block transfer from its seven operands on the stack. -/
theorem byteBlockTransfer_ok {s : State} {base : Nat} {a b c d e f g : Word} (hs : s.quiet)
    (h : s.holds base [a, b, c, d, e, f, g]) {advance : BytePosition → BytePosition}
    (ha : ∀ p, normaliseByte (advance (normaliseByte p)) = advance (normaliseByte p))
    {moves : List (BytePosition × BytePosition)}
    (hm : moves = byteMoves advance (normaliseByte ⟨Long.ofHalves f e, g⟩) (normaliseByte ⟨Long.ofHalves b a, c⟩) d.toNat)
    (hc : s.byteCopyable moves) :
    ∃ above : List Word, above.length = 7 ∧
      complete (blockLoop (byteBlockIteration advance)) s = .next ((s.byteCopies moves).result base [] above) := by
  subst hm
  obtain ⟨above, habove, hloop⟩ := byteBlockLoop_ok ha d.isLt (fuel := blockFuel) d.isLt (State.holds_bound h) hs hc
  have hoperands : byteOperands ⟨Long.ofHalves b a, c⟩ (BitVec.ofNat 16 d.toNat) ⟨Long.ofHalves f e, g⟩ =
      [a, b, c, d, e, f, g] := by simp [byteOperands]
  rw [hoperands] at hloop
  exact ⟨above, habove, complete_of_holds h (bind_ok hloop)⟩

/-- Settles O46: the loop by induction on the count, for each direction. -/
theorem byteBlockTransfers : Obligations.ByteBlockTransfers := by
  intro s base a b c d e f g hs h
  simp only [List.forall_mem_cons]
  exact ⟨byteBlockTransfer_ok hs h normaliseByte_nextByte rfl, byteBlockTransfer_ok hs h normaliseByte_previousByte rfl,
    by simp⟩

end Sys2Proof.Machine
end

section
/-! SUPPORT. The opcode tables and the encoder agree row by row (30_encoding.md R161, R167, R170 to R173), and so the decoder reads
every well-formed instruction from its bytes. -/

namespace Sys2Proof
open Machine

/-! Operand bytes. -/

@[simp] theorem toByte_nibblePair (b : Byte) : (nibblePair b).toByte = b := by
  rw [NibblePair.toByte, nibblePair, BitVec.extractLsb'_append_extractLsb'_eq_extractLsb' (by rfl)]
  simp

theorem nibblePair_toByte (p : NibblePair) : nibblePair p.toByte = p := by
  rw [NibblePair.toByte, nibblePair, BitVec.extractLsb'_append_eq_left, BitVec.extractLsb'_append_eq_right]

@[simp] theorem toByte_fieldSpec (b : Byte) : (fieldSpec b).toByte = b := toByte_nibblePair b

theorem fieldSpec_toByte (f : FieldSpec) : fieldSpec f.toByte = f := by
  rw [FieldSpec.toByte, fieldSpec, BitVec.extractLsb'_append_eq_left, BitVec.extractLsb'_append_eq_right]

@[simp] theorem left_append (a b : Byte) : (a ++ b : Word).extractLsb' 8 8 = a := BitVec.extractLsb'_append_eq_left

@[simp] theorem right_append (a b : Byte) : (a ++ b : Word).extractLsb' 0 8 = b := BitVec.extractLsb'_append_eq_right

theorem left_append_right (w : Word) : w.extractLsb' 8 8 ++ w.extractLsb' 0 8 = w := by
  rw [BitVec.extractLsb'_append_extractLsb'_eq_extractLsb' (by rfl)]
  simp

@[simp] theorem fieldDesc_append (a b : Byte) : fieldDesc (a ++ b) = ⟨a, fieldSpec b⟩ := by
  rw [fieldDesc, left_append, right_append]

theorem fieldDesc_toByte (d : FieldDesc) : fieldDesc (d.offset ++ d.field.toByte) = d := by
  rw [fieldDesc_append, fieldSpec_toByte]

/-! Rows. -/

/-- A row of the table of opcodes after the bytes `escape` agrees with the encoder, its instruction depends on the operand bytes that
the row counts only, and one whose routine is lost is refused whatever its operands (R640). -/
structure OpcodeRow.Agrees (escape : List Byte) (r : OpcodeRow) : Prop where
  encode_build : ∀ a b, encode (r.build a b) = escape ++ BitVec.ofNat 8 r.code :: [a, b].take r.operandBytes
  operandBytes_le : r.operandBytes ≤ 2
  build_operands : ∀ a b, r.build a b = r.build (if 0 < r.operandBytes then a else 0) (if 1 < r.operandBytes then b else 0)
  isLost_build : ∀ a b, (r.build a b).isLost = (r.build 0 0).isLost
  exec_lost : ∀ a b s, (r.build a b).isLost = true → exec (r.build a b) s = exec (r.build 0 0) s

theorem singleRows_agree : ∀ r ∈ singleRows, r.Agrees [] := by
  simp only [singleRows, List.forall_mem_append, singleRows0, singleRows1, singleRows2, singleRows3, singleRows4, singleRows5,
    singleRows6, singleRows7, singleRows8, singleRows9, singleRows10, singleRows11, singleRows12, singleRows13, singleRows14,
    List.forall_mem_cons, List.not_mem_nil, false_imp_iff, implies_true, and_true]
  and_intros
  all_goals
    exact ⟨fun _ _ => by simp [encode], by decide, fun _ _ => rfl, fun _ _ => rfl, fun _ _ _ h => by cases h <;> rfl⟩

theorem escRows_agree : ∀ r ∈ escRows, r.Agrees [escByte] := by
  simp only [escRows, List.forall_mem_append, escRows0, escRows1, escRows2, escRows3, List.forall_mem_cons, List.not_mem_nil,
    false_imp_iff, implies_true, and_true]
  and_intros
  all_goals exact ⟨fun _ _ => rfl, by decide, fun _ _ => rfl, fun _ _ => rfl, fun _ _ _ _ => rfl⟩

theorem esclRows_agree : ∀ r ∈ esclRows, r.Agrees [esclByte] := by
  simp only [esclRows, esclRows0, List.forall_mem_cons, List.not_mem_nil, false_imp_iff, implies_true, and_true]
  and_intros
  all_goals exact ⟨fun _ _ => rfl, by decide, fun _ _ => rfl, fun _ _ => rfl, fun _ _ _ h => by cases h <;> rfl⟩

theorem escRows_operandBytes : ∀ r ∈ escRows, r.operandBytes = 0 := by decide

theorem esclRows_operandBytes : ∀ r ∈ esclRows, r.operandBytes = 1 := by decide

/-! Looking up a row. -/

theorem findRow_some {rs : List OpcodeRow} {b : Nat} {r : OpcodeRow} (h : findRow rs b = some r) : r ∈ rs ∧ r.code = b := by
  induction rs with
  | nil => cases h
  | cons r' rs ih =>
    rw [findRow] at h
    split at h
    · cases h; exact ⟨List.mem_cons_self, ‹_›⟩
    · exact ⟨List.mem_cons_of_mem _ (ih h).1, (ih h).2⟩

theorem findRow_append (rs rs' : List OpcodeRow) (b : Nat) : findRow (rs ++ rs') b = (findRow rs b).or (findRow rs' b) := by
  induction rs with
  | nil => rfl
  | cons r rs ih => rw [List.cons_append, findRow, findRow]; split <;> simp [ih]

theorem findRow_flatten (parts : List (List OpcodeRow)) (b : Nat) :
    findRow parts.flatten b = parts.findSome? fun rows => findRow rows b := by
  induction parts with
  | nil => rfl
  | cons rows parts ih => rw [List.flatten_cons, findRow_append, ih, List.findSome?_cons]; cases findRow rows b <;> rfl

/-- The table of single byte opcodes, searched part by part. -/
theorem findRow_singleRows {b : Nat} {o : Option OpcodeRow} (h : ([singleRows0, singleRows1, singleRows2, singleRows3, singleRows4,
    singleRows5, singleRows6, singleRows7, singleRows8, singleRows9, singleRows10, singleRows11, singleRows12, singleRows13,
    singleRows14].findSome? fun rows => findRow rows b) = o) : findRow singleRows b = o := by
  rw [← h, ← findRow_flatten]
  simp only [singleRows, List.flatten_cons, List.flatten_nil, List.append_nil, List.append_assoc]

/-! What the decoder reads. -/

/-- The first byte is `zESC` or `zESCL` (R162). -/
abbrev IsEscape (b : Byte) : Prop := b = escByte ∨ b = esclByte

theorem decode_esc (b1 b2 : Byte) : decode escByte b1 b2 = .instr (decodeEsc b1) := by
  rw [decode, if_neg (by decide), if_pos rfl]

theorem decode_escl (b1 b2 : Byte) : decode esclByte b1 b2 = .instr (decodeEscl b1 b2) := by
  rw [decode, if_neg (by decide), if_neg (by decide), if_pos rfl]

/-- No single byte opcode is a reserved value or an escape (R163). -/
theorem findRow_singleRows_reserved {b0 : Byte} (h : b0 ∈ ([0, 0xFF, escByte, esclByte] : List Byte)) :
    findRow singleRows b0.toNat = none := by
  have none_at : ∀ n ∈ ([0, 0xFF, 0xF8, 0xF9] : List Nat), findRow singleRows n = none := by
    simp only [List.forall_mem_cons]
    exact ⟨findRow_singleRows rfl, findRow_singleRows rfl, findRow_singleRows rfl, findRow_singleRows rfl, nofun⟩
  exact none_at _ (List.mem_map_of_mem (f := BitVec.toNat) h)

theorem decode_single {b0 : Byte} {r : OpcodeRow} (h : findRow singleRows b0.toNat = some r) (b1 b2 : Byte) :
    decode b0 b1 b2 = .instr (r.build b1 b2) := by
  have hne := mt (findRow_singleRows_reserved (b0 := b0)) (by simp [h])
  simp only [List.mem_cons, List.not_mem_nil, or_false, not_or] at hne
  obtain ⟨h0, hFF, hesc, hescl⟩ := hne
  rw [decode, if_neg (not_or.2 ⟨h0, hFF⟩), if_neg hesc, if_neg hescl, h]

theorem decodeEsc_row {b1 : Byte} {r : OpcodeRow} (h : findRow escRows b1.toNat = some r) : decodeEsc b1 = r.build 0 0 := by
  rw [decodeEsc, h]

theorem decodeEsc_unassigned {b1 : Byte} (h : findRow escRows b1.toNat = none) : decodeEsc b1 = .esc b1 := by
  rw [decodeEsc, h]

theorem decodeEscl_row {b1 : Byte} {r : OpcodeRow} (h : findRow esclRows b1.toNat = some r) (b2 : Byte) :
    decodeEscl b1 b2 = r.build b2 0 := by
  rw [decodeEscl, h]

theorem decodeEscl_unassigned {b1 : Byte} (h : findRow esclRows b1.toNat = none) (b2 : Byte) : decodeEscl b1 b2 = .escl b1 := by
  rw [decodeEscl, h]

theorem fetchLength_esc (b1 : Byte) : fetchLength escByte b1 = 2 := by
  rw [fetchLength, if_neg (by decide), lengthByFirstByte, if_pos rfl]

theorem fetchLength_escl (b1 : Byte) : fetchLength esclByte b1 = if (findRow esclRows b1.toNat).isSome then 3 else 2 :=
  if_pos rfl

theorem fetchLength_of_not_escape {b0 : Byte} (h : ¬ IsEscape b0) (b1 : Byte) : fetchLength b0 b1 = lengthByFirstByte b0 :=
  if_neg (not_or.1 h).2

theorem lengthByFirstByte_of_not_escape {b0 : Byte} (h : ¬ IsEscape b0) :
    lengthByFirstByte b0 = ((findRow singleRows b0.toNat).elim 0 OpcodeRow.operandBytes) + 1 := by
  obtain ⟨hesc, hescl⟩ := not_or.1 h
  rw [lengthByFirstByte, if_neg hesc, if_neg hescl]
  cases findRow singleRows b0.toNat <;> rfl

/-- What a first byte that is no escape stands for: a reserved value, an unassigned one, or the opcode of a row (R163, R167, R176). -/
theorem firstByte_cases {b0 : Byte} (h : ¬ IsEscape b0) :
    ((∀ b1 b2, decode b0 b1 b2 = .reserved b0) ∧ lengthByFirstByte b0 = 1) ∨
      ((∀ b1 b2, decode b0 b1 b2 = .unassigned b0) ∧ lengthByFirstByte b0 = 1) ∨
      ∃ r ∈ singleRows, r.code = b0.toNat ∧ (∀ b1 b2, decode b0 b1 b2 = .instr (r.build b1 b2)) ∧
        lengthByFirstByte b0 = r.operandBytes + 1 := by
  obtain ⟨hesc, hescl⟩ := not_or.1 h
  have hl := lengthByFirstByte_of_not_escape h
  cases hf : findRow singleRows b0.toNat with
  | some r =>
    obtain ⟨hr, hc⟩ := findRow_some hf
    rw [hf] at hl
    exact .inr (.inr ⟨r, hr, hc, decode_single hf, hl⟩)
  | none =>
    rw [hf] at hl
    by_cases h0 : b0 = 0 ∨ b0 = 0xFF
    · exact .inl ⟨fun _ _ => if_pos h0, hl⟩
    · exact .inr (.inl ⟨fun _ _ => by rw [decode, if_neg h0, if_neg hesc, if_neg hescl, hf], hl⟩)

/-! Every well-formed instruction is read from its bytes. -/

section Instructions
variable {i : Instr} {n : Nat} {r : OpcodeRow}

theorem decodeBytes_of_single {operands : List Byte} (he : encode i = BitVec.ofNat 8 n :: operands)
    (hn : (BitVec.ofNat 8 n).toNat = n) (h : findRow singleRows n = some r)
    (hi : r.build (byteOf operands 0) (byteOf operands 1) = i) : decodeBytes (encode i) = .instr i := by
  rw [decodeBytes, he, ← hi]
  exact decode_single (by rwa [← hn] at h) _ _

theorem decodeBytes_of_esc (he : encode i = [escByte, BitVec.ofNat 8 n]) (hn : (BitVec.ofNat 8 n).toNat = n)
    (h : findRow escRows n = some r) (hi : r.build 0 0 = i) : decodeBytes (encode i) = .instr i := by
  rw [decodeBytes, he, ← hi]
  exact congrArg Decoded.instr (decodeEsc_row (by rwa [← hn] at h))

theorem decodeBytes_of_escl {b : Byte} (he : encode i = [esclByte, BitVec.ofNat 8 n, b]) (hn : (BitVec.ofNat 8 n).toNat = n)
    (h : findRow esclRows n = some r) (hi : r.build b 0 = i) : decodeBytes (encode i) = .instr i := by
  rw [decodeBytes, he, ← hi]
  exact congrArg Decoded.instr (decodeEscl_row (by rwa [← hn] at h) b)

end Instructions

/-- By the format of the instruction: the row of its opcode is looked up, and its operand bytes give the operands back. -/
theorem decodeBytes_encode {i : Instr} (h : i.wellFormed = true) : decodeBytes (encode i) = .instr i := by
  cases i
  case esc b => exact congrArg Decoded.instr (decodeEsc_unassigned (Option.isNone_iff_eq_none.1 h))
  case escl b => exact congrArg Decoded.instr (decodeEscl_unassigned (Option.isNone_iff_eq_none.1 h) 0)
  case rc | rob | wob | dsk | xe | xf | lsk => exact decodeBytes_of_escl rfl rfl rfl rfl
  case mw | mr | nc | bc | req | sm | smf | gmf | af | ff | pi | po | por | spp | di | ei | xor | dand | dior | dxor | rotate | dshift
    | lint | js | rcfs | udiv | ludiv | bndckl | nilck | nilckl | bltlr | blel | blecl | cksum | bitblt | txtblt | bytblt | bytbltr
    | dmul | sdiv | sddiv | uddiv | wrpsb | wrmds | wrwp | wrwdc | wrptc | writ | wrxts | wrmp | rrpsb | rrmds | rrwp | rrwdc
    | rrptc | rrit | rrxts => exact decodeBytes_of_esc rfl rfl rfl rfl
  case rlip p | rlilp p | rldip p | rldilp p | rgip p | rgilp p | wlip p | wlilp p | wldilp p | jep p | jnep p =>
    exact decodeBytes_of_single rfl rfl (findRow_singleRows rfl) (congrArg _ (nibblePair_toByte p))
  case r0f f | rl0f f | w0f f | ps0f f | ws0f f | wl0f f =>
    exact decodeBytes_of_single rfl rfl (findRow_singleRows rfl) (congrArg _ (fieldSpec_toByte f))
  case rf d | rlf d | wf d | psf d | wlf d | pslf d =>
    exact decodeBytes_of_single rfl rfl (findRow_singleRows rfl) (congrArg _ (fieldDesc_toByte d))
  case rlipf p f | rlilpf p f =>
    exact decodeBytes_of_single rfl rfl (findRow_singleRows rfl) (congrArg₂ _ (nibblePair_toByte p) (fieldSpec_toByte f))
  case jw w | jib w | jiw w | liw w | law w | gaw w | lfc w =>
    exact decodeBytes_of_single rfl rfl (findRow_singleRows rfl) (congrArg _ (left_append_right w))
  all_goals exact decodeBytes_of_single rfl rfl (findRow_singleRows rfl) rfl

/-- Settles O3: each instruction's encoding is the bytes. -/
theorem decodeExamples : Obligations.DecodeExamples :=
  ⟨decodeBytes_encode (i := .ll3) rfl, decodeBytes_encode (i := .llb 0x05) rfl, decodeBytes_encode (i := .rlip ⟨2, 1⟩) rfl,
    decodeBytes_encode (i := .rf ⟨0x02, ⟨4, 3⟩⟩) rfl, decodeBytes_encode (i := .rlipf ⟨2, 1⟩ ⟨4, 3⟩) rfl,
    decodeBytes_encode (i := .jw 0xFF00) rfl, decodeBytes_encode (i := .jebb 0x41 0x06) rfl,
    decodeBytes_encode (i := .liw 0x1234) rfl, decodeBytes_encode (i := .add) rfl, decodeBytes_encode (i := .blt) rfl,
    decodeBytes_encode (i := .sdiv) rfl, decodeBytes_encode (i := .wrmds) rfl, decodeBytes_encode (i := .rob 0x02) rfl,
    decodeBytes_encode (i := .esc 0x00) rfl⟩

theorem encode_decode_single {r : OpcodeRow} (hr : r ∈ singleRows) {b0 : Byte} (hc : r.code = b0.toNat) (b1 b2 : Byte) :
    encode (r.build b1 b2) = [b0, b1, b2].take (r.operandBytes + 1) := by
  rw [(singleRows_agree r hr).encode_build, hc, BitVec.ofNat_toNat, BitVec.setWidth_eq]
  rfl

theorem encode_decodeEsc (b1 : Byte) : encode (decodeEsc b1) = [escByte, b1] := by
  cases h : findRow escRows b1.toNat with
  | none => rw [decodeEsc_unassigned h]; rfl
  | some r =>
    obtain ⟨hr, hc⟩ := findRow_some h
    rw [decodeEsc_row h, (escRows_agree r hr).encode_build, escRows_operandBytes r hr, hc, BitVec.ofNat_toNat, BitVec.setWidth_eq]
    rfl

theorem encode_decodeEscl (b1 b2 : Byte) : encode (decodeEscl b1 b2) = [esclByte, b1, b2].take (fetchLength esclByte b1) := by
  rw [fetchLength_escl]
  cases h : findRow esclRows b1.toNat with
  | none => rw [decodeEscl_unassigned h]; rfl
  | some r =>
    obtain ⟨hr, hc⟩ := findRow_some h
    rw [decodeEscl_row h, (esclRows_agree r hr).encode_build, esclRows_operandBytes r hr, hc, BitVec.ofNat_toNat, BitVec.setWidth_eq]
    rfl

/-- Settles O2: by what the first byte stands for. -/
theorem encodeDecode : Obligations.EncodeDecode := by
  intro b0 b1 b2 i h
  by_cases hb : IsEscape b0
  · obtain rfl | rfl := hb
    · cases h; exact encode_decodeEsc b1
    · cases h; exact encode_decodeEscl b1 b2
  · rw [fetchLength_of_not_escape hb]
    obtain ⟨hd, -⟩ | ⟨hd, -⟩ | ⟨r, hr, hc, hd, hl⟩ := firstByte_cases hb
    · rw [hd] at h; cases h
    · rw [hd] at h; cases h
    · rw [hd] at h
      cases h
      rw [hl]
      exact encode_decode_single hr hc b1 b2

end Sys2Proof
end

section
/-! Decode and encode under another assignment of the opcodes and with opcodes that the processor does not implement (30_encoding.md R169,
R173, R176; 48_control_transfers.md R640). -/

namespace Sys2Proof
open Machine

/-! Exchanges of bytes. -/

theorem exchangeBytes_append (ps qs : List (Byte × Byte)) (b : Byte) :
    exchangeBytes (ps ++ qs) b = exchangeBytes qs (exchangeBytes ps b) := by
  induction ps generalizing b with
  | nil => rfl
  | cons p ps ih => exact ih _

/-- One exchange made twice. -/
theorem exchangeBytes_twice (p : Byte × Byte) (b : Byte) : exchangeBytes [p] (exchangeBytes [p] b) = b := by
  simp only [exchangeBytes]
  by_cases h1 : b = p.1
  · by_cases h12 : p.2 = p.1 <;> simp [h1, h12]
  · by_cases h2 : b = p.2 <;> simp [h1, h2]

theorem exchangeBytes_reverse (ps : List (Byte × Byte)) (b : Byte) : exchangeBytes ps.reverse (exchangeBytes ps b) = b := by
  induction ps generalizing b with
  | nil => rfl
  | cons p ps ih =>
    have hp : exchangeBytes (p :: ps) b = exchangeBytes ps (exchangeBytes [p] b) := rfl
    rw [List.reverse_cons, exchangeBytes_append, hp, ih, exchangeBytes_twice]

theorem exchangeBytes_of_reverse (ps : List (Byte × Byte)) (b : Byte) : exchangeBytes ps (exchangeBytes ps.reverse b) = b := by
  simpa using exchangeBytes_reverse ps.reverse b

theorem exchangeBytes_fixed {ps : List (Byte × Byte)} {b : Byte} (h : ∀ p ∈ ps, p.1 ≠ b ∧ p.2 ≠ b) : exchangeBytes ps b = b := by
  induction ps with
  | nil => rfl
  | cons p ps ih =>
    obtain ⟨⟨h1, h2⟩, hps⟩ := List.forall_mem_cons.1 h
    rw [exchangeBytes, if_neg h1.symm, if_neg h2.symm, ih hps]

section Assignment
variable (a : OpcodeAssignment)

@[simp] theorem OpcodeAssignment.first_firstBack (b : Byte) : a.first (a.firstBack b) = b := exchangeBytes_of_reverse _ b

@[simp] theorem OpcodeAssignment.firstBack_first (b : Byte) : a.firstBack (a.first b) = b := exchangeBytes_reverse _ b

@[simp] theorem OpcodeAssignment.second_secondBack (c0 b : Byte) : a.second c0 (a.secondBack c0 b) = b := by
  unfold OpcodeAssignment.second OpcodeAssignment.secondBack
  split
  · exact exchangeBytes_of_reverse _ b
  · split
    · exact exchangeBytes_of_reverse _ b
    · rfl

@[simp] theorem OpcodeAssignment.secondBack_second (c0 b : Byte) : a.secondBack c0 (a.second c0 b) = b := by
  unfold OpcodeAssignment.second OpcodeAssignment.secondBack
  split
  · exact exchangeBytes_reverse _ b
  · split
    · exact exchangeBytes_reverse _ b
    · rfl

theorem OpcodeAssignment.second_of_not_escape {c0 : Byte} (h : ¬ IsEscape c0) (b : Byte) : a.second c0 b = b := by
  obtain ⟨hesc, hescl⟩ := not_or.1 h
  rw [OpcodeAssignment.second, if_neg hesc, if_neg hescl]

/-- The reserved first bytes stay as they are (R163, R173). -/
theorem OpcodeAssignment.first_reserved {b : Byte} (h : b = 0 ∨ b = 0xFF) : a.first b = b := by
  refine exchangeBytes_fixed fun p hp => ?_
  obtain ⟨-, hp⟩ := List.mem_filter.1 hp
  simp only [Bool.and_eq_true, decide_eq_true_eq] at hp
  obtain ⟨⟨⟨h1, h2⟩, h3⟩, h4⟩ := hp
  obtain rfl | rfl := h
  · exact ⟨h1, h3⟩
  · exact ⟨h2, h4⟩

theorem Instr.mapSecond_secondBack (i : Instr) : (i.mapSecond a.second).mapSecond a.secondBack = i := by
  cases i with
  | esc b => exact congrArg Instr.esc (a.secondBack_second escByte b)
  | escl b => exact congrArg Instr.escl (a.secondBack_second esclByte b)
  | _ => rfl

end Assignment

/-! Instructions whose routine is lost. -/

theorem Instr.mapSecond_of_isLost {i : Instr} (h : i.isLost = true) (f : Byte → Byte → Byte) : i.mapSecond f = i := by
  cases i with
  | esc b => cases h
  | escl b => cases h
  | _ => rfl

/-- What was decoded is the same as far as the routine goes: both are of an instruction whose routine is lost, or neither is, and if so
they come to the same refusal. -/
def Decoded.SameLost (d d' : Decoded) : Prop :=
  d.isLost = d'.isLost ∧ (d.isLost = true → ∀ s, dispatch d s = dispatch d' s)

theorem Decoded.SameLost.refl (d : Decoded) : d.SameLost d := ⟨rfl, fun _ _ => rfl⟩

/-- The instructions of one row. -/
theorem OpcodeRow.Agrees.sameLost {escape : List Byte} {r : OpcodeRow} (h : r.Agrees escape) (a b a' b' : Byte) :
    (Decoded.instr (r.build a b)).SameLost (.instr (r.build a' b')) := by
  have hl : (r.build a b).isLost = (r.build a' b').isLost := (h.isLost_build a b).trans (h.isLost_build a' b').symm
  exact ⟨hl, fun hi s => (h.exec_lost a b s hi).trans (h.exec_lost a' b' s (hl ▸ hi)).symm⟩

/-- The third byte is an operand. -/
theorem decode_sameLost (b0 b1 b2 b2' : Byte) : (decode b0 b1 b2).SameLost (decode b0 b1 b2') := by
  by_cases h : IsEscape b0
  · obtain rfl | rfl := h
    · rw [decode_esc, decode_esc]; exact .refl _
    · rw [decode_escl, decode_escl]
      cases hf : findRow esclRows b1.toNat with
      | none => rw [decodeEscl_unassigned hf, decodeEscl_unassigned hf]; exact .refl _
      | some r => rw [decodeEscl_row hf, decodeEscl_row hf]; exact (esclRows_agree r (findRow_some hf).1).sameLost _ _ _ _
  · obtain ⟨hd, -⟩ | ⟨hd, -⟩ | ⟨r, hr, -, hd, -⟩ := firstByte_cases h <;> rw [hd, hd]
    · exact .refl _
    · exact .refl _
    · exact (singleRows_agree r hr).sameLost _ _ _ _

/-- After a first byte that is no escape, the second byte is an operand. -/
theorem decode_sameLost_first {b0 : Byte} (h : ¬ IsEscape b0) (b1 b2 b1' b2' : Byte) :
    (decode b0 b1 b2).SameLost (decode b0 b1' b2') := by
  obtain ⟨hd, -⟩ | ⟨hd, -⟩ | ⟨r, hr, -, hd, -⟩ := firstByte_cases h <;> rw [hd, hd]
  · exact .refl _
  · exact .refl _
  · exact (singleRows_agree r hr).sameLost _ _ _ _

section Implemented
variable {u : OpcodeSet} {c0 c1 : Byte}

theorem OpcodeSet.not_escape_of_lacksSingle (h : u.lacksSingle c0 = true) : ¬ IsEscape c0 := by
  simp only [OpcodeSet.lacksSingle, Bool.and_eq_true, decide_eq_true_eq] at h
  obtain ⟨⟨⟨⟨⟨hesc, hescl⟩, -⟩, -⟩, -⟩, -⟩ := h
  exact not_or.2 ⟨hesc, hescl⟩

theorem OpcodeSet.escape_of_lacksExtended (h : u.lacksExtended c0 c1 = true) : IsEscape c0 := by
  simp only [OpcodeSet.lacksExtended, Bool.and_eq_true, Bool.or_eq_true, decide_eq_true_eq] at h
  exact h.1.imp And.left And.left

theorem OpcodeSet.lacksSingle_reserved (u : OpcodeSet) (h : c0 = 0 ∨ c0 = 0xFF) : u.lacksSingle c0 = false := by
  obtain rfl | rfl := h <;> simp [OpcodeSet.lacksSingle]

/-- An opcode whose routine is lost is implemented, in that it does not trap (R640; log 54). -/
theorem OpcodeSet.lacksSingle_of_isLost (u : OpcodeSet) {b1 b2 : Byte} (h : (decode c0 b1 b2).isLost = true) :
    u.lacksSingle c0 = false := by
  by_contra hs
  rw [Bool.not_eq_false] at hs
  have hl := (decode_sameLost_first (OpcodeSet.not_escape_of_lacksSingle hs) b1 b2 0 0).1
  rw [OpcodeSet.lacksSingle, ← hl, h, Bool.not_true, Bool.and_false] at hs
  cases hs

theorem OpcodeSet.lacksExtended_of_isLost (u : OpcodeSet) {b2 : Byte} (h : (decode c0 c1 b2).isLost = true) :
    u.lacksExtended c0 c1 = false := by
  have hl := (decode_sameLost c0 c1 b2 0).1
  rw [OpcodeSet.lacksExtended, ← hl, h, Bool.not_true, Bool.and_false]

end Implemented

/-! The decoder of a machine. -/

section Machine
variable {c : Config} {b0 b1 : Byte}

theorem decodeFor_lacksSingle (h : c.unimplemented.lacksSingle (c.opcodes.first b0) = true) (b1 b2 : Byte) :
    decodeFor c b0 b1 b2 = .unassigned b0 := if_pos h

theorem decodeFor_lacksExtended
    (h : c.unimplemented.lacksExtended (c.opcodes.first b0) (c.opcodes.second (c.opcodes.first b0) b1) = true) (b2 : Byte) :
    decodeFor c b0 b1 b2 = .instr (if c.opcodes.first b0 = escByte then .esc b1 else .escl b1) := by
  have hs : ¬ c.unimplemented.lacksSingle (c.opcodes.first b0) = true := fun hs =>
    OpcodeSet.not_escape_of_lacksSingle hs (OpcodeSet.escape_of_lacksExtended h)
  exact (if_neg hs).trans (if_pos h)

theorem decodeFor_implemented (hs : c.unimplemented.lacksSingle (c.opcodes.first b0) = false)
    (he : c.unimplemented.lacksExtended (c.opcodes.first b0) (c.opcodes.second (c.opcodes.first b0) b1) = false) (b2 : Byte) :
    decodeFor c b0 b1 b2 =
      (decode (c.opcodes.first b0) (c.opcodes.second (c.opcodes.first b0) b1) b2).actual c.opcodes := by
  simp only [decodeFor, hs, he, Bool.false_eq_true, if_false]

end Machine

/-! The bytes of an instruction in an assignment. -/

/-- The opcode of an instruction: one byte that is no escape, or two. -/
theorem encode_cases {i : Instr} (h : i.wellFormed = true) :
    (∃ c0, ¬ IsEscape c0 ∧ encode i = [c0]) ∨ ∃ c0 c1 rest, encode i = c0 :: c1 :: rest := by
  have hd := decodeBytes_encode h
  match he : encode i with
  | [] => rw [he] at hd; cases hd
  | c0 :: c1 :: rest => exact .inr ⟨c0, c1, rest, rfl⟩
  | [c0] =>
    refine .inl ⟨c0, fun hc => ?_, rfl⟩
    rw [he] at hd
    obtain rfl | rfl := hc
    · cases hd; cases he
    · cases hd; cases he

/-- The bytes in an assignment stand for the recalled ones. -/
theorem byteOf_encodeFor (a : OpcodeAssignment) {i : Instr} (h : (i.mapSecond a.second).wellFormed = true) :
    let bytes := encode (i.mapSecond a.second)
    a.first (byteOf (encodeFor a i) 0) = byteOf bytes 0 ∧
      a.second (byteOf bytes 0) (byteOf (encodeFor a i) 1) = byteOf bytes 1 ∧
      byteOf (encodeFor a i) 2 = byteOf bytes 2 := by
  obtain ⟨c0, hc, he⟩ | ⟨c0, c1, rest, he⟩ := encode_cases h
  · rw [encodeFor, he]
    exact ⟨a.first_firstBack c0, a.second_of_not_escape hc 0, rfl⟩
  · rw [encodeFor, he]
    exact ⟨a.first_firstBack c0, a.second_secondBack c0 c1, rfl⟩

/-- Settles O1: the bytes stand for the recalled ones, from which the recalled instruction is read, and that is brought back to the
machine's assignment. -/
theorem decodeEncode : Obligations.DecodeEncode := by
  intro c i hw bs c0 c1
  obtain ⟨h0, h1, h2⟩ := byteOf_encodeFor c.opcodes hw
  rw [← h0] at h1
  have hd : decode c0 c1 (byteOf bs 2) = .instr (i.mapSecond c.opcodes.second) := by
    rw [← decodeBytes_encode hw, decodeBytes, ← h0, ← h1, ← h2]
  have himplemented (hs : c.unimplemented.lacksSingle c0 = false) (he : c.unimplemented.lacksExtended c0 c1 = false) :
      decodeBytesFor c bs = .instr i := by
    rw [decodeBytesFor, decodeFor_implemented hs he, hd, Decoded.actual, Instr.mapSecond_secondBack]
  refine ⟨himplemented, fun hs => decodeFor_lacksSingle hs _ _, fun he => decodeFor_lacksExtended he _, fun hl => ?_⟩
  have hlost : (decode c0 c1 (byteOf bs 2)).isLost = true := by
    rw [hd, Instr.mapSecond_of_isLost hl]
    exact hl
  exact himplemented (OpcodeSet.lacksSingle_of_isLost _ hlost) (OpcodeSet.lacksExtended_of_isLost _ hlost)

end Sys2Proof
end

section
/-! Fields bit by bit (45_string_field.md R492, R500, R501). -/

namespace Sys2Proof.Machine

/-- `MaskTable[size]` has the `size + 1` low bits (R492). -/
theorem getLsbD_maskTable (size : Nibble) (i : Nat) : (maskTable size).getLsbD i = decide (i ≤ size.toNat) := by
  have hs := size.isLt
  rw [maskTable, BitVec.getLsbD_ofNat, Nat.testBit_two_pow_sub_one, ← Bool.decide_and, decide_eq_decide]
  omega

/-- The mask of a field in its place. -/
theorem getMsbD_mask {f : FieldSpec} (hf : f.wellFormed = true) {n : Nat} (hn : n < 16) :
    (maskTable f.size <<< fieldShift f).getMsbD n = decide (f.pos.toNat ≤ n ∧ n ≤ f.pos.toNat + f.size.toNat) := by
  simp only [FieldSpec.wellFormed, decide_eq_true_eq] at hf
  simp only [BitVec.getMsbD_eq_getLsbD, BitVec.getLsbD_shiftLeft, getLsbD_maskTable, fieldShift, ← decide_not, ← Bool.decide_and,
    decide_eq_decide]
  omega

theorem getLsbD_readFieldOf {f : FieldSpec} (hf : f.wellFormed = true) (w : Word) (i : Nat) :
    (readFieldOf w f).getLsbD i = (decide (i ≤ f.size.toNat) && w.getMsbD (f.pos.toNat + f.size.toNat - i)) := by
  simp only [FieldSpec.wellFormed, decide_eq_true_eq] at hf
  rw [readFieldOf, BitVec.getLsbD_and, BitVec.getLsbD_ushiftRight, getLsbD_maskTable, Bool.and_comm]
  by_cases hi : i ≤ f.size.toNat
  · have hk : f.pos.toNat + f.size.toNat - i < 16 := by omega
    have hj : fieldShift f + i = 16 - 1 - (f.pos.toNat + f.size.toNat - i) := by rw [fieldShift]; omega
    rw [BitVec.getMsbD_eq_getLsbD, decide_eq_true hk, Bool.true_and, hj]
  · rw [decide_eq_false hi, Bool.false_and, Bool.false_and]

theorem getMsbD_writeFieldOf {f : FieldSpec} (hf : f.wellFormed = true) (w data : Word) {n : Nat} (hn : n < 16) :
    (writeFieldOf w f data).getMsbD n =
      if f.pos.toNat ≤ n ∧ n ≤ f.pos.toNat + f.size.toNat then data.getLsbD (f.pos.toNat + f.size.toNat - n) else w.getMsbD n := by
  simp only [writeFieldOf, BitVec.getMsbD_or, BitVec.getMsbD_and, BitVec.getMsbD_not, getMsbD_mask hf hn]
  simp only [FieldSpec.wellFormed, decide_eq_true_eq] at hf
  split
  · next h =>
    have hk : ¬ 16 - 1 - n < fieldShift f := by rw [fieldShift]; omega
    have hj : 16 - 1 - n - fieldShift f = f.pos.toNat + f.size.toNat - n := by rw [fieldShift]; omega
    have hm : 16 - 1 - n < 16 := by omega
    have hd : (data <<< fieldShift f).getMsbD n = data.getLsbD (f.pos.toNat + f.size.toNat - n) := by
      rw [BitVec.getMsbD_eq_getLsbD, BitVec.getLsbD_shiftLeft, hj, decide_eq_true hn, decide_eq_true hm, decide_eq_false hk]
      rfl
    simp [hd, h]
  · next h => simp [h, hn]

/-- Settles O37: each rule bit by bit. -/
theorem fieldRules : Obligations.FieldRules := fun _ w data hf =>
  ⟨fun i _ => getLsbD_readFieldOf hf w i, fun _ hn => getMsbD_writeFieldOf hf w data hn⟩

end Sys2Proof.Machine
end

section
/-! SUPPORT. How many bytes of an instruction are fetched, and that those behind them do not matter (30_encoding.md R164, R167;
48_control_transfers.md R640). -/

namespace Sys2Proof
open Machine

/-! The recalled assignment. -/

theorem fetchLength_escape {b0 : Byte} (h : IsEscape b0) (b1 : Byte) : 2 ≤ fetchLength b0 b1 ∧ fetchLength b0 b1 ≤ 3 := by
  obtain rfl | rfl := h
  · rw [fetchLength_esc]; omega
  · rw [fetchLength_escl]; split <;> omega

theorem fetchLength_bounds (b0 b1 : Byte) : 1 ≤ fetchLength b0 b1 ∧ fetchLength b0 b1 ≤ 3 := by
  by_cases h : IsEscape b0
  · obtain ⟨h2, h3⟩ := fetchLength_escape h b1
    omega
  · rw [fetchLength_of_not_escape h]
    obtain ⟨-, hl⟩ | ⟨-, hl⟩ | ⟨r, hr, -, -, hl⟩ := firstByte_cases h
    · omega
    · omega
    · have := (singleRows_agree r hr).operandBytes_le
      omega

theorem decode_of_fetchLength_lt_three {b0 b1 : Byte} (h : fetchLength b0 b1 < 3) (b2 b2' : Byte) :
    decode b0 b1 b2 = decode b0 b1 b2' := by
  by_cases he : IsEscape b0
  · obtain rfl | rfl := he
    · rw [decode_esc, decode_esc]
    · rw [fetchLength_escl] at h
      cases hf : findRow esclRows b1.toNat with
      | none => rw [decode_escl, decode_escl, decodeEscl_unassigned hf, decodeEscl_unassigned hf]
      | some r => simp [hf] at h
  · rw [fetchLength_of_not_escape he] at h
    obtain ⟨hd, -⟩ | ⟨hd, -⟩ | ⟨r, hr, -, hd, hl⟩ := firstByte_cases he <;> rw [hd, hd]
    have hn : ¬ 1 < r.operandBytes := by omega
    rw [(singleRows_agree r hr).build_operands, (singleRows_agree r hr).build_operands b1 b2', if_neg hn, if_neg hn]

theorem decode_of_fetchLength_lt_two {b0 b1 : Byte} (h : fetchLength b0 b1 < 2) (b2 b1' b2' : Byte) :
    decode b0 b1 b2 = decode b0 b1' b2' := by
  have he : ¬ IsEscape b0 := fun he => absurd (fetchLength_escape he b1).1 (Nat.not_le.2 h)
  rw [fetchLength_of_not_escape he] at h
  obtain ⟨hd, -⟩ | ⟨hd, -⟩ | ⟨r, hr, -, hd, hl⟩ := firstByte_cases he <;> rw [hd, hd]
  have h0 : ¬ 0 < r.operandBytes := by omega
  have h1 : ¬ 1 < r.operandBytes := by omega
  rw [(singleRows_agree r hr).build_operands, (singleRows_agree r hr).build_operands b1' b2', if_neg h0, if_neg h1, if_neg h0,
    if_neg h1]

/-! Any assignment. -/

section Machine
variable {c : Config} {b0 b1 : Byte}

theorem fetchLengthFor_opcode
    (h : c.unimplemented.lacksSingle (c.opcodes.first b0) = true ∨
      c.unimplemented.lacksExtended (c.opcodes.first b0) (c.opcodes.second (c.opcodes.first b0) b1) = true ∨
      (decode (c.opcodes.first b0) (c.opcodes.second (c.opcodes.first b0) b1) 0).isLost = true) :
    fetchLengthFor c b0 b1 = if IsEscape (c.opcodes.first b0) then 2 else 1 :=
  if_pos (by simpa only [Bool.or_eq_true, or_assoc] using h)

theorem fetchLengthFor_whole (hs : c.unimplemented.lacksSingle (c.opcodes.first b0) = false)
    (hx : c.unimplemented.lacksExtended (c.opcodes.first b0) (c.opcodes.second (c.opcodes.first b0) b1) = false)
    (hl : (decode (c.opcodes.first b0) (c.opcodes.second (c.opcodes.first b0) b1) 0).isLost = false) :
    fetchLengthFor c b0 b1 = fetchLength (c.opcodes.first b0) (c.opcodes.second (c.opcodes.first b0) b1) :=
  if_neg (by simp only [hs, hx, hl, Bool.or_false, Bool.false_eq_true, not_false_eq_true])

/-- Why an instruction is fetched from as many bytes as it is: its opcode is not implemented, its routine is lost, or neither. -/
theorem fetchLengthFor_cases (c : Config) (b0 b1 : Byte) :
    let c0 := c.opcodes.first b0
    let c1 := c.opcodes.second c0 b1
    (c.unimplemented.lacksSingle c0 = true ∧ fetchLengthFor c b0 b1 = 1) ∨
      (c.unimplemented.lacksExtended c0 c1 = true ∧ fetchLengthFor c b0 b1 = 2) ∨
      (c.unimplemented.lacksSingle c0 = false ∧ c.unimplemented.lacksExtended c0 c1 = false ∧
        (((decode c0 c1 0).isLost = true ∧ fetchLengthFor c b0 b1 = if IsEscape c0 then 2 else 1) ∨
          fetchLengthFor c b0 b1 = fetchLength c0 c1)) := by
  intro c0 c1
  by_cases hs : c.unimplemented.lacksSingle c0 = true
  · exact .inl ⟨hs, (fetchLengthFor_opcode (.inl hs)).trans (if_neg (OpcodeSet.not_escape_of_lacksSingle hs))⟩
  · by_cases hx : c.unimplemented.lacksExtended c0 c1 = true
    · exact .inr (.inl ⟨hx, (fetchLengthFor_opcode (.inr (.inl hx))).trans (if_pos (OpcodeSet.escape_of_lacksExtended hx))⟩)
    · rw [Bool.not_eq_true] at hs hx
      refine .inr (.inr ⟨hs, hx, ?_⟩)
      by_cases hl : (decode c0 c1 0).isLost = true
      · exact .inl ⟨hl, fetchLengthFor_opcode (.inr (.inr hl))⟩
      · exact .inr (fetchLengthFor_whole hs hx (Bool.not_eq_true _ ▸ hl))

theorem fetchLengthFor_bounds (c : Config) (b0 b1 : Byte) : 1 ≤ fetchLengthFor c b0 b1 ∧ fetchLengthFor c b0 b1 ≤ 3 := by
  obtain ⟨-, h⟩ | ⟨-, h⟩ | ⟨-, -, ⟨-, h⟩ | h⟩ := fetchLengthFor_cases c b0 b1
  · omega
  · omega
  · rw [h]; split <;> omega
  · rw [h]; exact fetchLength_bounds _ _

theorem two_le_fetchLengthFor (h : IsEscape (c.opcodes.first b0)) (b1 : Byte) : 2 ≤ fetchLengthFor c b0 b1 := by
  obtain ⟨hs, -⟩ | ⟨-, h2⟩ | ⟨-, -, ⟨-, h2⟩ | h2⟩ := fetchLengthFor_cases c b0 b1
  · exact absurd h (OpcodeSet.not_escape_of_lacksSingle hs)
  · omega
  · rw [h2, if_pos h]
  · rw [h2]; exact (fetchLength_escape h _).1

/-- After a first byte that is no escape, the second byte does not matter. -/
theorem fetchLengthFor_first (h : ¬ IsEscape (c.opcodes.first b0)) (b1 b1' : Byte) :
    fetchLengthFor c b0 b1 = fetchLengthFor c b0 b1' := by
  have hx (c1 : Byte) : c.unimplemented.lacksExtended (c.opcodes.first b0) c1 = false :=
    Bool.eq_false_iff.2 fun hx => h (OpcodeSet.escape_of_lacksExtended hx)
  simp only [fetchLengthFor, c.opcodes.second_of_not_escape h, hx, (decode_sameLost_first h b1 0 b1' 0).1,
    fetchLength_of_not_escape h]

/-- The first byte alone tells whether a second one is fetched. -/
theorem fetchLengthFor_lt_two_iff (c : Config) (b0 b1 : Byte) : fetchLengthFor c b0 0 < 2 ↔ fetchLengthFor c b0 b1 < 2 := by
  by_cases h : IsEscape (c.opcodes.first b0)
  · have h0 := two_le_fetchLengthFor h 0
    have h1 := two_le_fetchLengthFor h b1
    omega
  · rw [fetchLengthFor_first h 0 b1]

/-! What is dispatched depends on the bytes that are fetched. -/

theorem Decoded.actual_of_isLost (a : OpcodeAssignment) {d : Decoded} (h : d.isLost = true) : d.actual a = d := by
  cases d with
  | instr i => exact congrArg Decoded.instr (Instr.mapSecond_of_isLost h _)
  | unassigned b => cases h
  | reserved b => cases h

theorem Decoded.SameLost.dispatch_actual (a : OpcodeAssignment) {d d' : Decoded} (h : d.SameLost d') (hl : d.isLost = true)
    (s : State) : dispatch (d.actual a) s = dispatch (d'.actual a) s := by
  obtain ⟨hsame, hd⟩ := h
  rw [Decoded.actual_of_isLost a hl, Decoded.actual_of_isLost a (hsame ▸ hl), hd hl]

theorem dispatch_decodeFor_one (h : fetchLengthFor c b0 b1 < 2) (b2 : Byte) (s : State) :
    dispatch (decodeFor c b0 0 0) s = dispatch (decodeFor c b0 b1 b2) s := by
  have hne : ¬ IsEscape (c.opcodes.first b0) := fun he => absurd (two_le_fetchLengthFor he b1) (Nat.not_le.2 h)
  have hsecond (b : Byte) := c.opcodes.second_of_not_escape hne b
  obtain ⟨hs, -⟩ | ⟨hx, -⟩ | ⟨hs, -, hl⟩ := fetchLengthFor_cases c b0 b1
  · rw [decodeFor_lacksSingle hs, decodeFor_lacksSingle hs]
  · exact absurd (OpcodeSet.escape_of_lacksExtended hx) hne
  · have hx (c1 : Byte) : c.unimplemented.lacksExtended (c.opcodes.first b0) c1 = false :=
      Bool.eq_false_iff.2 fun hx => hne (OpcodeSet.escape_of_lacksExtended hx)
    rw [decodeFor_implemented hs (hx _), decodeFor_implemented hs (hx _), hsecond, hsecond]
    rw [hsecond] at hl
    obtain ⟨hlost, -⟩ | hl := hl
    · have hsame := decode_sameLost_first hne b1 0 0 0
      exact (decode_sameLost_first hne 0 0 b1 b2).dispatch_actual _ (hsame.1 ▸ hlost) s
    · rw [hl] at h
      rw [decode_of_fetchLength_lt_two h b2 0 0]

theorem dispatch_decodeFor_two (h : fetchLengthFor c b0 b1 < 3) (b2 : Byte) (s : State) :
    dispatch (decodeFor c b0 b1 0) s = dispatch (decodeFor c b0 b1 b2) s := by
  obtain ⟨hs, -⟩ | ⟨hx, -⟩ | ⟨hs, hx, ⟨hlost, -⟩ | hl⟩ := fetchLengthFor_cases c b0 b1
  · rw [decodeFor_lacksSingle hs, decodeFor_lacksSingle hs]
  · rw [decodeFor_lacksExtended hx, decodeFor_lacksExtended hx]
  · rw [decodeFor_implemented hs hx, decodeFor_implemented hs hx]
    exact (decode_sameLost _ _ 0 b2).dispatch_actual _ hlost s
  · rw [hl] at h
    rw [decodeFor_implemented hs hx, decodeFor_implemented hs hx, decode_of_fetchLength_lt_three h b2 0]

end Machine

end Sys2Proof
end

section
/-! The main loop fetches an instruction and runs it, or takes a fault on one of its bytes (30_encoding.md R164, R166, R167;
60_exceptions.md R670, R683, R688). -/

namespace Sys2Proof.Machine

/-! Code bytes. -/

theorem State.afterFetch_succ (s : State) (n : Nat) : s.afterFetch (n + 1) = (s.afterFetch n).afterFetch 1 := by
  induction n generalizing s with
  | zero => rfl
  | succ n ih => exact ih _

@[simp] theorem State.afterFetch_codeWrites (s : State) (n : Nat) : (s.afterFetch n).codeWrites = s.codeWrites := by
  induction n generalizing s with
  | zero => rfl
  | succ n ih => exact (ih _).trans (State.touch_codeWrites _ _ _)

section Fetching
variable {s u : State} {k : Nat} {D : Nat → Nibble → Prop}

theorem Accessed.setPc {pc : Word} (h : Accessed { s with pc := pc } D u) (pc' : Word) :
    Accessed { s with pc := pc' } D { u with pc := pc' } := { h with frame := by rw [h.frame] }

/-! The next code byte, in a state that differs in the map's flags and in `PC` only. -/

section Next
variable (h : Accessed { s with pc := s.pc + BitVec.ofNat 16 k } D u)
include h

theorem Accessed.pc : u.pc = s.pc + BitVec.ofNat 16 k := congrArg State.pc h.frame

theorem Accessed.codeWord : u.codeAddress (u.pc >>> 1) = s.codeWordAt k := by rw [h.frame]; rfl

theorem Accessed.codeInBank : u.codeInBank (u.pc >>> 1) = s.codeInBank ((s.pc + BitVec.ofNat 16 k) >>> 1) := by rw [h.frame]; rfl

theorem Accessed.codeReadable (hf : s.fetchable k) : u.codeReadable (u.pc >>> 1) := by
  obtain ⟨⟨hb, hr⟩, -⟩ := hf
  refine ⟨h.codeInBank.trans hb, ?_⟩
  rw [h.codeWord, h.readable]
  exact hr

end Next

/-- Fetching code bytes changes the map's flags and `PC` only. -/
theorem accessed_afterFetch (hf : ∀ j < k, s.fetchable j) :
    Accessed { s with pc := s.pc + BitVec.ofNat 16 k } noBits (s.afterFetch k) := by
  induction k with
  | zero => rw [BitVec.add_zero]; exact .refl s
  | succ k ih =>
    have h := ih fun j hj => hf j (Nat.lt_succ_of_lt hj)
    have hpc : (s.afterFetch k).pc + 1 = s.pc + BitVec.ofNat 16 (k + 1) := by
      rw [h.pc, BitVec.add_assoc, BitVec.ofNat_add]
      rfl
    rw [State.afterFetch_succ, ← hpc]
    exact (h.touch (h.codeReadable (hf k (Nat.lt_succ_self k))).2.accessible).setPc _

variable (hu : s.undisturbed)
include hu

theorem getCodeByte_afterFetch (hf : ∀ j < k + 1, s.fetchable j) :
    getCodeByte (s.afterFetch k) = .ok (s.codeByte k) (s.afterFetch (k + 1)) := by
  have h := accessed_afterFetch fun j hj => hf j (Nat.lt_succ_of_lt hj)
  have hk := hf k (Nat.lt_succ_self k)
  have hw : ∀ p ∈ (s.afterFetch k).codeWrites, p.1 ≠ (s.afterFetch k).codeAddress ((s.afterFetch k).pc >>> 1) := by
    rw [State.afterFetch_codeWrites, h.codeWord]
    exact hk.2
  have hword : (s.afterFetch k).wordAt (s.codeWordAt k) = s.wordAt (s.codeWordAt k) := h.wordAt fun _ => id
  have hbyte := getCodeByte_ok (h.undisturbed hu) (h.codeReadable hk) hw
  rw [h.codeWord, hword] at hbyte
  rw [State.afterFetch_succ, State.codeByte, ← h.pc, hbyte, ← h.codeWord]
  rfl

/-- A code byte whose page is vacant (R108, R688). -/
theorem getCodeByte_vacant (hf : ∀ j < k, s.fetchable j) (hb : s.codeInBank ((s.pc + BitVec.ofNat 16 k) >>> 1) = true)
    (hv : (s.entryOf (s.codeWordAt k)).isVacant = true) :
    getCodeByte (s.afterFetch k) = .error (.exception (.fault .pageFault (s.codeWordAt k))) (s.afterFetch k) := by
  have h := accessed_afterFetch hf
  have hv' := (h.isVacant (s.codeWordAt k)).trans hv
  refine (bind_ok (act_get _)).trans (bind_error ?_)
  rw [readCode_inBank (h.codeInBank.trans hb), h.codeWord, fetch_vacant (h.undisturbed hu) hv']

/-! The instruction. -/

/-- The bytes of an instruction are fetched, and what is dispatched is what they and any bytes behind them decode to (R164, R167). -/
theorem fetchInstr_ok {n : Nat} (hn : fetchLengthFor s.cfg (s.codeByte 0) (s.codeByte 1) = n) (hf : ∀ k < n, s.fetchable k) :
    ∃ d, fetchInstr s = .ok d (s.afterFetch n) ∧
      ∀ t, dispatch d t = dispatch (decodeFor s.cfg (s.codeByte 0) (s.codeByte 1) (s.codeByte 2)) t := by
  have hbyte (k : Nat) (hk : k < n) : getCodeByte (s.afterFetch k) = .ok (s.codeByte k) (s.afterFetch (k + 1)) :=
    getCodeByte_afterFetch hu fun j hj => hf j (by omega)
  have hbounds := fetchLengthFor_bounds s.cfg (s.codeByte 0) (s.codeByte 1)
  have h2 := fetchLengthFor_lt_two_iff s.cfg (s.codeByte 0) (s.codeByte 1)
  rw [hn] at hbounds h2
  have hfirst : fetchInstr s = _ := (bind_ok (act_get s)).trans (bind_ok (hbyte 0 (by omega)))
  by_cases hn2 : n < 2
  · obtain rfl : n = 1 := by omega
    exact ⟨_, hfirst.trans (by rw [if_pos (h2.2 hn2)]; rfl), dispatch_decodeFor_one (hn.trans_lt hn2) _⟩
  · rw [if_neg (mt h2.1 hn2)] at hfirst
    have hsecond := hfirst.trans (bind_ok (hbyte 1 (by omega)))
    rw [hn] at hsecond
    by_cases hn3 : n < 3
    · obtain rfl : n = 2 := by omega
      exact ⟨_, hsecond.trans (by rw [if_pos hn3]; rfl), dispatch_decodeFor_two (hn.trans_lt hn3) _⟩
    · obtain rfl : n = 3 := by omega
      rw [if_neg hn3] at hsecond
      exact ⟨_, hsecond.trans (bind_ok (hbyte 2 (by omega))), fun _ => rfl⟩

/-- A byte of the instruction cannot be fetched, and those before it can (R164, R688). -/
theorem fetchInstr_error {e : Raise} (hk : k < fetchLengthFor s.cfg (s.codeByte 0) (s.codeByte 1)) (hf : ∀ j < k, s.fetchable j)
    (he : getCodeByte (s.afterFetch k) = .error e (s.afterFetch k)) : fetchInstr s = .error e (s.afterFetch k) := by
  have hbyte (j : Nat) (hj : j < k) : getCodeByte (s.afterFetch j) = .ok (s.codeByte j) (s.afterFetch (j + 1)) :=
    getCodeByte_afterFetch hu fun i hi => hf i (by omega)
  have hbounds := fetchLengthFor_bounds s.cfg (s.codeByte 0) (s.codeByte 1)
  have h2 := fetchLengthFor_lt_two_iff s.cfg (s.codeByte 0) (s.codeByte 1)
  match k with
  | 0 => exact (bind_ok (act_get s)).trans (bind_error he)
  | 1 =>
    have hfirst : fetchInstr s = _ := (bind_ok (act_get s)).trans (bind_ok (hbyte 0 (by omega)))
    rw [if_neg (by omega)] at hfirst
    exact hfirst.trans (bind_error he)
  | 2 =>
    have hfirst : fetchInstr s = _ := (bind_ok (act_get s)).trans (bind_ok (hbyte 0 (by omega)))
    rw [if_neg (by omega)] at hfirst
    have hsecond := hfirst.trans (bind_ok (hbyte 1 (by omega)))
    rw [if_neg (by omega)] at hsecond
    exact hsecond.trans (bind_error he)
  | k + 3 => omega

end Fetching

/-! The step. -/

section Step
variable {s : State}

theorem executeInstr_ok (hu : s.undisturbed)
    (hf : ∀ k < fetchLengthFor s.cfg (s.codeByte 0) (s.codeByte 1), s.fetchable k) :
    executeInstr s = dispatch (decodeFor s.cfg (s.codeByte 0) (s.codeByte 1) (s.codeByte 2))
      (s.saveContext.afterFetch (fetchLengthFor s.cfg (s.codeByte 0) (s.codeByte 1))) := by
  obtain ⟨d, hfetch, hd⟩ := fetchInstr_ok (s := s.saveContext) hu rfl hf
  rw [executeInstr, hfetch]
  exact hd _

theorem executeInstr_exception {e : Exception} {t : State} (h : fetchInstr s.saveContext = .error (.exception e) t) :
    executeInstr s = .next (takeException e t) := by
  rw [executeInstr, h]

/-- Where nothing keeps the main loop from it, a step executes the next instruction (R670). -/
theorem step_eq_executeInstr (he : s.exception = none) (hs : s.scan = none) (ht : s.timeoutNow = false)
    (hi : interruptPending s.withEnvironment = false) (hr : s.withEnvironment.running = true)
    (hc : s.withEnvironment.contextLegal = true) : step s = executeInstr s.withEnvironment := by
  simp only [step, mainLoop, he, hs, checkAndExecute, hi, ht, hr, hc, Bool.or_self, Bool.false_eq_true, if_false, if_true]

end Step

/-- Settles O4: the bytes are fetched, and the instruction they decode to is dispatched. -/
theorem stepRunsInstruction : Obligations.StepRunsInstruction := by
  intro s i he hs ht t n hi hr hc hu hd hf
  rw [step_eq_executeInstr he hs ht hi hr hc, executeInstr_ok hu hf, hd]
  rfl

theorem takeException_fault_saved {s : State} {pc : Word} {sp : Nat} (hpc : s.savedPC = pc) (hsp : s.savedSP = sp) (k : FaultKind)
    (va : Long) : takeException (.fault k va) s = { s with pc := pc, sp := sp, exception := some (.fault k va) } := by
  subst hpc hsp
  rfl

/-- Settles O7: the bytes before are fetched, and the fault restores `PC` and `SP`. -/
theorem fetchFault : Obligations.FetchFault := by
  intro s k he hs ht t hi hr hc hu hk hf hb hv
  have hvacant := getCodeByte_vacant (s := t.saveContext) hu hf hb hv
  have hfetch := fetchInstr_error (s := t.saveContext) hu hk hf hvacant
  have h := accessed_afterFetch (s := t.saveContext) hf
  have hpc : (t.saveContext.afterFetch k).savedPC = t.pc := congrArg State.savedPC h.frame
  have hsp : (t.saveContext.afterFetch k).savedSP = t.sp := congrArg State.savedSP h.frame
  rw [step_eq_executeInstr he hs ht hi hr hc, executeInstr_exception hfetch, takeException_fault_saved hpc hsp]
  rfl

end Sys2Proof.Machine
end

section
/-! Opcodes that no instruction has (30_encoding.md R163, R167, R169, R176; 41_stack.md R256). -/

namespace Sys2Proof.Machine

/-! First bytes that stand for no instruction are fetched alone. -/

section FirstByte
variable {c : Config} {b0 : Byte}

theorem fetchLengthFor_eq_one (h : fetchLengthFor c b0 0 = 1) (b1 : Byte) : fetchLengthFor c b0 b1 = 1 := by
  have hlt := (fetchLengthFor_lt_two_iff c b0 b1).1 (by omega)
  have hbounds := fetchLengthFor_bounds c b0 b1
  omega

theorem decodeFor_reserved (c : Config) (h : b0 = 0 ∨ b0 = 0xFF) :
    decodeFor c b0 0 0 = .reserved b0 ∧ fetchLengthFor c b0 0 = 1 := by
  have hfirst := c.opcodes.first_reserved h
  have hback : c.opcodes.firstBack b0 = b0 := by rw [← hfirst, OpcodeAssignment.firstBack_first, hfirst]
  have hne : ¬ IsEscape b0 := by obtain rfl | rfl := h <;> decide
  have hd : decode b0 0 0 = .reserved b0 := if_pos h
  have hs : c.unimplemented.lacksSingle (c.opcodes.first b0) = false := by rw [hfirst]; exact OpcodeSet.lacksSingle_reserved _ h
  have hx (c1 : Byte) : c.unimplemented.lacksExtended (c.opcodes.first b0) c1 = false := by
    rw [hfirst]; exact Bool.eq_false_iff.2 fun hx => hne (OpcodeSet.escape_of_lacksExtended hx)
  have hrow : findRow singleRows b0.toNat = none := findRow_singleRows_reserved (by obtain rfl | rfl := h <;> decide)
  constructor
  · rw [decodeFor_implemented hs (hx _), hfirst, c.opcodes.second_of_not_escape hne, hd, Decoded.actual, hback]
  · rw [fetchLengthFor_whole hs (hx _) (by rw [hfirst, c.opcodes.second_of_not_escape hne, hd]; rfl), hfirst,
      fetchLength_of_not_escape hne, lengthByFirstByte_of_not_escape hne, hrow]
    rfl

theorem decodeFor_unassigned {b : Byte} (h : decodeFor c b0 0 0 = .unassigned b) : b = b0 ∧ fetchLengthFor c b0 0 = 1 := by
  obtain ⟨hs, hl⟩ | ⟨hx, -⟩ | ⟨hs, hx, hl⟩ := fetchLengthFor_cases c b0 0
  · rw [decodeFor_lacksSingle hs] at h
    cases h
    exact ⟨rfl, hl⟩
  · rw [decodeFor_lacksExtended hx] at h
    cases h
  · rw [decodeFor_implemented hs hx] at h
    by_cases hesc : IsEscape (c.opcodes.first b0)
    · obtain hesc | hesc := hesc <;> rw [hesc] at h
      · rw [decode_esc] at h; cases h
      · rw [decode_escl] at h; cases h
    · obtain ⟨hd, -⟩ | ⟨hd, hone⟩ | ⟨r, -, -, hd, -⟩ := firstByte_cases hesc <;> rw [hd] at h
      · cases h
      · rw [Decoded.actual, OpcodeAssignment.firstBack_first] at h
        cases h
        rw [hd, fetchLength_of_not_escape hesc, hone] at hl
        exact ⟨rfl, hl.resolve_left fun hlost => by cases hlost.1⟩
      · cases h

end FirstByte

/-- An opcode byte that is fetched alone. -/
theorem executeInstr_one {s : State} (hu : s.undisturbed) (hf : s.fetchable 0) (h : fetchLengthFor s.cfg (s.codeByte 0) 0 = 1) :
    executeInstr s = dispatch (decodeFor s.cfg (s.codeByte 0) 0 0) (s.saveContext.afterFetch 1) := by
  have hone := fetchLengthFor_eq_one h (s.codeByte 1)
  have hbytes : ∀ k < fetchLengthFor s.cfg (s.codeByte 0) (s.codeByte 1), s.fetchable k := fun k hk => by
    obtain rfl : k = 0 := by omega
    exact hf
  rw [executeInstr_ok hu hbytes, hone, dispatch_decodeFor_one (hone.trans_lt (by decide))]

theorem State.writeMap_saveContext (s : State) (vp : Nat) (flags : Word) (real : Long) :
    s.saveContext.writeMap vp flags real = { s.writeMap vp flags real with savedPC := s.pc, savedSP := s.sp } := by
  by_cases h : s.cfg.virtualPage vp = true <;> simp only [State.writeMap, State.saveContext_cfg, h, if_true] <;> rfl

theorem State.touch_saveContext (s : State) (va : Long) (a : Access) :
    s.saveContext.touch va a = { s.touch va a with savedPC := s.pc, savedSP := s.sp } := by
  have hentry : s.saveContext.entryOf va = s.entryOf va := rfl
  simp only [State.touch, State.saveContext_cfg, hentry, State.saveContext_freeIndex, State.writeMap_saveContext]
  by_cases hr : s.cfg.residentPage (virtualPageOf va) = true
  · by_cases hf : residentFlags (s.entryOf va).flags a (Config.freeWord s.freeIndex) = (s.entryOf va).flags
    · simp only [hr, if_true, hf]; rfl
    · simp only [hr, if_true, hf, if_false]
  · simp only [hr]; rfl

theorem State.codeWordAt_zero (s : State) : s.codeWordAt 0 = s.codeAddress (s.pc >>> 1) := by
  simp [State.codeWordAt]

/-- A trap on the opcode byte leaves `PC` and `SP` as they were (R683, R691). -/
theorem takeException_trap_afterFetch (s : State) (t : Trap) :
    takeException (.trap t) (s.saveContext.afterFetch 1) =
      { s.touch (s.codeWordAt 0) .read with savedPC := s.pc, savedSP := s.sp, exception := some (.trap t) } := by
  obtain ⟨m, n, h⟩ := s.touch_cases (s.codeWordAt 0) .read
  have hfetch : s.saveContext.afterFetch 1 = { s.saveContext.touch (s.codeWordAt 0) .read with pc := s.pc + 1 } := by
    rw [State.codeWordAt_zero]; rfl
  rw [hfetch, State.touch_saveContext, h]
  rfl

/-- Settles O5: the opcode byte is fetched alone, and the trap or refusal follows from what it decodes to. -/
theorem unassignedOpcodes : Obligations.UnassignedOpcodes := by
  refine ⟨?_, fun s b => ⟨rfl, rfl, rfl⟩⟩
  intro s he hs ht t hi hr hc hu hf
  rw [step_eq_executeInstr he hs ht hi hr hc]
  refine ⟨fun b hb => ?_, fun hb => ?_⟩
  · obtain ⟨rfl, hone⟩ := decodeFor_unassigned hb
    refine ⟨rfl, ?_⟩
    rw [executeInstr_one hu hf hone, hb, ← takeException_trap_afterFetch]
    rfl
  · obtain ⟨hd, hone⟩ := decodeFor_reserved t.cfg hb
    rw [executeInstr_one hu hf hone, hd]
    rfl

end Sys2Proof.Machine
end

section
/-! The map instructions (20_memory.md R102, R106, R125; 40_map_pointer_register.md R200 to R202). -/

namespace Sys2Proof.Machine

/-- A program's write to the map where the change is legal, or where there is no entry to change (D3). -/
theorem writeMap_ok {s : State} {vp : Long} {flags : Word} {real : Long}
    (h : s.cfg.virtualPage vp.toNat = false ∨
      (vacantFlags flags = true ∨ aliased s vp.toNat real = false) ∧ codePageViolation s vp.toNat flags = false) :
    writeMap vp flags real s = .ok () (s.writeMap vp.toNat flags real) := by
  by_cases hp : s.cfg.virtualPage vp.toNat = true
  · obtain hn | ⟨ha, hc⟩ := h
    · exact absurd (hp.symm.trans hn) (by decide)
    · have ha : vacantFlags flags = false → aliased s vp.toNat real = false := fun hf => ha.resolve_left (by simp [hf])
      simpa [writeMap, hp, hc] using ha
  · simp [writeMap, hp, State.writeMap]

theorem State.writeMap_result (s : State) (base : Nat) (ws above : List Word) (vp : Nat) (g : Word) (r : Long) :
    (s.result base ws above).writeMap vp g r = (s.writeMap vp g r).result base ws above :=
  (s.writeMap_stacked _ _ vp g r).trans (by simp [State.stacked, State.result])

/-- What a program reads as the real page: the entry's, or for a vacant entry a free value (U21). -/
theorem realPageResult_cases (e : MapEntry) (s : State) : ∃ rp n,
    realPageResult e s = .ok rp { s with freeIndex := n } ∧ (e.isVacant = false → rp = e.real ∧ n = s.freeIndex) := by
  cases hv : e.isVacant with
  | true => exact ⟨Config.freeLong s.freeIndex, s.freeIndex + 1, by simp [realPageResult, hv], nofun⟩
  | false => exact ⟨e.real, s.freeIndex, by simp [realPageResult, hv], fun _ => ⟨rfl, rfl⟩⟩

/-- The words of an entry pushed: its flags and a real page. -/
theorem pushEntry_ok {s : State} {base : Nat} (e : MapEntry) (h : base + 3 ≤ s.stack.length) : ∃ rp n,
    (e.isVacant = false → rp = e.real ∧ n = s.freeIndex) ∧
      ∀ f : Long → Act Unit, (do push e.flags; let rp ← realPageResult e; f rp) { s with sp := base } =
        f rp ({ s with freeIndex := n }.result base [e.flags] []) := by
  obtain ⟨rp, n, hrp, hv⟩ := realPageResult_cases e (s.result base [e.flags] [])
  have hpush : push e.flags { s with sp := base } = .ok () (s.result base [e.flags] []) :=
    push_result (ws := []) (above := []) (show base < s.stack.length by omega)
  exact ⟨rp, n, hv, fun f => (bind_ok hpush).trans (bind_ok hrp)⟩

section Instructions
variable {s : State} {base : Nat} {vpLow vpHigh rpLow rpHigh mf : Word} {vp rp : Long} {e : MapEntry}
  (hvp : Long.ofHalves vpHigh vpLow = vp)
include hvp

theorem exec_sm (hrp : Long.ofHalves rpHigh rpLow = rp) (h : s.holds base [vpLow, vpHigh, rpLow, rpHigh, mf])
    (hl : s.cfg.virtualPage vp.toNat = false ∨
      (vacantFlags mf = true ∨ aliased s vp.toNat rp = false) ∧ codePageViolation s vp.toNat mf = false) :
    exec .sm s = .next { s.writeMap vp.toNat mf rp with sp := base } := by
  subst hvp hrp
  obtain ⟨hmf, h⟩ := pop_holds (ws := [vpLow, vpHigh, rpLow, rpHigh]) h
  obtain ⟨hrp, h⟩ := popLong_holds (ws := [vpLow, vpHigh]) h
  obtain ⟨hvp, -⟩ := popLong_holds (ws := []) h
  have hw := writeMap_ok (s := s.result base [] []) hl
  rw [State.writeMap_result] at hw
  exact complete_ok <| (bind_ok hmf).trans <| (bind_ok hrp).trans <| (bind_ok hvp).trans hw

variable (he : s.readMap vp.toNat = e)
include he

/-- What `GMF` pushes of any entry, vacant or not. -/
theorem exec_gmf_cases (h : s.holds base [vpLow, vpHigh]) (hr : s.room 1) :
    ∃ rp n, (e.isVacant = false → rp = e.real ∧ n = s.freeIndex) ∧
      exec .gmf s = .next { s.result base [e.flags, Long.low rp, Long.high rp] [] with freeIndex := n } := by
  subst hvp he
  have hlen : base + 3 ≤ s.stack.length := by rw [State.room, h.1] at hr; exact hr
  obtain ⟨hpop, -⟩ := popLong_holds (ws := []) h
  obtain ⟨rp, n, hv, hpush⟩ := pushEntry_ok _ hlen
  exact ⟨rp, n, hv, complete_ok <| (bind_ok hpop).trans <| (hpush _).trans <|
    pushLong_result (s := { s with freeIndex := n }) (ws := [_]) rp hlen⟩

/-- What `SMF` pushes of any entry, vacant or not, before it writes one that is not vacant. -/
theorem exec_smf_cases (h : s.holds base [vpLow, vpHigh, mf]) :
    ∃ rp n, (e.isVacant = false → rp = e.real ∧ n = s.freeIndex) ∧
      exec .smf s = complete (if e.isVacant then return () else writeMap vp mf e.real)
        { s.result base [e.flags, Long.low rp, Long.high rp] [] with freeIndex := n } := by
  subst hvp he
  have hlen : base + 3 ≤ s.stack.length := State.holds_bound h
  obtain ⟨hmf, h⟩ := pop_holds (ws := [vpLow, vpHigh]) h
  obtain ⟨hpop, -⟩ := popLong_holds (ws := []) h
  obtain ⟨rp, n, hv, hpush⟩ := pushEntry_ok _ hlen
  exact ⟨rp, n, hv, complete_congr <| (bind_ok hmf).trans <| (bind_ok hpop).trans <| (hpush _).trans <|
    bind_ok (pushLong_result (s := { s with freeIndex := n }) (ws := [_]) rp hlen)⟩

theorem exec_gmf_mapped (hv : e.isVacant = false) (h : s.holds base [vpLow, vpHigh]) (hr : s.room 1) :
    exec .gmf s = .next (s.result base [e.flags, Long.low e.real, Long.high e.real] []) := by
  obtain ⟨rp, n, hrp, hx⟩ := exec_gmf_cases hvp he h hr
  obtain ⟨rfl, rfl⟩ := hrp hv
  exact hx

theorem exec_gmf_vacant (h : s.holds base [vpLow, vpHigh]) (hr : s.room 1) :
    ∃ rp n, exec .gmf s = .next { s.result base [e.flags, Long.low rp, Long.high rp] [] with freeIndex := n } := by
  obtain ⟨rp, n, -, hx⟩ := exec_gmf_cases hvp he h hr
  exact ⟨rp, n, hx⟩

theorem exec_smf_mapped (hv : e.isVacant = false) (h : s.holds base [vpLow, vpHigh, mf])
    (hl : (vacantFlags mf = true ∨ aliased s vp.toNat e.real = false) ∧ codePageViolation s vp.toNat mf = false) :
    exec .smf s =
      .next ((s.writeMap vp.toNat mf e.real).result base [e.flags, Long.low e.real, Long.high e.real] []) := by
  obtain ⟨rp, n, hrp, hx⟩ := exec_smf_cases hvp he h
  obtain ⟨rfl, rfl⟩ := hrp hv
  rw [hx, hv, ← State.writeMap_result]
  exact complete_ok (writeMap_ok (s := s.result base _ []) (.inr hl))

theorem exec_smf_vacant (hv : e.isVacant = true) (h : s.holds base [vpLow, vpHigh, mf]) :
    ∃ rp n, exec .smf s = .next { s.result base [e.flags, Long.low rp, Long.high rp] [] with freeIndex := n } := by
  obtain ⟨rp, n, -, hx⟩ := exec_smf_cases hvp he h
  rw [hv] at hx
  exact ⟨rp, n, hx⟩

end Instructions

/-- Settles O16: `GMF` and `SMF` push the same of an entry; only `SMF` then writes it, if it is not vacant. -/
theorem mapInstructions : Obligations.MapInstructions :=
  ⟨fun _ _ _ _ _ _ _ => ⟨exec_sm rfl rfl, fun h hr hv => exec_gmf_mapped rfl rfl hv h hr,
      fun h hv ha hc => exec_smf_mapped rfl rfl hv h ⟨ha, hc⟩⟩,
    fun _ _ _ _ _ hv => ⟨exec_gmf_vacant rfl rfl, exec_smf_vacant rfl rfl hv⟩⟩

end Sys2Proof.Machine
end

section
/-! The pointer and overhead instructions (40_map_pointer_register.md R204 to R206). -/

namespace Sys2Proof.Machine

theorem storeOverheadPop_stacked {s : State} {va : Long} (st : List Word) (n : Nat) (hu : s.undisturbed) (h : s.writable va)
    (hs : n ≠ 0) :
    storeOverheadPop va (s.stacked st n) = .ok () ((s.storeWord va (st.getD (n - 1) 0)).stacked st (n - 1)) := by
  rw [storeOverheadPop_ok (s := s.stacked st n) hu h hs, State.storeWord_stacked]; rfl

section Instructions
variable {s : State} {base : Nat} {ptr data : Word} {alpha : Byte}

theorem exec_lp (h : s.holds base [ptr]) (hr : s.room 1) :
    exec .lp s = .next (s.result base [Long.low (if ptr = 0 then 0 else s.lengthenPointer ptr),
      Long.high (if ptr = 0 then 0 else s.lengthenPointer ptr)] []) := by
  have hlen : base + 1 < s.stack.length := by rw [State.room, h.1] at hr; exact hr
  obtain ⟨hptr, -⟩ := pop_holds (ws := []) h
  exact complete_ok <| (bind_ok hptr).trans (pushLong_result (ws := []) (above := []) _ hlen)

variable (hw : overheadOffsetWellFormed alpha = true) (hu : s.undisturbed)
include hw hu

theorem exec_rob (h : s.holds base [ptr]) (hp : s.present (s.lengthenPointer (ptr - byteWord alpha))) :
    exec (.rob alpha) s = .next ((s.reads [s.lengthenPointer (ptr - byteWord alpha)]).result base
      [s.wordAt (s.lengthenPointer (ptr - byteWord alpha))] []) := by
  obtain ⟨hptr, -⟩ := pop_holds (ws := []) h
  have hfetch := fetchOverhead_ok (s := s.result base [] []) hu hp
  rw [State.touch_result] at hfetch
  have hroom : base < (s.touch (s.lengthenPointer (ptr - byteWord alpha)) .read).stack.length := by
    rw [State.touch_stack]; exact State.holds_bound h
  refine complete_ok <| (bind_ok hptr).trans ?_
  rw [if_pos hw]
  exact (bind_ok hfetch).trans (push_result (ws := []) (above := []) hroom)

theorem exec_wob (h : s.holds base [data, ptr]) (hp : s.writable (s.lengthenPointer (ptr - byteWord alpha))) :
    exec (.wob alpha) s =
      .next { s.storeWord (s.lengthenPointer (ptr - byteWord alpha)) data with sp := base } := by
  obtain ⟨hptr, -, -, hdata, -⟩ := pop_holds (ws := [data]) h
  have hstore := storeOverheadPop_stacked s.stack (base + 1) hu hp (Nat.succ_ne_zero base)
  rw [Nat.add_sub_cancel, hdata, State.stacked_same base (State.storeWord_stack _ _ _)] at hstore
  refine complete_ok <| (bind_ok hptr).trans ?_
  rw [if_pos hw]
  exact hstore

end Instructions

/-- Settles O17: each instruction from the state in which its pointer has been popped. -/
theorem pointerAndOverhead : Obligations.PointerAndOverhead :=
  fun _ _ _ _ _ => ⟨exec_lp, fun h1 h4 hu =>
    have hw := overheadOffsetWellFormed_of_range h1 h4
    ⟨exec_rob hw hu, exec_wob hw hu⟩⟩

end Sys2Proof.Machine
end

section
/-! The register instructions (40_map_pointer_register.md R212 to R226). -/

namespace Sys2Proof.Machine

theorem complete_push_ok {s : State} (hr : s.room 1) (w : Word) : complete (push w) s = .next (s.result s.sp [w] []) :=
  complete_ok (push_ok w hr)

/-! Devices' turns do not see the evaluation stack. -/

section Turn
variable (s : State) (st : List Word) (n : Nat)

theorem State.deviceAccess_stacked (d : DeviceAccess) :
    (s.stacked st n).deviceAccess d = (s.deviceAccess d).stacked st n := by
  cases d with
  | read va =>
    by_cases h : s.present va
    · rw [State.deviceAccess_read_present h, State.deviceAccess_read_present (s := s.stacked st n) h, State.touch_stacked]
    · rw [State.deviceAccess_read_absent h, State.deviceAccess_read_absent (s := s.stacked st n) h]
  | write va w =>
    by_cases h : s.writable va
    · rw [State.deviceAccess_write_writable w h, State.deviceAccess_write_writable (s := s.stacked st n) w h,
        State.storeWord_stacked]
    · rw [State.deviceAccess_write_unwritable w h, State.deviceAccess_write_unwritable (s := s.stacked st n) w h]

theorem State.deviceAccesses_stacked (ds : List DeviceAccess) :
    (s.stacked st n).deviceAccesses ds = (s.deviceAccesses ds).stacked st n := by
  induction ds generalizing s with
  | nil => rfl
  | cons d ds ih => exact (congrArg (State.deviceAccesses · ds) (s.deviceAccess_stacked st n d)).trans (ih (s.deviceAccess d))

theorem State.takeTurn_stacked : (s.stacked st n).takeTurn = s.takeTurn.stacked st n := by
  cases h : s.turns with
  | nil => rw [State.takeTurn_undisturbed h, State.takeTurn_undisturbed (s := s.stacked st n) h]
  | cons d rest =>
    rw [State.takeTurn_cons h, State.takeTurn_cons (s := s.stacked st n) h, ← State.deviceAccesses_stacked]
    rfl

end Turn

/-! Writes of a register by the word or the double word popped. -/

section Writes
variable {s : State} {base : Nat} {v high : Word}

theorem popThenModify_ok (f : Word → State → State) (h : s.holds base [v]) :
    complete (do let w ← pop; modify (f w)) s = .next (f v { s with sp := base }) :=
  complete_ok (bind_ok (pop_holds (ws := []) h).1)

theorem popLongThenModify_ok (f : Long → State → State) (h : s.holds base [v, high]) :
    complete (do let u ← popLong; modify (f u)) s = .next (f (Long.ofHalves high v) { s with sp := base }) :=
  complete_ok (bind_ok (popLong_holds (ws := []) h).1)

theorem exec_wrmp (h : s.holds base [v]) :
    exec .wrmp s = .next { s with sp := base, mp := if s.cfg.hasMp then v else s.mp } := by
  refine (popThenModify_ok _ h).trans ?_
  cases s.cfg.hasMp <;> rfl

/-- `WRWP` from the state in which the word has been popped, without and with a turn of the devices. -/
theorem exec_wrwp_of_pop {u : State} (hp : pop s = .ok v u) :
    (u.turns = [] → exec .wrwp s = .next { u with wp := v }) ∧
    ∀ d rest, u.turns = d :: rest → exec .wrwp s = .next { u.takeTurn with
      wp := v ||| (d.wakeups &&& Config.freeWord u.takeTurn.freeIndex), freeIndex := u.takeTurn.freeIndex + 1 } := by
  refine ⟨fun hu => ?_, fun d rest hu => ?_⟩ <;>
    · refine complete_ok ((bind_ok hp).trans ((bind_ok (act_get u)).trans ?_))
      rw [hu]
      rfl

theorem exec_wrwp (h : s.holds base [v]) (hu : s.undisturbed) : exec .wrwp s = .next { s with sp := base, wp := v } :=
  (exec_wrwp_of_pop (pop_holds (ws := []) h).1).1 hu

/-- The wakeups of the devices' turn during `WRWP` are lost but for the bits that an open value keeps (U15). -/
theorem exec_wrwp_disturbed {d : DeviceTurn} {rest : List DeviceTurn} (h : s.holds base [v]) (ht : s.turns = d :: rest) :
    ∃ (kept : Word) (n : Nat), exec .wrwp s =
      .next { s.takeTurn with sp := base, wp := v ||| (d.wakeups &&& kept), freeIndex := n } := by
  have hturn : { s with sp := base }.takeTurn = { s.takeTurn with sp := base } :=
    (s.takeTurn_stacked s.stack base).trans (State.stacked_same base s.takeTurn_stack)
  have hx := (exec_wrwp_of_pop (u := { s with sp := base }) (pop_holds (ws := []) h).1).2 d rest ht
  rw [hturn] at hx
  exact ⟨_, _, hx⟩

end Writes

/-- Settles O18: a read pushes, a write pops into its register. -/
theorem registers : Obligations.Registers := by
  refine ⟨fun s => ⟨fun hr => ?_, fun hr => complete_ok (pushLong_ok s.it hr)⟩, fun s base v high h =>
    ⟨popThenModify_ok _ h, exec_wrmp h, popThenModify_ok _ h, popThenModify_ok _ h, popThenModify_ok _ h, exec_wrwp h,
      fun _ _ => exec_wrwp_disturbed h, popThenModify_ok _ h, fun _ => popLongThenModify_ok _⟩⟩
  simp only [List.forall_mem_cons, List.not_mem_nil, false_imp_iff, implies_true, and_true]
  have pushed := complete_push_ok hr
  exact ⟨pushed _, pushed _, pushed _, pushed _, pushed _, pushed _⟩

end Sys2Proof.Machine
end

section
/-! SUPPORT. Routines that store nothing, whether they succeed or raise (43_immediate_frame.md R360). -/

namespace Sys2Proof.Machine

/-- `t` is `s` but for the stack and its pointer, `PC`, the map, the record of an exception and the count of free values. -/
def State.OnlyLoads (s t : State) : Prop :=
  t = { s with
    stack := t.stack, sp := t.sp, pc := t.pc, map := t.map, exception := t.exception
    freeIndex := t.freeIndex }

theorem State.byteAt_congr {s t : State} (h : t.mem = s.mem) (a : Nat) : t.byteAt a = s.byteAt a := by
  rw [State.byteAt, State.byteAt, h]

theorem State.OnlyLoads.mem {s t : State} (h : s.OnlyLoads t) : t.mem = s.mem := by rw [h]

/-- With no device acting, nothing is stored on the way from `s` to `t`. -/
def LoadRel (s t : State) : Prop := s.undisturbed → s.OnlyLoads t

namespace LoadRel

theorem refl (s : State) : LoadRel s s := fun _ => rfl

theorem trans (s t u : State) (h : LoadRel s t) (h' : LoadRel t u) : LoadRel s u := fun hs => by
  have ht := h hs
  have hu := h' (by rw [ht]; exact hs)
  rw [State.OnlyLoads, hu, ht]

theorem takeException (e : Exception) (s : State) : LoadRel s (takeException e s) := fun _ => by cases e <;> rfl

section Control
variable {α β : Type}

theorem bind {m : Act α} {f : α → Act β} (hm : Keeps LoadRel m) (hf : ∀ a, Keeps LoadRel (f a)) : Keeps LoadRel (m >>= f) :=
  keeps_bind trans hm hf

theorem pure (a : α) : Keeps LoadRel (pure a : Act α) := keeps_pure refl a

theorem get : Keeps LoadRel (get : Act State) := refl

theorem refuse (r : Refusal) : Keeps LoadRel (refuse r : Act α) := keeps_throw refl _

theorem complete {m : Act Unit} {s t : State} (hu : s.undisturbed) (hm : Keeps LoadRel m) (h : complete m s = .next t) :
    s.OnlyLoads t :=
  complete_keeps trans takeException hm h hu

end Control

/-! The evaluation stack. -/

theorem push (w : Word) : Keeps LoadRel (push w) := fun s _ => by
  by_cases h : s.sp < s.stack.length
  · rw [push_ok w h]; rfl
  · rw [push_full w h]; rfl

theorem pop : Keeps LoadRel pop := fun s _ => by
  by_cases h : s.sp = 0
  · rw [pop_empty h]; rfl
  · rw [pop_ok h]; rfl

theorem pushLong (u : Long) : Keeps LoadRel (pushLong u) := bind (push _) fun _ => push _

theorem popLong : Keeps LoadRel popLong := bind pop fun _ => bind pop fun _ => pure _

/-! Memory and the map. -/

theorem deviceTurn : Keeps LoadRel deviceTurn := fun s hu => by rw [deviceTurn_apply, hu.turn]; rfl

theorem translate (va : Long) (a : Access) : Keeps LoadRel (translate va a) := fun s _ => by
  rcases translate_cases s va a with ⟨-, h⟩ | ⟨k, h⟩ <;> rw [h]
  · obtain ⟨m, n, ht⟩ := s.touch_cases va a
    rw [ht]; rfl
  · rfl

theorem checkReal (ra : Nat) : Keeps LoadRel (checkReal ra) := bind get fun _ => keeps_ite (pure _) (refuse _)

theorem checkOverhead (va : Long) : Keeps LoadRel (checkOverhead va) := bind get fun _ => keeps_ite (refuse _) (pure _)

theorem fetch (va : Long) : Keeps LoadRel (fetch va) :=
  bind deviceTurn fun _ => bind (translate va _) fun ra => bind (checkReal ra) fun _ => bind (checkOverhead va) fun _ =>
    bind get fun _ => pure _

theorem fetchOverhead (va : Long) : Keeps LoadRel (fetchOverhead va) :=
  bind deviceTurn fun _ => bind (translate va _) fun ra => bind (checkReal ra) fun _ => bind get fun _ => pure _

theorem fetchMds (ptr : Word) : Keeps LoadRel (fetchMds ptr) := bind get fun _ => fetch _

theorem readDblMds (ptr : Word) : Keeps LoadRel (readDblMds ptr) :=
  bind get fun _ => bind (fetch _) fun _ => bind (fetch _) fun _ => pure _

theorem fetchByte (ptr offset : Long) : Keeps LoadRel (fetchByte ptr offset) := bind (fetch _) fun _ => pure _

theorem readCode (offset : Word) : Keeps LoadRel (readCode offset) := bind get fun _ => keeps_ite (fetch _) (refuse _)

theorem writeMap (vp : Long) (flags : Word) (real : Long) : Keeps LoadRel (writeMap vp flags real) :=
  keeps_get_bind fun s _ => by
    simp only [act_ite]
    split_ifs
    · rfl
    · rfl
    · rfl
    · rw [act_set, endState, State.writeMap]
      split <;> rfl

theorem realPageResult (e : MapEntry) : Keeps LoadRel (realPageResult e) := keeps_ite (fun _ _ => rfl) (pure _)

/-! The routines that load. -/

theorem loadMds (ptr : Word) : Keeps LoadRel (loadMds ptr) := bind (fetchMds ptr) fun _ => push _

theorem loadLong (va : Long) : Keeps LoadRel (loadLong va) := bind (fetch va) fun _ => push _

theorem loadDoubleMds (ptr : Word) : Keeps LoadRel (loadDoubleMds ptr) :=
  bind (fetchMds ptr) fun _ => bind (push _) fun _ => bind (fetchMds _) fun _ => push _

theorem readDoubleMds (ptr : Word) : Keeps LoadRel (readDoubleMds ptr) :=
  bind (fetchMds ptr) fun _ => bind (fetchMds _) fun _ => bind (push _) fun _ => push _

theorem readDoubleLong (va : Long) : Keeps LoadRel (readDoubleLong va) :=
  bind (fetch va) fun _ => bind (fetch _) fun _ => bind (push _) fun _ => push _

theorem readField (w : Word) (f : FieldSpec) : Keeps LoadRel (readField w f) := keeps_ite (pure _) (refuse _)

theorem loadField (va : Long) (f : FieldSpec) : Keeps LoadRel (loadField va f) :=
  bind (bind (fetch va) fun _ => readField _ f) fun _ => push _

theorem readFieldDirect (offset : Word) (f : FieldSpec) : Keeps LoadRel (readFieldDirect offset f) :=
  bind pop fun _ => bind get fun _ => loadField _ f

theorem readFieldDirectLong (offset : Long) (f : FieldSpec) : Keeps LoadRel (readFieldDirectLong offset f) :=
  bind popLong fun _ => loadField _ f

end LoadRel

end Sys2Proof.Machine
end

section
/-! The instructions that store nothing (40_map_pointer_register.md R227; 43_immediate_frame.md R360). -/

namespace Sys2Proof.Machine

/-- `t` is `s` but for `SP` and the registers that have a write instruction of their own. -/
def State.OnlyRegisters (s t : State) : Prop :=
  t = { s with
    sp := t.sp, it := t.it, mds := t.mds, mp := t.mp, psb := t.psb, ptc := t.ptc, time := t.time, wdc := t.wdc
    wp := t.wp, xts := t.xts }

theorem State.OnlyRegisters.mem {s t : State} (h : s.OnlyRegisters t) : t.mem = s.mem := by rw [h]

/-- A routine that has gone on to a next state has found the words that it removes. -/
theorem le_sp_of_removes {n : Nat} {m : Act Unit} {s t : State} (hm : Removes n m) (h : complete m s = .next t) : n ≤ s.sp := by
  by_contra hn
  rw [(hm s (Nat.lt_of_not_le hn)).complete] at h
  cases h

section Writes
variable {s t : State}

theorem popThenModify_onlyRegisters {f : Word → State → State} (hf : ∀ w n, s.OnlyRegisters (f w { s with sp := n }))
    (h : complete (do let w ← pop; modify (f w)) s = .next t) : s.OnlyRegisters t := by
  have h1 := le_sp_of_removes (Removes.popping.bind _) h
  cases h.symm.trans (complete_ok (bind_ok (pop_ok (Nat.ne_of_gt h1))))
  exact hf _ _

theorem exec_writ_onlyRegisters (h : exec .writ s = .next t) : s.OnlyRegisters t := by
  have h2 := le_sp_of_removes (.popLongThen fun _ => .nothing _) h
  cases h.symm.trans (complete_ok (bind_ok (popLong_ok h2)))
  rfl

theorem exec_wrwp_onlyRegisters (hu : s.undisturbed) (h : exec .wrwp s = .next t) : s.OnlyRegisters t := by
  have h1 := le_sp_of_removes (Removes.popping.bind _) h
  cases h.symm.trans ((exec_wrwp_of_pop (pop_ok (Nat.ne_of_gt h1))).1 hu)
  rfl

end Writes

/-- Settles O42: each instruction by the routine that it is, none of which stores; the register writes by what they pop. -/
theorem loadFrame : Obligations.LoadFrame := by
  intro s t alpha w pair f d hu
  suffices hl : (∀ i ∈ _, exec i s = .next t → s.OnlyLoads t) ∧ (∀ i ∈ _, exec i s = .next t → s.OnlyRegisters t) from
    ⟨fun i hi h => ⟨hl.1 i hi h, State.byteAt_congr (hl.1 i hi h).mem⟩,
      fun i hi h => ⟨hl.2 i hi h, State.byteAt_congr (hl.2 i hi h).mem⟩⟩
  simp only [List.forall_mem_cons, List.not_mem_nil, false_imp_iff, implies_true, and_true]
  have all {m : Act Unit} (hm : Keeps LoadRel m) (h : complete m s = .next t) : s.OnlyLoads t := LoadRel.complete hu hm h
  have push {w} := all (.push w)
  have load {ptr} := all (.loadMds ptr)
  have double {ptr} := all (.loadDoubleMds ptr)
  have direct {offset} := all (.bind .pop fun ptr => .loadMds (ptr + offset))
  have directLong {offset} := all (.bind .popLong fun ptr => .loadLong (ptr + offset))
  have directDouble {offset} := all (.bind .pop fun ptr => .readDoubleMds (ptr + offset))
  have directDoubleLong {offset} := all (.bind .popLong fun ptr => .readDoubleLong (ptr + offset))
  have indirect {base offset} := all (.bind (.fetchMds base) fun ptr => .loadMds (ptr + offset))
  have indirectLong {base offset} := all (.bind (.readDblMds base) fun ptr => .loadLong (ptr + offset))
  have indirectDouble {base offset} := all (.bind (.fetchMds base) fun ptr => .readDoubleMds (ptr + offset))
  have field {offset f} := all (.readFieldDirect offset f)
  have fieldLong {offset f} := all (.readFieldDirectLong offset f)
  refine ⟨⟨push, push, push, push, push, push, push, push, push, push, push, push, push, push, push, push, push, ?lid0,
    push, push, push, push, push, push, push, push, push, push, push, push,
    load, load, load, load, load, load, load, load, load, load, load, load, load,
    double, double, double, double, double, double, double, double, double, double, double, ?al0ib,
    load, load, load, load, double, double, double,
    direct, direct, direct, directLong, directLong, directDouble, directDouble, directDoubleLong, directDoubleLong, ?rc,
    indirect, indirect, indirect, indirect, indirect, indirectLong, indirect, indirectLong, indirectDouble, indirectDouble, ?rldilp,
    ?rs, ?rls, field, field, fieldLong, fieldLong, ?rlfs, ?rcfs, ?rlipf, ?rlilpf, ?lp, ?rob, ?rrit,
    push, push, push, push, push, push, ?sm, ?gmf, ?smf⟩,
    exec_writ_onlyRegisters, popThenModify_onlyRegisters fun _ _ => rfl, popThenModify_onlyRegisters fun v n => ?wrmp,
    popThenModify_onlyRegisters fun _ _ => rfl, popThenModify_onlyRegisters fun _ _ => rfl,
    popThenModify_onlyRegisters fun _ _ => rfl, exec_wrwp_onlyRegisters hu, popThenModify_onlyRegisters fun _ _ => rfl⟩
  case wrmp => dsimp only; split <;> rfl
  all_goals refine all ?_
  case lid0 | rrit => exact .pushLong _
  case al0ib => exact .bind (.fetchMds _) fun _ => .push _
  case rc => exact .bind .pop fun _ => .bind (.readCode _) fun _ => .push _
  case rldilp => exact .bind (.readDblMds _) fun _ => .readDoubleLong _
  case rs => exact .bind .pop fun _ => .bind .pop fun _ => .bind (.fetchByte _ _) fun _ => .push _
  case rls => exact .bind .pop fun _ => .bind .popLong fun _ => .bind (.fetchByte _ _) fun _ => .push _
  case rlfs => exact .bind .pop fun _ => .readFieldDirectLong _ _
  case rcfs =>
    exact .bind .pop fun _ => .bind .pop fun _ => .bind (.readCode _) fun _ => .bind (.readField _ _) fun _ => .push _
  case rlipf => exact .bind (.fetchMds _) fun _ => .loadField _ _
  case rlilpf => exact .bind (.readDblMds _) fun _ => .loadField _ _
  case lp => exact .bind .pop fun _ => .bind .get fun _ => .pushLong _
  case rob =>
    exact .bind .pop fun _ => keeps_ite (.bind .get fun _ => .bind (.fetchOverhead _) fun _ => .push _) (.refuse _)
  case sm => exact .bind .pop fun _ => .bind .popLong fun _ => .bind .popLong fun _ => .writeMap _ _ _
  case gmf =>
    exact .bind .popLong fun _ => .bind .get fun _ => .bind (.push _) fun _ => .bind (.realPageResult _) fun _ => .pushLong _
  case smf =>
    exact .bind .pop fun _ => .bind .popLong fun _ => .bind .get fun _ => .bind (.push _) fun _ =>
      .bind (.realPageResult _) fun _ => .bind (.pushLong _) fun _ => keeps_ite (.pure _) (.writeMap _ _ _)

end Sys2Proof.Machine
end

section
/-! Recover, discard, exchange and duplicate (41_stack.md R241 to R250). -/

namespace Sys2Proof.Machine

theorem exec_recover {s : State} (hr : s.room 1) : exec .recover s = .next { s with sp := s.sp + 1 } :=
  complete_ok (recover_ok hr)

theorem exec_recover2 {s : State} (hr : s.room 2) : exec .recover2 s = .next { s with sp := s.sp + 2 } :=
  complete_ok ((bind_ok (recover_ok (Nat.lt_of_succ_lt hr))).trans (recover_ok hr))

section Instructions
variable {s : State} {base : Nat} {a b c d : Word}

theorem exec_dis (h : s.holds base [a]) : exec .dis s = .next { s with sp := base } := by
  rw [← State.result_popped h]
  exact complete_of_holds h (discard_result (List.cons_ne_nil _ _))

theorem exec_dis2 (h : s.holds base [a, b]) : exec .dis2 s = .next { s with sp := base } := by
  rw [← State.result_popped h]
  exact complete_of_holds h <| (bind_ok (discard_result (List.cons_ne_nil _ _))).trans (discard_result (List.cons_ne_nil _ _))

theorem exec_exch (h : s.holds base [a, b]) : exec .exch s = .next (s.result base [b, a] []) := by
  have hl : base + 2 ≤ s.stack.length := State.holds_bound h
  refine complete_of_holds h ?_
  simp (disch := simp; try omega) [pop_result, push_result]

theorem exec_dexch (h : s.holds base [a, b, c, d]) : exec .dexch s = .next (s.result base [c, d, a, b] []) := by
  have hl : base + 4 ≤ s.stack.length := State.holds_bound h
  refine complete_of_holds h ?_
  simp (disch := simp; try omega) [popLong_result, pushLong_result]

theorem exec_dup (h : s.holds base [a]) (hr : s.room 1) : exec .dup s = .next (s.result base [a, a] []) := by
  have hl : base + 2 ≤ s.stack.length := by rw [State.room, h.1] at hr; exact hr
  refine complete_of_holds h ?_
  simp (disch := simp; try omega) [pop_result, push_result]

theorem exec_ddup (h : s.holds base [a, b]) (hr : s.room 2) : exec .ddup s = .next (s.result base [a, b, a, b] []) := by
  have hl : base + 4 ≤ s.stack.length := by rw [State.room, h.1] at hr; exact hr
  refine complete_of_holds h ?_
  simp (disch := simp; try omega) [popLong_result, pushLong_result]

/-- The word kept is written over the one discarded, and stays above the top where it was. -/
theorem exec_exdis (h : s.holds base [a, b]) : exec .exdis s = .next (s.result base [b] []) := by
  have hl : base + 2 ≤ s.stack.length := State.holds_bound h
  refine complete_of_holds h ?_
  simpa (disch := simp; try omega) [pop_result, push_result] using State.result_rest (vs := [a]) (above := []) h rfl

end Instructions

/-- Settles O19: each instruction run on its words. -/
theorem stackRearranging : Obligations.StackRearranging := fun _ _ _ _ _ _ =>
  ⟨exec_recover, exec_recover2, exec_dis, exec_dis2, exec_exch, exec_dexch, exec_dup, exec_ddup, exec_exdis⟩

end Sys2Proof.Machine
end

section
/-! Checks, and divides whose quotient does not exist (41_stack.md R253 to R255, R291 to R296). -/

namespace Sys2Proof.Machine

/-- A trap takes `SP` from before the instruction (R683): nothing shows of the words popped. -/
theorem complete_trap {s : State} {m : Act Unit} {k : Trap} {n : Nat}
    (h : m s = .error (.exception (.trap k)) { s with sp := n }) : complete m s = .next (takeException (.trap k) s) := by
  rw [complete_exception h]; rfl

section Operands
variable {s : State} {base : Nat} {a b c d : Word} {β : Type}

/-- A word popped and pushed again stands where it stood. -/
theorem popPush_apply (f : Word → Act β) (h : s.holds base [a]) : (do let u ← pop; push u; f u) s = f a s := by
  obtain ⟨hsp, hlt, -, hset⟩ := s.holds1 h
  refine (bind_ok (pop_holds (ws := []) h).1).trans ((bind_ok (push_ok a hlt)).trans ?_)
  dsimp only [List.length_nil, Nat.add_zero]
  rw [hset, ← hsp]

/-- So does a double word. -/
theorem popPushLong_apply (f : Long → Act β) (h : s.holds base [a, b]) :
    (do let u ← popLong; pushLong u; f u) s = f (Long.ofHalves b a) s := by
  obtain ⟨hsp, -, hlt, -, hlow, hhigh⟩ := s.holds2 h
  refine (bind_ok (popLong_holds (ws := []) h).1).trans ((bind_ok (pushLong_ok _ hlt)).trans ?_)
  dsimp only [List.length_nil, Nat.add_zero]
  rw [Long.low_ofHalves, Long.high_ofHalves, hlow, hhigh, ← hsp]

theorem popPair_apply (f : Word → Word → Act β) (h : s.holds base [a, b]) :
    (do let v ← pop; let u ← pop; f v u) s = f b a { s with sp := base } := by
  obtain ⟨hv, h⟩ := pop_holds (ws := [a]) h
  exact (bind_ok hv).trans (bind_ok (pop_holds (ws := []) h).1)

theorem popWordLong_apply (f : Word → Long → Act β) (h : s.holds base [a, b, c]) :
    (do let v ← pop; let u ← popLong; f v u) s = f c (Long.ofHalves b a) { s with sp := base } := by
  obtain ⟨hv, h⟩ := pop_holds (ws := [a, b]) h
  exact (bind_ok hv).trans (bind_ok (popLong_holds (ws := []) h).1)

theorem popLongPair_apply (f : Long → Long → Act β) (h : s.holds base [a, b, c, d]) :
    (do let v ← popLong; let u ← popLong; f v u) s = f (Long.ofHalves d c) (Long.ofHalves b a) { s with sp := base } := by
  obtain ⟨hv, h⟩ := popLong_holds (ws := [a, b]) h
  exact (bind_ok hv).trans (bind_ok (popLong_holds (ws := []) h).1)

end Operands

/-! A check, by its test: the operand stands under the limit as before. -/

section Checks
variable {s : State} {base : Nat} {a b c d : Word}

/-- The test at the end of a check, in the state that its operands have left. -/
theorem complete_check {m : Act Unit} {p : Prop} [Decidable p] {k : Trap} {n : Nat}
    (h : m s = (if p then raiseTrap k else pure () : Act Unit) { s with sp := n }) :
    complete m s = .next (if p then takeException (.trap k) s else { s with sp := n }) := by
  split at h
  · rw [if_pos ‹_›]; exact complete_trap h
  · rw [if_neg ‹_›]; exact complete_ok h

theorem exec_bndck (h : s.holds base [a, b]) :
    exec .bndck s = .next (if b ≤ a then takeException (.trap .boundsTrap) s else { s with sp := base + 1 }) := by
  obtain ⟨hrange, h⟩ := pop_holds (ws := [a]) h
  exact complete_check ((bind_ok hrange).trans (popPush_apply _ h))

theorem exec_bndckl (h : s.holds base [a, b, c, d]) : exec .bndckl s = .next
    (if Long.ofHalves d c ≤ Long.ofHalves b a then takeException (.trap .boundsTrap) s else { s with sp := base + 2 }) := by
  obtain ⟨hrange, h⟩ := popLong_holds (ws := [a, b]) h
  exact complete_check ((bind_ok hrange).trans (popPushLong_apply _ h))

theorem exec_nilckl (h : s.holds base [a, b]) :
    exec .nilckl s = .next (if Long.ofHalves b a = 0 then takeException (.trap .pointerTrap) s else s) :=
  complete_check (popPushLong_apply _ h)

end Checks

/-! A divide without a quotient traps after its pops. -/

section Divides
variable {s : State} {base : Nat} {a b c : Word}

theorem divideByZero_traps (f : Word → Word → Act Unit) (h : s.holds base [a, 0]) :
    complete (do let v ← pop; let u ← pop; if v = 0 then raiseTrap .divZeroTrap else f u v) s =
      .next (takeException (.trap .divZeroTrap) s) :=
  complete_trap (popPair_apply _ h)

theorem divideLongByZero_traps (f : Long → Long → Act Unit) (h : s.holds base [a, b, 0, 0]) :
    complete (do let v ← popLong; let u ← popLong; if v = 0 then raiseTrap .divZeroTrap else f u v) s =
      .next (takeException (.trap .divZeroTrap) s) :=
  complete_trap (popLongPair_apply _ h)

theorem exec_ludiv_zero (h : s.holds base [a, b, 0]) : exec .ludiv s = .next (takeException (.trap .divZeroTrap) s) :=
  complete_trap (popWordLong_apply _ h)

theorem exec_ludiv_overflow (h : s.holds base [a, b, c]) (hc : c ≠ 0) (hle : c ≤ b) :
    exec .ludiv s = .next (takeException (.trap .divCheckTrap) s) := by
  refine complete_trap (n := base) ((popWordLong_apply _ h).trans ?_)
  rw [if_neg hc, Long.high_ofHalves, if_pos hle, raiseTrap_apply]

end Divides

/-- Settles O20: a check by its test, a divide by its pops; where the instruction traps, what they did is undone. -/
theorem checks : Obligations.Checks := by
  refine ⟨fun s base a b c d => ⟨fun h hlt => ?bndck, fun h hlt => ?bndckl, fun h hne => ?nilckl⟩,
    fun s base a b c d => ⟨fun h hle => ?bndckTrap, fun h hle => ?bndcklTrap, fun h => ?nilcklTrap,
      fun h => ⟨divideByZero_traps _ h, divideByZero_traps _ h⟩, exec_ludiv_zero, exec_ludiv_overflow,
      fun h => ⟨divideLongByZero_traps _ h, divideLongByZero_traps _ h⟩⟩⟩
  case bndck => rw [exec_bndck h, if_neg (BitVec.not_le.2 hlt)]
  case bndckTrap => rw [exec_bndck h, if_pos (BitVec.le_def.2 hle)]
  case bndckl => rw [exec_bndckl h, if_neg (mt (Long.ofHalves_le_iff a b c d).1 (Nat.not_le.2 hlt))]
  case bndcklTrap => rw [exec_bndckl h, if_pos ((Long.ofHalves_le_iff a b c d).2 hle)]
  case nilckl =>
    have hptr : Long.ofHalves b a ≠ 0 := by rw [Ne, Long.ofHalves_eq_zero]; tauto
    rw [exec_nilckl h, if_neg hptr]
  case nilcklTrap => rw [exec_nilckl h, if_pos ((Long.ofHalves_eq_zero 0 0).2 ⟨rfl, rfl⟩)]

end Sys2Proof.Machine
end

section
/-! The binary operations (41_stack.md R272 to R290). -/

namespace Sys2Proof.Machine

/-- Settles O22: each is `binaryWord` or `binaryLong` of its function. -/
theorem binaryResults : Obligations.BinaryResults := by
  refine ⟨fun s base u v h => ?_, fun s base ul uh vl vh h => ?_⟩
  · have word (f : Word → Word → Word) := complete_ok (binaryWord_ok f h)
    simp only [List.forall_mem_cons, List.not_mem_nil, false_imp_iff, implies_true, and_true]
    exact ⟨word _, word _, word _, word fun u v => shiftWord u v.toInt, word fun u v => rotateWord u v.toInt, word _, word _⟩
  · have long (f : Long → Long → Long) := complete_ok (binaryLong_ok f h)
    simp only [List.forall_mem_cons, List.not_mem_nil, false_imp_iff, implies_true, and_true]
    exact ⟨long _, long _, long _, long _, long _, long _⟩

end Sys2Proof.Machine
end

section
/-! SUPPORT. Routines that work on the evaluation stack alone, whether they succeed or raise (41_stack.md R240). -/

namespace Sys2Proof.Machine

/-- `t` is `s` but for the stack and its pointer, and for the `PC` and the record of a trap. -/
def State.OnlyStack (s t : State) : Prop :=
  t = { s with stack := t.stack, sp := t.sp, pc := t.pc, exception := t.exception }

namespace State.OnlyStack

theorem mem {s t : State} (h : s.OnlyStack t) : t.mem = s.mem := by rw [h]

theorem refl (s : State) : s.OnlyStack s := rfl

theorem trans (s t u : State) (h : s.OnlyStack t) (h' : t.OnlyStack u) : s.OnlyStack u := by
  rw [State.OnlyStack, h', h]

theorem takeException (e : Exception) (s : State) : s.OnlyStack (takeException e s) := by cases e <;> rfl

section Control
variable {α β : Type}

theorem bind {m : Act α} {f : α → Act β} (hm : Keeps State.OnlyStack m) (hf : ∀ a, Keeps State.OnlyStack (f a)) :
    Keeps State.OnlyStack (m >>= f) :=
  keeps_bind trans hm hf

theorem pure (a : α) : Keeps State.OnlyStack (pure a : Act α) := keeps_pure refl a

theorem raiseTrap (t : Trap) : Keeps State.OnlyStack (raiseTrap t : Act α) := keeps_throw refl _

theorem refuse (r : Refusal) : Keeps State.OnlyStack (refuse r : Act α) := keeps_throw refl _

theorem complete {m : Act Unit} {s t : State} (hm : Keeps State.OnlyStack m) (h : complete m s = .next t) : s.OnlyStack t :=
  complete_keeps trans takeException hm h

end Control

theorem push (w : Word) : Keeps State.OnlyStack (push w) := fun s => by
  by_cases h : s.sp < s.stack.length
  · rw [push_ok w h]; rfl
  · rw [push_full w h]; rfl

theorem pop : Keeps State.OnlyStack pop := fun s => by
  by_cases h : s.sp = 0
  · rw [pop_empty h]; rfl
  · rw [pop_ok h]; rfl

theorem recover : Keeps State.OnlyStack recover := fun s => by
  by_cases h : s.sp < s.stack.length
  · rw [recover_ok h]; rfl
  · rw [recover_full h]; rfl

theorem discard : Keeps State.OnlyStack discard := fun s => by
  by_cases h : s.sp = 0
  · rw [discard_empty h]; rfl
  · rw [discard_ok h]; rfl

theorem pushLong (u : Long) : Keeps State.OnlyStack (pushLong u) := bind (push _) fun _ => push _

theorem popLong : Keeps State.OnlyStack popLong := bind pop fun _ => bind pop fun _ => pure _

/-! Words (`W`) and double words (`L`) popped, and what follows them. -/

section Pops
variable {α : Type}

theorem popW {f : Word → Act α} (hf : ∀ u, Keeps State.OnlyStack (f u)) : Keeps State.OnlyStack (Machine.pop >>= f) := bind pop hf

theorem popL {f : Long → Act α} (hf : ∀ u, Keeps State.OnlyStack (f u)) : Keeps State.OnlyStack (Machine.popLong >>= f) :=
  bind popLong hf

theorem popWW {f : Word → Word → Act α} (hf : ∀ v u, Keeps State.OnlyStack (f v u)) :
    Keeps State.OnlyStack (do let v ← Machine.pop; let u ← Machine.pop; f v u) := popW fun v => popW (hf v)

theorem popWL {f : Word → Long → Act α} (hf : ∀ v u, Keeps State.OnlyStack (f v u)) :
    Keeps State.OnlyStack (do let v ← Machine.pop; let u ← Machine.popLong; f v u) := popW fun v => popL (hf v)

theorem popLL {f : Long → Long → Act α} (hf : ∀ v u, Keeps State.OnlyStack (f v u)) :
    Keeps State.OnlyStack (do let v ← Machine.popLong; let u ← Machine.popLong; f v u) := popL fun v => popL (hf v)

end Pops

/-- The test at the end of a check. -/
theorem check {p : Prop} [Decidable p] (k : Trap) : Keeps State.OnlyStack (if p then Machine.raiseTrap k else return () : Act Unit) :=
  keeps_ite (raiseTrap k) (pure ())

/-! The routines of the instructions. -/

theorem unaryWord (f : Word → Word) : Keeps State.OnlyStack (unaryWord f) := popW fun _ => push _

theorem unaryLong (f : Long → Long) : Keeps State.OnlyStack (unaryLong f) := popL fun _ => pushLong _

theorem binaryWord (f : Word → Word → Word) : Keeps State.OnlyStack (binaryWord f) := popWW fun _ _ => push _

theorem binaryLong (f : Long → Long → Long) : Keeps State.OnlyStack (binaryLong f) := popLL fun _ _ => pushLong _

/-- The results of a division: the first stays, the second is discarded. -/
theorem quotient (q r : Word) : Keeps State.OnlyStack (do Machine.push q; Machine.push r; Machine.discard) :=
  bind (push q) fun _ => bind (push r) fun _ => discard

theorem quotientLong (q r : Long) :
    Keeps State.OnlyStack (do Machine.pushLong q; Machine.pushLong r; Machine.discard; Machine.discard) :=
  bind (pushLong q) fun _ => bind (pushLong r) fun _ => bind discard fun _ => discard

end State.OnlyStack

end Sys2Proof.Machine
end

section
/-! The stack instructions and the jumps write nothing else (41_stack.md R240; 42_jump.md R312). -/

namespace Sys2Proof.Machine

/-! The jumps: where one goes on to a next state, its pops have succeeded, and no trap is among its ends. -/

/-- `t` is `s` but for `SP` and `PC`. -/
def State.OnlyJumps (s t : State) : Prop := t = { s with sp := t.sp, pc := t.pc }

theorem State.OnlyJumps.mem {s t : State} (h : s.OnlyJumps t) : t.mem = s.mem := by rw [h]

section Jumps
variable {s t : State} {disp : Word}

theorem jumpBy_onlyJumps (h : complete (jumpBy disp) s = .next t) : s.OnlyJumps t := by
  cases h
  rfl

theorem exec_catchPhrase_onlyJumps {alpha : Byte} (h : exec (.catchPhrase alpha) s = .next t) : s.OnlyJumps t := by
  cases h
  rfl

theorem exec_js_onlyJumps (h : exec .js s = .next t) : s.OnlyJumps t := by
  have h1 := le_sp_of_removes Removes.popW h
  cases h.symm.trans (complete_ok (bind_ok (pop_ok (Nat.ne_of_gt h1))))
  rfl

theorem jumpOnWord_onlyJumps {test : Word → Bool} (h : complete (jumpOnWord test disp) s = .next t) : s.OnlyJumps t := by
  have h1 := le_sp_of_removes Removes.popW h
  cases h.symm.trans (complete_ok ((bind_ok (pop_ok (Nat.ne_of_gt h1))).trans (jumpIf_apply _ disp _)))
  rfl

theorem jumpOnPair_onlyJumps {test : Word → Word → Bool} (h : complete (jumpOnPair test disp) s = .next t) :
    s.OnlyJumps t := by
  have h2 := le_sp_of_removes Removes.popWW h
  have hv := pop_ok (s := s) (by omega)
  have hu := pop_ok (s := { s with sp := s.sp - 1 }) (by simp only; omega)
  cases h.symm.trans (complete_ok ((bind_ok hv).trans ((bind_ok hu).trans (jumpIf_apply _ disp _))))
  rfl

theorem jumpOnLongPair_onlyJumps {test : Long → Long → Bool} (h : complete (jumpOnLongPair test disp) s = .next t) :
    s.OnlyJumps t := by
  have h4 := le_sp_of_removes Removes.popLL h
  have hv := popLong_ok (s := s) (by omega)
  have hu := popLong_ok (s := { s with sp := s.sp - 2 }) (by simp only; omega)
  cases h.symm.trans (complete_ok ((bind_ok hv).trans ((bind_ok hu).trans (jumpIf_apply _ disp _))))
  rfl

end Jumps

/-! The indexed jumps, which read a word of their table. -/

/-- `t` is `s` but for `SP`, `PC`, and what an access to memory and its fault leave. -/
def State.OnlyJumpsByTable (s t : State) : Prop :=
  t = { s with sp := t.sp, pc := t.pc, map := t.map, freeIndex := t.freeIndex, exception := t.exception }

theorem State.OnlyJumpsByTable.mem {s t : State} (h : s.OnlyJumpsByTable t) : t.mem = s.mem := by rw [h]

/-- With no device acting, `t` is `s` but for what an indexed jump changes. -/
def TableRel (s t : State) : Prop := s.undisturbed → s.OnlyJumpsByTable t

namespace TableRel

theorem refl (s : State) : TableRel s s := fun _ => rfl

theorem trans (s t u : State) (h : TableRel s t) (h' : TableRel t u) : TableRel s u := fun hs => by
  have ht := h hs
  have hu := h' (by rw [ht]; exact hs)
  rw [State.OnlyJumpsByTable, hu, ht]

theorem takeException (e : Exception) (s : State) : TableRel s (takeException e s) := fun _ => by cases e <;> rfl

theorem pop : Keeps TableRel pop := fun s _ => by
  by_cases h : s.sp = 0
  · rw [pop_empty h]; rfl
  · rw [pop_ok h]; rfl

theorem touch (s : State) (va : Long) (a : Access) : TableRel s (s.touch va a) := fun _ => by
  obtain ⟨m, n, ht⟩ := s.touch_cases va a
  rw [ht]; rfl

theorem fetch (va : Long) : Keeps TableRel (fetch va) := fun s hu => by
  have hf := fetch_cases s va
  rw [hu.turn] at hf
  rcases hf with ⟨-, hf⟩ | ⟨-, hf⟩ | ⟨-, r, hf⟩ <;> rw [hf]
  · exact touch s va .read hu
  · exact refl s hu
  · exact touch s va .read hu

theorem readCode (offset : Word) : Keeps TableRel (readCode offset) :=
  keeps_bind trans refl fun _ => keeps_ite (fetch _) (keeps_throw refl _)

/-- An indexed jump: the place of the table word and the displacement in it are functions of the index. -/
theorem indexedJump (place : Word → Word) (disp : Word → Word → Word) : Keeps TableRel (do
    let limit ← Machine.pop
    let index ← Machine.pop
    if index < limit then
      let w ← Machine.readCode (place index)
      jumpBy (disp index w)
    else return ()) :=
  keeps_bind trans pop fun _ => keeps_bind trans pop fun _ =>
    keeps_ite (keeps_bind trans (readCode _) fun _ _ _ => rfl) (keeps_pure refl ())

theorem complete {m : Act Unit} {s t : State} (hu : s.undisturbed) (hm : Keeps TableRel m) (h : complete m s = .next t) :
    s.OnlyJumpsByTable t :=
  complete_keeps trans takeException hm h hu

end TableRel

/-- The stack instructions, each by the routine that it is. -/
theorem stackInstructions_onlyStack (s t : State) (alpha : Byte) :
    ∀ i ∈ ([.recover, .recover2, .dis, .dis2, .exch, .dexch, .dup, .ddup, .exdis, .bndck, .bndckl,
        .nilckl, .neg, .inc, .dinc, .dec, .addsb alpha, .dbl, .ddbl, .trpl, .lint, .shiftsb alpha, .and, .dand, .ior, .dior,
        .xor, .dxor, .shift, .dshift, .rotate, .add, .sub, .dadd, .dsub, .adc, .acd, .mul, .dmul, .sdiv, .udiv, .ludiv, .sddiv,
        .uddiv, .dcmp, .udcmp] : List Instr),
      exec i s = .next t → s.OnlyStack t := by
  simp only [List.forall_mem_cons, List.not_mem_nil, false_imp_iff, implies_true, and_true]
  have all {m : Act Unit} (hm : Keeps State.OnlyStack m) (h : complete m s = .next t) : s.OnlyStack t := State.OnlyStack.complete hm h
  have unary {f} := all (.unaryWord f)
  have unaryL {f} := all (.unaryLong f)
  have binary {f} := all (.binaryWord f)
  have binaryL {f} := all (.binaryLong f)
  refine ⟨?recover, ?recover2, ?dis, ?dis2, ?exch, ?dexch, ?dup, ?ddup, ?exdis, ?bndck, ?bndckl, ?nilckl,
    unary, unary, unaryL, unary, unary, unary, unaryL, unary, ?lint, ?shiftsb, binary, binaryL, binary, binaryL,
    binary, binaryL, binary, ?dshift, binary, binary, binary, binaryL, binaryL, ?adc, ?acd, ?mul, binaryL,
    ?sdiv, ?udiv, ?ludiv, ?sddiv, ?uddiv, ?dcmp, ?udcmp⟩
  all_goals refine all ?_
  case recover => exact .recover
  case recover2 => exact .bind .recover fun _ => .recover
  case dis => exact .discard
  case dis2 => exact .bind .discard fun _ => .discard
  case exch => exact .popWW fun _ _ => .bind (.push _) fun _ => .push _
  case dexch => exact .popLL fun _ _ => .bind (.pushLong _) fun _ => .pushLong _
  case dup | lint => exact .popW fun _ => .bind (.push _) fun _ => .push _
  case ddup => exact .popL fun _ => .bind (.pushLong _) fun _ => .pushLong _
  case exdis => exact .popWW fun _ _ => .push _
  case bndck => exact .popWW fun _ _ => .bind (.push _) fun _ => .check _
  case bndckl => exact .popLL fun _ _ => .bind (.pushLong _) fun _ => .check _
  case nilckl => exact .popL fun _ => .bind (.pushLong _) fun _ => .check _
  case shiftsb => exact .popW fun _ => keeps_ite (.push _) (.refuse _)
  case dshift | acd => exact .popWL fun _ _ => .pushLong _
  case adc => exact .popL fun _ => .popW fun _ => .pushLong _
  case mul => exact .popWW fun _ _ => .bind (.pushLong _) fun _ => .discard
  case sdiv | udiv => exact .popWW fun _ _ => keeps_ite (.raiseTrap _) (.quotient _ _)
  case ludiv => exact .popWL fun _ _ => keeps_ite (.raiseTrap _) (keeps_ite (.raiseTrap _) (.quotient _ _))
  case sddiv | uddiv => exact .popLL fun _ _ => keeps_ite (.raiseTrap _) (.quotientLong _ _)
  case dcmp | udcmp => exact .popLL fun _ _ => .push _

/-- Settles O29: each instruction by the routine that it is. -/
theorem stackAndJumpFrames : Obligations.StackAndJumpFrames := by
  refine ⟨fun s t alpha i hi h => ?stack, fun s t w alpha disp pair => ?jumps⟩
  case stack =>
    have hs := stackInstructions_onlyStack s t alpha i hi h
    exact ⟨hs, State.byteAt_congr hs.mem⟩
  case jumps =>
    suffices hl : (∀ i ∈ _, exec i s = .next t → s.OnlyJumps t) ∧
        (∀ i ∈ _, s.undisturbed → exec i s = .next t → s.OnlyJumpsByTable t) from
      ⟨fun i hi h => ⟨hl.1 i hi h, State.byteAt_congr (hl.1 i hi h).mem⟩,
        fun i hi hu h => ⟨hl.2 i hi hu h, State.byteAt_congr (hl.2 i hi hu h).mem⟩⟩
    simp only [List.forall_mem_cons, List.not_mem_nil, false_imp_iff, implies_true, and_true]
    have jump {disp} (h : complete (jumpBy disp) s = .next t) := jumpBy_onlyJumps h
    have word {test disp} (h : complete (jumpOnWord test disp) s = .next t) := jumpOnWord_onlyJumps h
    have words {test disp} (h : complete (jumpOnPair test disp) s = .next t) := jumpOnPair_onlyJumps h
    have longs {test disp} (h : complete (jumpOnLongPair test disp) s = .next t) := jumpOnLongPair_onlyJumps h
    refine ⟨⟨jump, jump, jump, jump, jump, jump, jump, jump, jump, exec_js_onlyJumps, exec_catchPhrase_onlyJumps,
      word, word, word, word, word, word, words, words, longs, longs, word, word, word, word, words, words, words, words,
      words, words, words, words⟩,
      fun hu => TableRel.complete hu (TableRel.indexedJump _ _), fun hu => TableRel.complete hu (TableRel.indexedJump _ _)⟩

end Sys2Proof.Machine
end

section
/-! The conditional jumps (42_jump.md R325 to R346). -/

namespace Sys2Proof.Machine

theorem Long.ofHalves_ne_iff (a b c d : Word) : Long.ofHalves b a ≠ Long.ofHalves d c ↔ a ≠ c ∨ b ≠ d := by
  rw [Ne, Long.ofHalves_inj, Decidable.not_and_iff_or_not]

/-- Settles O28: each is a jump on a word, a pair or a pair of double words; double words are equal if both halves are. -/
theorem conditionalJumps : Obligations.ConditionalJumps := by
  refine ⟨fun s base u alpha disp pair h => ?word, fun s base u v u' v' disp => ⟨fun h => ?words, fun h => ?longs⟩⟩
  all_goals simp only [List.forall_mem_cons, List.not_mem_nil, false_imp_iff, implies_true, and_true]
  case word =>
    have word {test n} := complete_ok (jumpOnWord_ok test n h)
    exact ⟨word, word, word, word, word, word, word, word, word, word⟩
  case words =>
    have words {test n} := complete_ok (jumpOnPair_ok test n h)
    exact ⟨words, words, words, words, words, words, words, words, words, words⟩
  case longs =>
    simp only [← Long.ofHalves_inj, ← Long.ofHalves_ne_iff]
    have longs {test n} := complete_ok (jumpOnLongPair_ok test n h)
    exact ⟨longs, longs⟩

end Sys2Proof.Machine
end

section
/-! The immediate instructions and the frame addresses, the loads, stores and puts of a frame (43_immediate_frame.md R362 to R395). -/

namespace Sys2Proof.Machine

/-! Loads. -/

section Loads
variable {s : State} {ptr : Word} (hu : s.undisturbed) (h : s.readable (s.lengthenPointer ptr))
include hu h

theorem complete_fetchMds_push (f : Word → Word) (hr : s.room 1) :
    complete (do let w ← fetchMds ptr; push (f w)) s =
      .next ((s.reads [s.lengthenPointer ptr]).result s.sp [f (s.wordAt (s.lengthenPointer ptr))] []) :=
  complete_ok <| (bind_ok (fetchMds_stacked s.stack s.sp hu h)).trans (push_loaded (vas := [_]) _ hr)

theorem complete_loadMds (hr : s.room 1) :
    complete (loadMds ptr) s =
      .next ((s.reads [s.lengthenPointer ptr]).result s.sp [s.wordAt (s.lengthenPointer ptr)] []) :=
  complete_fetchMds_push hu h id hr

theorem complete_loadDoubleMds (hr : s.room 2) (h1 : s.readable (s.lengthenPointer (ptr + 1))) :
    complete (loadDoubleMds ptr) s =
      .next ((s.reads [s.lengthenPointer ptr, s.lengthenPointer (ptr + 1)]).result s.sp
        [s.wordAt (s.lengthenPointer ptr), s.wordAt (s.lengthenPointer (ptr + 1))] []) :=
  complete_ok <| (loadDoubleMds_ok s.stack s.sp hu h h1 hr).trans <| congrArg _ (State.reads_loaded_two s [_, _] s.sp _ _)

end Loads

/-! Stores; a put is a store whose words are put back by moving `SP` up again. -/

theorem recover_popped {s : State} {n : Nat} (h : n < s.stack.length) :
    recover { s with sp := n } = .ok () { s with sp := n + 1 } :=
  recover_ok (s := { s with sp := n }) h

section OneWord
variable {s : State} {ptr : Word} {base : Nat} {w : Word} (hu : s.undisturbed) (hs : s.holds base [w])
  (h : s.storable (s.lengthenPointer ptr))
include hu hs h

theorem storeMdsPop_holds : storeMdsPop ptr s = .ok () { s.storeWord (s.lengthenPointer ptr) w with sp := base } :=
  storeMdsPop_loaded (vas := []) hu ((State.readableAll_nil s).2 trivial) hs h

theorem putMds_holds : putMds ptr s = .ok () (s.storeWord (s.lengthenPointer ptr) w) := by
  have hsp : base + 1 = (s.storeWord (s.lengthenPointer ptr) w).sp := by rw [State.storeWord_sp, hs.1]; rfl
  have hb : base + 1 ≤ s.stack.length := State.holds_bound hs
  refine (bind_ok (storeMdsPop_holds hu hs h)).trans ?_
  rw [recover_popped (by simpa using hb), hsp]

end OneWord

section TwoWords
variable {s : State} {ptr : Word} {base : Nat} {low high : Word} (hu : s.undisturbed) (hs : s.holds base [low, high])
  (h1 : s.storable (s.lengthenPointer (ptr + 1))) (h : s.storable (s.lengthenPointer ptr))
include hu hs h1 h

theorem storeDoubleMds_holds : storeDoubleMds ptr s =
    .ok () { (s.storeWord (s.lengthenPointer (ptr + 1)) high).storeWord (s.lengthenPointer ptr) low with sp := base } := by
  obtain ⟨hsp, -, hlow, hhigh, -⟩ := hs
  have hsp : s.sp = base + 2 := hsp
  refine (storeDoubleMds_ok s.stack s.sp hu h1 h (by omega)).trans ?_
  rw [State.stacked_same _ (by simp), hsp, show base + 2 - 1 = base + 1 from rfl, Nat.add_sub_cancel, hlow, hhigh]

theorem putDoubleMds_holds : putDoubleMds ptr s =
    .ok () ((s.storeWord (s.lengthenPointer (ptr + 1)) high).storeWord (s.lengthenPointer ptr) low) := by
  have hsp : base + 1 + 1 =
      ((s.storeWord (s.lengthenPointer (ptr + 1)) high).storeWord (s.lengthenPointer ptr) low).sp := by
    rw [State.storeWord_sp, State.storeWord_sp, hs.1]; rfl
  have hb : base + 2 ≤ s.stack.length := State.holds_bound hs
  refine (bind_ok (storeDoubleMds_holds hu hs h1 h)).trans ?_
  rw [bind_ok (recover_popped (by simp; omega)), recover_popped (by simp; omega), hsp]

end TwoWords

/-- Settles O31: each instruction loads one word or two at its pointer; `AL0IB` adds to the word before it pushes. -/
theorem frameLoads_complete : Obligations.FrameLoads := by
  refine ⟨fun s alpha hu hr => ⟨?one, fun h => complete_fetchMds_push hu h (· + byteWord alpha) hr⟩, fun s alpha hu hr => ?two⟩
  all_goals simp only [List.forall_mem_cons, List.not_mem_nil, false_imp_iff, implies_true, and_true]
  case one => and_intros <;> exact fun h => complete_loadMds hu h hr
  case two => and_intros <;> exact fun h h1 => complete_loadDoubleMds hu h hr h1

/-- Settles O32: each instruction stores one word or two at its pointer, and drops or keeps them. -/
theorem frameStores_complete : Obligations.FrameStores := by
  refine ⟨fun s base w alpha hu hs => ⟨?store, ?put⟩, fun s base low high alpha hu hs => ⟨?storeTwo, ?putTwo⟩⟩
  all_goals simp only [List.forall_mem_cons, List.not_mem_nil, false_imp_iff, implies_true, and_true]
  case store => and_intros <;> exact fun h => complete_ok (storeMdsPop_holds hu hs h)
  case put => and_intros <;> exact fun h => complete_ok (putMds_holds hu hs h)
  case storeTwo => and_intros <;> exact fun h1 h => complete_ok (storeDoubleMds_holds hu hs h1 h)
  case putTwo => and_intros <;> exact fun h1 h => complete_ok (putDoubleMds_holds hu hs h1 h)

/-- Settles O30: each instruction pushes its value, which its operand or the frame pointers give. -/
theorem immediatesAndAddresses : Obligations.ImmediatesAndAddresses := by
  refine fun s alpha w => ⟨fun hr => ?one, fun hr => complete_ok (pushLong_ok 0 hr)⟩
  simp only [List.forall_mem_cons, List.not_mem_nil, false_imp_iff, implies_true, and_true]
  and_intros <;> exact complete_push_ok hr _

end Sys2Proof.Machine
end

section
/-! SUPPORT. Accesses once a routine has popped its operands: stores of words in hand and of the word on top, and the store of a part of a
word, which is loaded first (20_memory.md R112, R113, R137; 45_string_field.md R503). -/

namespace Sys2Proof.Machine

theorem recover_two_popped {s : State} {n : Nat} (h : n + 1 < s.stack.length) :
    (do recover; recover : Act Unit) { s with sp := n } = .ok () { s with sp := n + 2 } :=
  (bind_ok (recover_popped (Nat.lt_of_succ_lt h))).trans (recover_popped h)

theorem State.storeWord_popped (s : State) (n : Nat) (va : Long) (w : Word) :
    State.storeWord { s with sp := n } va w = { s.storeWord va w with sp := n } :=
  (s.storeWord_stacked s.stack n va w).trans (State.stacked_same n (by simp))

theorem State.storeWord_storeWord_popped (s : State) (n : Nat) (va vb : Long) (v w : Word) :
    (State.storeWord { s with sp := n } va v).storeWord vb w = { (s.storeWord va v).storeWord vb w with sp := n } :=
  (congrArg (State.storeWord · vb w) (s.storeWord_popped n va v)).trans (State.storeWord_popped _ n vb w)

section Stores
variable {s : State} {n : Nat} {va vb : Long} {ptr : Word} (hu : s.undisturbed)
include hu

theorem store_popped (w : Word) (h : s.storable va) : store va w { s with sp := n } = .ok () { s.storeWord va w with sp := n } :=
  (store_ok (s := { s with sp := n }) w hu h).trans (by rw [State.storeWord_popped])

theorem storeMds_popped (w : Word) (h : s.storable (s.lengthenPointer ptr)) :
    storeMds ptr w { s with sp := n } = .ok () { s.storeWord (s.lengthenPointer ptr) w with sp := n } := store_popped hu w h

/-- The second of two stores. -/
theorem store_popped_second (v w : Word) (hb : s.storable vb) (ha : s.storable va) :
    store va w { s.storeWord vb v with sp := n } = .ok () { (s.storeWord vb v).storeWord va w with sp := n } :=
  store_popped (hu.storeWord vb v) w ((State.storable_storeWord hb.1 v va).2 ha)

theorem storeMds_popped_second (v w : Word) (hb : s.storable vb) (ha : s.storable (s.lengthenPointer ptr)) :
    storeMds ptr w { s.storeWord vb v with sp := n } =
      .ok () { (s.storeWord vb v).storeWord (s.lengthenPointer ptr) w with sp := n } := by
  have e : { s.storeWord vb v with sp := n }.lengthenPointer ptr = s.lengthenPointer ptr := lengthenPointer_congr (by simp) ptr
  rw [storeMds_eq, e, store_popped_second hu v w hb ha]

/-- A word is stored to where it has just been loaded from. -/
theorem store_fetched (w : Word) (h : s.storable va) :
    store va w ((s.touch va .read).stacked s.stack n) = .ok () { (s.reads [va]).storeWord va w with sp := n } := by
  rw [store_stacked _ _ _ (hu.touch va .read) ((State.storable_touch h.readable.accessible va).2 h),
    State.stacked_same _ (by simp)]
  rfl

/-! Words that are still on the stack. -/

variable {base : Nat} {a b : Word}

theorem storePop_popped (hs : { s with sp := n }.holds base [a]) (h : s.storable va) :
    storePop va { s with sp := n } = .ok () { s.storeWord va a with sp := base } := by
  refine (storePop_loaded (s := { s with sp := n }) (vas := []) hu ((State.readableAll_nil _).2 trivial) hs h).trans ?_
  rw [State.reads_nil, State.storeWord_popped]

theorem storeDoubleMds_popped (hs : { s with sp := n }.holds base [a, b]) (h1 : s.storable (s.lengthenPointer (ptr + 1)))
    (h : s.storable (s.lengthenPointer ptr)) : storeDoubleMds ptr { s with sp := n } =
      .ok () { (s.storeWord (s.lengthenPointer (ptr + 1)) b).storeWord (s.lengthenPointer ptr) a with sp := base } := by
  have e (p : Word) : State.lengthenPointer { s with sp := n } p = s.lengthenPointer p := rfl
  refine (storeDoubleMds_holds (s := { s with sp := n }) hu hs h1 h).trans ?_
  rw [e, e, State.storeWord_storeWord_popped]

theorem storeDoubleLong_popped (hs : { s with sp := n }.holds base [a, b]) (h1 : s.storable (va + 1)) (h : s.storable va) :
    storeDoubleLong va { s with sp := n } = .ok () { (s.storeWord (va + 1) b).storeWord va a with sp := base } := by
  refine (storeDoubleLong_loaded (s := { s with sp := n }) (vas := []) hu ((State.readableAll_nil _).2 trivial) hs h1 h).trans ?_
  rw [State.reads_nil, State.storeWord_storeWord_popped]

end Stores

end Sys2Proof.Machine
end

section
/-! The direct reads (44_pointer.md R422 to R430). -/

namespace Sys2Proof.Machine

section Reads
variable {s : State} {base : Nat} {a b : Word} (hu : s.undisturbed)
include hu

/-! Through a short pointer, which with its offset is `q`. -/

section Short
variable {offset q : Word} (hs : s.holds base [a]) (hq : a + offset = q)
include hs hq

theorem readDirect_ok (h : s.readable (s.lengthenPointer q)) : complete (readDirect offset) s =
    .next ((s.reads [s.lengthenPointer q]).result base [s.wordAt (s.lengthenPointer q)] []) := by
  subst hq
  exact complete_ok <| (bind_ok (pop_holds (ws := []) hs).1).trans <| (bind_ok (fetchMds_stacked s.stack base hu h)).trans <|
    push_loaded (vas := [_]) _ (State.holds_bound hs)

theorem readDirectDouble_ok (hr : s.room 1) (h : s.readable (s.lengthenPointer q)) (h1 : s.readable (s.lengthenPointer (q + 1))) :
    complete (readDirectDouble offset) s = .next ((s.reads [s.lengthenPointer q, s.lengthenPointer (q + 1)]).result base
      [s.wordAt (s.lengthenPointer q), s.wordAt (s.lengthenPointer (q + 1))] []) := by
  subst hq
  have hroom : base + 2 ≤ s.stack.length := by rw [State.room, hs.1] at hr; exact hr
  exact complete_ok <| (bind_ok (pop_holds (ws := []) hs).1).trans <| (readDoubleMds_ok s.stack base hu h h1 hroom).trans <|
    congrArg _ (State.reads_loaded_two s [_, _] base _ _)

end Short

theorem rc_ok {alpha : Byte} (hs : s.holds base [a]) (h : s.codeReadable (a + byteWord alpha)) :
    exec (.rc alpha) s = .next ((s.reads [s.codeAddress (a + byteWord alpha)]).result base
      [s.wordAt (s.codeAddress (a + byteWord alpha))] []) :=
  complete_ok <| (bind_ok (pop_holds (ws := []) hs).1).trans <|
    (bind_ok ((readCode_inBank (s := s.stacked s.stack base) h.1).trans (fetch_stacked s.stack base hu h.2))).trans <|
    push_loaded (vas := [_]) _ (State.holds_bound hs)

/-! Through a long pointer, which with its offset is `va`. -/

section Long
variable {offset va : Long} (hs : s.holds base [a, b]) (hva : Long.ofHalves b a + offset = va)
include hs hva

theorem readDirectLong_ok (h : s.readable va) :
    complete (readDirectLong offset) s = .next ((s.reads [va]).result base [s.wordAt va] []) := by
  subst hva
  exact complete_ok <| (bind_ok (popLong_holds (ws := []) hs).1).trans <| (bind_ok (fetch_stacked s.stack base hu h)).trans <|
    push_loaded (vas := [_]) _ (Nat.lt_of_succ_lt (State.holds_bound hs))

theorem readDirectDoubleLong_ok (h : s.readable va) (h1 : s.readable (va + 1)) : complete (readDirectDoubleLong offset) s =
    .next ((s.reads [va, va + 1]).result base [s.wordAt va, s.wordAt (va + 1)] []) := by
  subst hva
  exact complete_ok <| (bind_ok (popLong_holds (ws := []) hs).1).trans <|
    (readDoubleLong_ok s.stack base hu h h1 (State.holds_bound hs)).trans <| congrArg _ (State.reads_loaded_two s [_, _] base _ _)

end Long

end Reads

/-- Settles O33: each instruction by the pointer it pops and the offset it adds. -/
theorem directReads : Obligations.DirectReads := by
  refine ⟨fun s base ptr high alpha hu => ⟨fun hs => ?short, rc_ok hu, fun hs => ?long⟩,
    fun s base ptr high alpha hu => ⟨fun hs hr => ?shortDouble, fun hs => ?longDouble⟩⟩
  all_goals simp only [List.forall_mem_cons, List.not_mem_nil, false_imp_iff, implies_true, and_true]
  case short => exact ⟨readDirect_ok hu hs (BitVec.add_zero ptr), readDirect_ok hu hs rfl, readDirect_ok hu hs rfl⟩
  case long => exact ⟨readDirectLong_ok hu hs (BitVec.add_zero _), readDirectLong_ok hu hs rfl⟩
  case shortDouble => exact ⟨readDirectDouble_ok hu hs (BitVec.add_zero ptr) hr, readDirectDouble_ok hu hs rfl hr⟩
  case longDouble => exact ⟨readDirectDoubleLong_ok hu hs (BitVec.add_zero _), readDirectDoubleLong_ok hu hs rfl⟩

end Sys2Proof.Machine
end

section
/-! The direct writes and the put swapped forms (44_pointer.md R432 to R444). -/

namespace Sys2Proof.Machine

section Writes
variable {s : State} {base : Nat} {a b c d offset q : Word} {alpha : Byte} (hu : s.undisturbed)
include hu

/-! The pointer on top of the data. -/

theorem writeDirect_ok (hs : s.holds base [a, b]) (hq : b + offset = q) (h : s.storable (s.lengthenPointer q)) :
    complete (writeDirect offset) s = .next { s.storeWord (s.lengthenPointer q) a with sp := base } := by
  subst hq
  obtain ⟨hptr, hs⟩ := pop_holds (ws := [a]) hs
  exact complete_ok <| (bind_ok hptr).trans (storePop_popped hu hs h)

theorem wlb_ok (hs : s.holds base [a, b, c]) (h : s.storable (Long.ofHalves c b + byteLong alpha)) :
    exec (.wlb alpha) s = .next { s.storeWord (Long.ofHalves c b + byteLong alpha) a with sp := base } := by
  obtain ⟨hptr, hs⟩ := popLong_holds (ws := [a]) hs
  exact complete_ok <| (bind_ok hptr).trans (storePop_popped hu hs h)

theorem wdb_ok (hs : s.holds base [a, b, c]) (h1 : s.storable (s.lengthenPointer (c + byteWord alpha + 1)))
    (h : s.storable (s.lengthenPointer (c + byteWord alpha))) :
    exec (.wdb alpha) s = .next { (s.storeWord (s.lengthenPointer (c + byteWord alpha + 1)) b).storeWord
      (s.lengthenPointer (c + byteWord alpha)) a with sp := base } := by
  obtain ⟨hptr, hs⟩ := pop_holds (ws := [a, b]) hs
  exact complete_ok <| (bind_ok hptr).trans (storeDoubleMds_popped hu hs h1 h)

theorem wdlb_ok (hs : s.holds base [a, b, c, d]) (h1 : s.storable (Long.ofHalves d c + byteLong alpha + 1))
    (h : s.storable (Long.ofHalves d c + byteLong alpha)) :
    exec (.wdlb alpha) s = .next { (s.storeWord (Long.ofHalves d c + byteLong alpha + 1) b).storeWord
      (Long.ofHalves d c + byteLong alpha) a with sp := base } := by
  obtain ⟨hptr, hs⟩ := popLong_holds (ws := [a, b]) hs
  exact complete_ok <| (bind_ok hptr).trans (storeDoubleLong_popped hu hs h1 h)

/-! The data on top of the pointer, which is put back by moving `SP` up again. -/

theorem psb_ok (hs : s.holds base [a, b]) (h : s.storable (s.lengthenPointer (a + byteWord alpha))) :
    exec (.psb alpha) s = .next { s.storeWord (s.lengthenPointer (a + byteWord alpha)) b with sp := base + 1 } := by
  have hb : base + 2 ≤ s.stack.length := State.holds_bound hs
  refine complete_ok ((popPair_apply _ hs).trans ((bind_ok (storeMds_popped hu b h)).trans ?_))
  exact recover_popped (by simp; omega)

theorem putSwappedDouble_ok (hs : s.holds base [a, b, c]) (hq : a + offset = q) (h1 : s.storable (s.lengthenPointer (q + 1)))
    (h : s.storable (s.lengthenPointer q)) : complete (putSwappedDouble offset) s =
      .next { (s.storeWord (s.lengthenPointer (q + 1)) c).storeWord (s.lengthenPointer q) b with sp := base + 1 } := by
  subst hq
  have hb : base + 3 ≤ s.stack.length := State.holds_bound hs
  obtain ⟨hv, hs⟩ := pop_holds (ws := [a, b]) hs
  refine complete_ok ((bind_ok hv).trans ((popPair_apply _ hs).trans ?_))
  refine (bind_ok (storeMds_popped hu c h1)).trans ((bind_ok (storeMds_popped_second hu c b h1 h)).trans ?_)
  exact recover_popped (by simp; omega)

theorem pslb_ok (hs : s.holds base [a, b, c]) (h : s.storable (Long.ofHalves b a + byteLong alpha)) :
    exec (.pslb alpha) s = .next { s.storeWord (Long.ofHalves b a + byteLong alpha) c with sp := base + 2 } := by
  have hb : base + 3 ≤ s.stack.length := State.holds_bound hs
  refine complete_ok ((popWordLong_apply _ hs).trans ((bind_ok (store_popped hu c h)).trans ?_))
  exact recover_two_popped (by simp; omega)

theorem psdlb_ok (hs : s.holds base [a, b, c, d]) (h1 : s.storable (Long.ofHalves b a + byteLong alpha + 1))
    (h : s.storable (Long.ofHalves b a + byteLong alpha)) :
    exec (.psdlb alpha) s = .next { (s.storeWord (Long.ofHalves b a + byteLong alpha + 1) d).storeWord
      (Long.ofHalves b a + byteLong alpha) c with sp := base + 2 } := by
  have hb : base + 4 ≤ s.stack.length := State.holds_bound hs
  obtain ⟨hv, hs⟩ := pop_holds (ws := [a, b, c]) hs
  refine complete_ok ((bind_ok hv).trans ((popWordLong_apply _ hs).trans ?_))
  refine (bind_ok (store_popped hu d h1)).trans ((bind_ok (store_popped_second hu d c h1 h)).trans ?_)
  exact recover_two_popped (by simp; omega)

end Writes

/-- Settles O34: each instruction by the pointer it pops, under the data or over it, and by its one store or two. -/
theorem directWrites : Obligations.DirectWrites := by
  refine ⟨fun s base a b c d alpha hu => ⟨fun hs => ?write, fun hs => ⟨wlb_ok hu hs, wdb_ok hu hs⟩, fun hs => wdlb_ok hu hs⟩,
    fun s base a b c d alpha hu => ⟨fun hs => psb_ok hu hs, fun hs => ⟨?putDouble, pslb_ok hu hs⟩, fun hs => psdlb_ok hu hs⟩⟩
  all_goals simp only [List.forall_mem_cons, List.not_mem_nil, false_imp_iff, implies_true, and_true]
  case write => exact ⟨writeDirect_ok hu hs (BitVec.add_zero b), writeDirect_ok hu hs rfl⟩
  case putDouble => exact ⟨putSwappedDouble_ok hu hs (BitVec.add_zero a), putSwappedDouble_ok hu hs rfl⟩

end Sys2Proof.Machine
end

section
/-! The string instructions (45_string_field.md R480 to R485). -/

namespace Sys2Proof.Machine

/-! A byte loaded or stored once the operands have been popped (R136, R137). -/

section Bytes
variable {s : State} {base : Nat} {ptr offset va : Long} (hu : s.undisturbed) (hva : byteAddress ptr offset = va)
include hu hva

theorem loadByte_popped (hb : base < s.stack.length) (h : s.readable va) :
    (do let b ← fetchByte ptr offset; push (byteWord b) : Act Unit) { s with sp := base } =
      .ok () ((s.reads [va]).result base [byteWord (selectByte (s.wordAt va) offset)] []) := by
  subst hva
  refine (bind_ok (fetchByte_ok (s := { s with sp := base }) hu h)).trans ?_
  refine (congrArg _ (s.touch_stacked s.stack base _ .read)).trans (push_loaded (vas := [_]) _ hb)

theorem storeByte_popped (b : Byte) (h : s.storable va) : storeByte ptr offset b { s with sp := base } =
    .ok () { (s.reads [va]).storeWord va (replaceByte (s.wordAt va) offset b) with sp := base } := by
  subst hva
  exact (bind_ok (fetch_stacked s.stack base hu h.readable)).trans (store_fetched hu _ h)

end Bytes

/-! Where the byte of a short string stands (R481, D8). -/

theorem lengthen_shiftRight (w : Word) (n : Nat) : lengthen w >>> n = lengthen (w >>> n) := by
  simp [lengthen, BitVec.setWidth_ushiftRight]

@[simp] theorem lengthen_zero : lengthen 0#16 = 0#32 := rfl

theorem State.byteAddress_string (s : State) (ptr offset : Word) :
    byteAddress (s.stringBase ptr offset) (s.stringRest offset) =
      if s.cfg.stringWraps then s.lengthenPointer (ptr + (offset >>> 1)) else s.lengthenPointer ptr + lengthen (offset >>> 1) := by
  have hbit : (offset &&& 1#16) >>> 1 = 0#16 := by rw [BitVec.ushiftRight_and_distrib]; exact BitVec.and_zero
  cases hw : s.cfg.stringWraps <;> simp [byteAddress, State.stringBase, State.stringRest, hw, lengthen_shiftRight, hbit]

theorem State.getLsbD_stringRest (s : State) (offset : Word) : (s.stringRest offset).getLsbD 0 = offset.getLsbD 0 := by
  cases hw : s.cfg.stringWraps <;> simp [State.stringRest, hw, lengthen]

theorem State.selectByte_stringRest (s : State) (w offset : Word) :
    selectByte w (s.stringRest offset) = if offset.getLsbD 0 then Word.right w else Word.left w := by
  rw [selectByte, s.getLsbD_stringRest]

theorem State.replaceByte_stringRest (s : State) (w offset : Word) (b : Byte) :
    replaceByte w (s.stringRest offset) b = if offset.getLsbD 0 then Word.left w ++ b else b ++ Word.right w := by
  rw [replaceByte, s.getLsbD_stringRest]

section Strings
variable {s : State} {base : Nat} {data ptr high index : Word} {alpha : Byte} {va : Long} (hu : s.undisturbed)

section Short
variable (hva : byteAddress (s.stringBase ptr (stringOffset alpha index)) (s.stringRest (stringOffset alpha index)) = va)
include hu hva

theorem rs_ok (hs : s.holds base [ptr, index]) (h : s.readable va) :
    exec (.rs alpha) s = .next ((s.reads [va]).result base
      [byteWord (if (stringOffset alpha index).getLsbD 0 then Word.right (s.wordAt va) else Word.left (s.wordAt va))] []) := by
  have hb : base + 2 ≤ s.stack.length := State.holds_bound hs
  rw [← s.selectByte_stringRest]
  exact complete_ok <| (popPair_apply _ hs).trans (loadByte_popped hu hva (by omega) h)

theorem ws_ok (hs : s.holds base [data, ptr, index]) (h : s.storable va) :
    exec (.ws alpha) s = .next { (s.reads [va]).storeWord va
      (if (stringOffset alpha index).getLsbD 0 then Word.left (s.wordAt va) ++ Word.right data
        else Word.right data ++ Word.right (s.wordAt va)) with sp := base } := by
  obtain ⟨hindex, hs⟩ := pop_holds (ws := [data, ptr]) hs
  rw [← s.replaceByte_stringRest]
  exact complete_ok <| (bind_ok hindex).trans <| (popPair_apply _ hs).trans (storeByte_popped hu hva _ h)

end Short

section Long
variable (hva : byteAddress (Long.ofHalves high ptr) (longStringOffset alpha index) = va)
include hu hva

theorem rls_ok (hs : s.holds base [ptr, high, index]) (h : s.readable va) : exec (.rls alpha) s =
    .next ((s.reads [va]).result base [byteWord (selectByte (s.wordAt va) (longStringOffset alpha index))] []) := by
  have hb : base + 3 ≤ s.stack.length := State.holds_bound hs
  exact complete_ok <| (popWordLong_apply _ hs).trans (loadByte_popped hu hva (by omega) h)

theorem wls_ok (hs : s.holds base [data, ptr, high, index]) (h : s.storable va) :
    exec (.wls alpha) s = .next { (s.reads [va]).storeWord va
      (replaceByte (s.wordAt va) (longStringOffset alpha index) (Word.right data)) with sp := base } := by
  obtain ⟨hindex, hs⟩ := pop_holds (ws := [data, ptr, high]) hs
  obtain ⟨hptr, hs⟩ := popLong_holds (ws := [data]) hs
  exact complete_ok <| (bind_ok hindex).trans <| (bind_ok hptr).trans <| (bind_ok (pop_holds (ws := []) hs).1).trans
    (storeByte_popped hu hva _ h)

end Long

end Strings

/-- Settles O36: each instruction by the word that its byte offset leads to, and the half of it. -/
theorem stringInstructions : Obligations.StringInstructions := by
  intro s base data ptr high index alpha hu
  have hva := s.byteAddress_string ptr (stringOffset alpha index)
  exact ⟨rs_ok hu hva, rls_ok hu rfl, ws_ok hu hva, wls_ok hu rfl⟩

end Sys2Proof.Machine
end

section
/-! The field writes of a legal field (45_string_field.md R501, R503, R515 to R524). -/

namespace Sys2Proof.Machine

section Fields
variable {s : State} {base n : Nat} {va : Long} {a b c : Word} {f : FieldSpec}

/-- The field of a word is stored once the operands have been popped. -/
theorem storeField_popped (hu : s.undisturbed) (hf : f.wellFormed = true) (data : Word) (h : s.storable va) :
    storeField va f data { s with sp := n } =
      .ok () { (s.reads [va]).storeWord va (writeFieldOf (s.wordAt va) f data) with sp := n } :=
  (bind_ok (fetch_stacked s.stack n hu h.readable)).trans <| (bind_ok (writeField_legal hf _ _ _)).trans (store_fetched hu _ h)

variable (hu : s.undisturbed) (hf : f.wellFormed = true)
include hu hf

theorem writeFieldDirect_ok {offset : Word} (hs : s.holds base [a, b]) (hva : s.lengthenPointer (b + offset) = va)
    (h : s.storable va) : complete (writeFieldDirect offset f) s =
      .next { (s.reads [va]).storeWord va (writeFieldOf (s.wordAt va) f a) with sp := base } := by
  subst hva
  exact complete_ok <| (popPair_apply _ hs).trans <| (bind_ok (act_get _)).trans (storeField_popped hu hf a h)

theorem writeFieldSwapped_ok {offset : Word} (hs : s.holds base [a, b]) (hva : s.lengthenPointer (a + offset) = va)
    (h : s.storable va) : writeFieldSwapped offset f s =
      .ok () { (s.reads [va]).storeWord va (writeFieldOf (s.wordAt va) f b) with sp := base } := by
  subst hva
  exact (popPair_apply _ hs).trans <| (bind_ok (act_get _)).trans (storeField_popped hu hf b h)

/-- The put forms leave the pointer on the stack (R522, R523). -/
theorem putFieldSwapped_ok {offset : Word} (hs : s.holds base [a, b]) (hva : s.lengthenPointer (a + offset) = va)
    (h : s.storable va) : complete (do writeFieldSwapped offset f; recover) s =
      .next { (s.reads [va]).storeWord va (writeFieldOf (s.wordAt va) f b) with sp := base + 1 } := by
  have hb : base + 2 ≤ s.stack.length := State.holds_bound hs
  refine complete_ok ((bind_ok (writeFieldSwapped_ok hu hf hs hva h)).trans ?_)
  exact recover_popped (by simp; omega)

theorem writeFieldDirectLong_ok {offset : Long} (hs : { s with sp := n }.holds base [a, b, c])
    (hva : Long.ofHalves c b + offset = va) (h : s.storable va) : writeFieldDirectLong offset f { s with sp := n } =
      .ok () { (s.reads [va]).storeWord va (writeFieldOf (s.wordAt va) f a) with sp := base } := by
  subst hva
  obtain ⟨hptr, hs⟩ := popLong_holds (ws := [a]) hs
  exact (bind_ok hptr).trans <| (bind_ok (pop_holds (ws := []) hs).1).trans (storeField_popped hu hf a h)

end Fields

/-- The pointer under the data is long, and stays on the stack (R524). -/
theorem pslf_ok {s : State} {base : Nat} {a b c : Word} {desc : FieldDesc} (hu : s.undisturbed)
    (hf : desc.field.wellFormed = true) (hs : s.holds base [a, b, c])
    (h : s.storable (Long.ofHalves b a + byteLong desc.offset)) :
    exec (.pslf desc) s = .next { (s.reads [Long.ofHalves b a + byteLong desc.offset]).storeWord
      (Long.ofHalves b a + byteLong desc.offset)
      (writeFieldOf (s.wordAt (Long.ofHalves b a + byteLong desc.offset)) desc.field c) with sp := base + 2 } := by
  have hb : base + 3 ≤ s.stack.length := State.holds_bound hs
  refine complete_ok ((popWordLong_apply _ hs).trans ((bind_ok (storeField_popped hu hf c h)).trans ?_))
  exact recover_two_popped (by simp; omega)

/-- The descriptor is on top of the stack (R519). -/
theorem wlfs_ok {s : State} {base : Nat} {a b c w : Word} (hu : s.undisturbed) (hf : (fieldDesc w).field.wellFormed = true)
    (hs : s.holds base [a, b, c, w]) (h : s.storable (Long.ofHalves c b + byteLong (fieldDesc w).offset)) :
    exec .wlfs s = .next { (s.reads [Long.ofHalves c b + byteLong (fieldDesc w).offset]).storeWord
      (Long.ofHalves c b + byteLong (fieldDesc w).offset)
      (writeFieldOf (s.wordAt (Long.ofHalves c b + byteLong (fieldDesc w).offset)) (fieldDesc w).field a) with sp := base } := by
  obtain ⟨hw, hs⟩ := pop_holds (ws := [a, b, c]) hs
  exact complete_ok <| (bind_ok hw).trans (writeFieldDirectLong_ok hu hf hs rfl h)

/-- Settles O39: each instruction by the address it computes, whose word's field it replaces. -/
theorem fieldWrites : Obligations.FieldWrites := by
  intro s base a b c w desc hu hf
  simp only [List.forall_mem_cons, List.not_mem_nil, false_imp_iff, implies_true, and_true]
  refine ⟨fun hs => ⟨⟨writeFieldDirect_ok hu hf hs rfl, writeFieldDirect_ok hu hf hs (by simp)⟩,
      fun h => complete_ok (writeFieldSwapped_ok hu hf hs (by simp) h), putFieldSwapped_ok hu hf hs (by simp),
      putFieldSwapped_ok hu hf hs rfl⟩,
    fun hs => ⟨⟨fun h => complete_ok (writeFieldDirectLong_ok hu hf hs rfl h),
      fun h => complete_ok (writeFieldDirectLong_ok hu hf hs (by simp) h)⟩, pslf_ok hu hf hs⟩,
    fun hs hf' => wlfs_ok hu hf' hs⟩

end Sys2Proof.Machine
end

section
/-! The units of the block transfers (46_block.md R542, R550 to R552; 47_bitblt_txtblt.md R572, R576, R577). -/

namespace Sys2Proof.Machine

theorem checksumStep_toNat (c d : Word) :
    (checksumStep c d).toNat =
      let sum := c.toNat + d.toNat
      let carried := if 65536 ≤ sum then sum - 65535 else sum
      2 * carried % 65536 + carried / 32768 := by
  have hc := c.isLt
  have hd := d.isLt
  have hcarry : c + d < c ↔ 65536 ≤ c.toNat + d.toNat := by
    rw [BitVec.lt_def, BitVec.toNat_add]; omega
  have htemp : (if c + d < c then c + d + 1 else c + d).toNat =
      if 65536 ≤ c.toNat + d.toNat then c.toNat + d.toNat - 65535 else c.toNat + d.toNat := by
    simp only [hcarry]
    split <;> simp only [BitVec.toNat_add, BitVec.ofNat_eq_ofNat, BitVec.toNat_ofNat] <;> omega
  simp only [checksumStep]
  generalize (if c + d < c then c + d + 1 else c + d) = temp at htemp ⊢
  rw [← htemp]
  have ht := temp.isLt
  have hhigh : (0x8000 : Word) ≤ temp ↔ 32768 ≤ temp.toNat := by rw [BitVec.le_def]; rfl
  simp only [hhigh]
  split <;> simp only [BitVec.toNat_add, BitVec.toNat_mul, BitVec.ofNat_eq_ofNat, BitVec.toNat_ofNat] <;> omega

/-- The linear byte address of a byte position. -/
def BytePosition.place (p : BytePosition) : Nat := 2 * p.base.toNat + p.offset.toNat

theorem offset_le_one (p : BytePosition) : p.offset.toNat ≤ 1 ↔ p.offset = 0 ∨ p.offset = 1 := by
  simp only [← BitVec.toNat_inj, BitVec.ofNat_eq_ofNat, BitVec.toNat_ofNat]
  omega

theorem normaliseByte_offset (p : BytePosition) : (normaliseByte p).offset.toNat = p.offset.toNat % 2 := by
  simp [normaliseByte, Nat.and_one_is_mod]

theorem normaliseByte_place (p : BytePosition) : (normaliseByte p).place % 2 ^ 33 = p.place % 2 ^ 33 := by
  have ho := p.offset.isLt
  rw [BytePosition.place, normaliseByte_offset]
  simp only [normaliseByte, BytePosition.place, BitVec.toNat_add, lengthen, BitVec.toNat_setWidth, BitVec.toNat_ushiftRight,
    Nat.shiftRight_eq_div_pow]
  omega

theorem normaliseByte_of_offset {p : BytePosition} (h : p.offset.toNat ≤ 1) : normaliseByte p = p := by
  obtain ⟨base, offset⟩ := p
  rcases (offset_le_one _).1 h with rfl | rfl <;> simp [normaliseByte, lengthen]

theorem nextByte_place {p : BytePosition} (h : p.offset.toNat ≤ 1) :
    (nextByte p).offset.toNat ≤ 1 ∧ (nextByte p).place % 2 ^ 33 = (p.place + 1) % 2 ^ 33 := by
  obtain ⟨base, offset⟩ := p
  rcases (offset_le_one _).1 h with rfl | rfl
  · simp [nextByte, BytePosition.place]
  · simp only [nextByte, BytePosition.place, if_true, BitVec.toNat_add, BitVec.ofNat_eq_ofNat, BitVec.toNat_ofNat]
    omega

theorem previousByte_place {p : BytePosition} (h : p.offset.toNat ≤ 1) :
    (previousByte p).offset.toNat ≤ 1 ∧ (previousByte p).place % 2 ^ 33 = (p.place + 2 ^ 33 - 1) % 2 ^ 33 := by
  obtain ⟨base, offset⟩ := p
  have hb := base.isLt
  have h0 : (0 : Word).toNat = 0 := rfl
  have h1 : (1 : Word).toNat = 1 := rfl
  rcases (offset_le_one _).1 h with rfl | rfl
  · have hbase : (base - 1).toNat = (2 ^ 32 - 1 + base.toNat) % 2 ^ 32 := BitVec.toNat_sub ..
    simp only [previousByte, BytePosition.place, if_true, h0, h1, hbase]
    omega
  · have hne : ¬ (1 : Word) = 0 := by decide
    simp only [previousByte, BytePosition.place, if_neg hne, h0, h1]
    omega

theorem Long.toNat_eq_toInt_emod (u : Long) : (u.toNat : Int) = u.toInt % 2 ^ 32 := by
  have hlt := u.isLt
  rw [BitVec.toInt_eq_toNat_cond]
  split <;> omega

theorem nibbleLong_toNat (n : Nibble) : (nibbleLong n).toNat = n.toNat := by
  have hlt := n.isLt
  rw [nibbleLong, BitVec.toNat_setWidth, Nat.mod_eq_of_lt (by omega)]

theorem arithShiftRight4_toInt (u : Long) : (arithShiftRight4 u).toInt = u.toInt / 16 := by
  rw [arithShiftRight4, BitVec.toInt_sshiftRight, Int.shiftRight_eq_div_pow]
  rfl

/-- The sum of a signed offset and a bit number that does not overflow. -/
theorem add_nibbleLong_toInt {offset : Long} {n : Nibble} (h : offset.toInt + n.toNat < 2 ^ 31) :
    (offset + nibbleLong n).toInt = offset.toInt + n.toNat := by
  have hlow := BitVec.le_toInt offset
  have hadd := congrArg (Nat.cast (R := Int)) (BitVec.toNat_add offset (nibbleLong n))
  rw [nibbleLong_toNat] at hadd
  have ho := Long.toNat_eq_toInt_emod offset
  have hsum := (offset + nibbleLong n).toInt_eq_toNat_cond
  have hn := n.isLt
  omega

/-- `Bump` adds the offset to the linear bit address (R572). -/
theorem bump_place (a : BitAddress) {offset : Long} (h : offset.toInt + a.bit.toNat < 2 ^ 31) :
    (16 * ((bump a offset).word.toNat : Int) + (bump a offset).bit.toNat) % 2 ^ 36 =
      (16 * (a.word.toNat : Int) + a.bit.toNat + offset.toInt) % 2 ^ 36 := by
  have hsum := add_nibbleLong_toInt h
  have hshift := Long.toNat_eq_toInt_emod (arithShiftRight4 (offset + nibbleLong a.bit))
  have hlow := Long.toNat_eq_toInt_emod (offset + nibbleLong a.bit)
  rw [arithShiftRight4_toInt, hsum] at hshift
  rw [hsum] at hlow
  have hword : ((bump a offset).word.toNat : Int) =
      (a.word.toNat + (arithShiftRight4 (offset + nibbleLong a.bit)).toNat) % 2 ^ 32 :=
    congrArg (Nat.cast (R := Int)) (BitVec.toNat_add ..)
  have hbit : ((bump a offset).bit.toNat : Int) = (offset + nibbleLong a.bit).toNat % 2 ^ 4 :=
    congrArg (Nat.cast (R := Int)) (BitVec.extractLsb'_toNat ..)
  omega

theorem bitFunction_rules (f : BitBltFlags) (dst src : Bool) :
     let s := if f.srcFunc = .complement then !src else src
     (f.dstFunc = .null → bitFunction f dst src = s) ∧
     (f.dstFunc = .and → (bitFunction f dst src = true ↔ s = true ∧ dst = true)) ∧
     (f.dstFunc = .or → (bitFunction f dst src = true ↔ s = true ∨ dst = true)) ∧
     (f.dstFunc = .xor → (bitFunction f dst src = true ↔ s ≠ dst)) := by
  cases hs : f.srcFunc <;> refine ⟨fun h => ?_, fun h => ?_, fun h => ?_, fun h => ?_⟩ <;> simp [bitFunction, hs, h]

/-- Settles O51: each unit by its own rule. -/
theorem unitRules : Obligations.UnitRules := by
  refine ⟨checksumStep_toNat, fun p => ⟨?_, normaliseByte_place p, fun h => ?_⟩, fun a offset h => bump_place a h, bitFunction_rules⟩
  · rw [normaliseByte_offset]; omega
  · exact ⟨normaliseByte_of_offset h, (nextByte_place h).1, (nextByte_place h).2, previousByte_place h⟩

end Sys2Proof.Machine
end

section
/-! SUPPORT. Devices that raise wakeups only: their turns change nothing that an access depends on, and come to the same whether they are
taken before an access or after it (20_memory.md R140; 46_block.md R531). -/

namespace Sys2Proof.Machine

/-- The state with other wakeups pending and with other turns of the devices to come. -/
def State.awake (s : State) (w : Word) (ds : List DeviceTurn) : State := { s with wp := w, turns := ds }

/-- The wakeups that the devices' next turn raises. -/
def State.raised (s : State) : Word :=
  match s.turns with
  | [] => 0
  | d :: _ => d.wakeups

theorem State.raised_congr {s t : State} (h : t.turns = s.turns) : t.raised = s.raised := by rw [State.raised, h, State.raised]

/-! Other wakeups and turns do not matter to an access. -/

section Awake
variable (s : State) (w : Word) (ds : List DeviceTurn)

theorem State.writeMap_awake (vp : Nat) (g : Word) (r : Long) :
    (s.awake w ds).writeMap vp g r = (s.writeMap vp g r).awake w ds := by
  by_cases h : s.cfg.virtualPage vp = true <;> simp [State.writeMap, State.awake, h]

theorem State.touch_awake (va : Long) (a : Access) : (s.awake w ds).touch va a = (s.touch va a).awake w ds := by
  have hcfg : (s.awake w ds).cfg = s.cfg := rfl
  have hentry : (s.awake w ds).entryOf va = s.entryOf va := rfl
  have hfree : (s.awake w ds).freeIndex = s.freeIndex := rfl
  simp only [State.touch, hcfg, hentry, hfree, State.writeMap_awake]
  by_cases hr : s.cfg.residentPage (virtualPageOf va) = true
  · by_cases hf : residentFlags (s.entryOf va).flags a (Config.freeWord s.freeIndex) = (s.entryOf va).flags
    · simp only [hr, if_true, hf]; rfl
    · simp only [hr, if_true, hf, if_false]; rfl
  · simp only [hr]; rfl

theorem State.storeWord_awake (va : Long) (v : Word) : (s.awake w ds).storeWord va v = (s.storeWord va v).awake w ds := by
  rw [State.storeWord, State.touch_awake]; rfl

theorem State.copyWord_awake (p q : Long) : (s.awake w ds).copyWord p q = (s.copyWord p q).awake w ds := by
  rw [State.copyWord, State.touch_awake, State.storeWord_awake]; rfl

theorem State.result_awake (base : Nat) (ws above : List Word) :
    (s.awake w ds).result base ws above = (s.result base ws above).awake w ds := rfl

end Awake

/-! Turns that raise wakeups only. -/

namespace State.onlyWakeups
variable {s : State}

theorem takeTurn_eq (h : s.onlyWakeups) : s.takeTurn = s.awake (s.wp ||| s.raised) s.turns.tail := by
  cases ht : s.turns with
  | nil =>
    have hs : s.awake (s.wp ||| 0) [] = s := by
      rw [show s.wp ||| 0 = s.wp from BitVec.or_zero, ← ht]; rfl
    simp only [State.takeTurn, State.raised, ht, List.tail_nil, hs]
  | cons d ds =>
    have hd : d.accesses = [] := h d (by simp [ht])
    simp [State.takeTurn_cons ht, State.raised, State.awake, State.deviceAccesses, ht, hd]

theorem of_turns {t : State} (h : s.onlyWakeups) (ht : t.turns = s.turns) : t.onlyWakeups := fun d hd => h d (ht ▸ hd)

theorem takeTurn (h : s.onlyWakeups) : s.takeTurn.onlyWakeups := fun d hd =>
  h d (List.mem_of_mem_tail (by simpa using hd))

theorem takeTurns (h : s.onlyWakeups) (n : Nat) : (s.takeTurns n).onlyWakeups := by
  induction n with
  | zero => exact h
  | succ n ih => rw [State.takeTurns_succ]; exact ih.takeTurn

theorem of_undisturbed (h : s.undisturbed) : s.onlyWakeups := by simp [State.onlyWakeups, h]

theorem touch (h : s.onlyWakeups) (va : Long) (a : Access) : (s.touch va a).onlyWakeups := h.of_turns (by simp)

theorem storeWord (h : s.onlyWakeups) (va : Long) (w : Word) : (s.storeWord va w).onlyWakeups := h.of_turns (by simp)

/-- Turns of the devices come to other wakeups and other turns to come. -/
theorem takeTurns_eq (h : s.onlyWakeups) (n : Nat) : s.takeTurns n = s.awake (s.takeTurns n).wp (s.takeTurns n).turns := by
  induction n with
  | zero => rfl
  | succ n ih =>
    rw [State.takeTurns_succ, (h.takeTurns n).takeTurn_eq, ih]
    rfl

/-- What turns of the devices leave does not depend on the rest of the state. -/
theorem takeTurns_congr {t : State} (h : s.onlyWakeups) (hw : t.wp = s.wp) (ht : t.turns = s.turns) (n : Nat) :
    (t.takeTurns n).wp = (s.takeTurns n).wp ∧ (t.takeTurns n).turns = (s.takeTurns n).turns := by
  induction n with
  | zero => exact ⟨hw, ht⟩
  | succ n ih =>
    obtain ⟨ihw, iht⟩ := ih
    simp only [State.takeTurns_succ, (h.takeTurns n).takeTurn_eq, ((h.of_turns ht).takeTurns n).takeTurn_eq]
    exact ⟨by simp only [State.awake, ihw, State.raised_congr iht], by simp only [State.awake, iht]⟩

theorem touch_takeTurn (h : s.onlyWakeups) (va : Long) (a : Access) : s.takeTurn.touch va a = (s.touch va a).takeTurn := by
  rw [h.takeTurn_eq, (h.touch va a).takeTurn_eq, State.touch_awake, State.raised_congr (s.touch_turns va a)]
  simp

theorem storeWord_takeTurn (h : s.onlyWakeups) (va : Long) (w : Word) :
    s.takeTurn.storeWord va w = (s.storeWord va w).takeTurn := by
  rw [h.takeTurn_eq, (h.storeWord va w).takeTurn_eq, State.storeWord_awake, State.raised_congr (s.storeWord_turns va w)]
  simp

theorem result_takeTurn (h : s.onlyWakeups) (base : Nat) (ws above : List Word) :
    (s.result base ws above).takeTurn = s.takeTurn.result base ws above := by
  have hr : (s.result base ws above).onlyWakeups := h
  rw [h.takeTurn_eq, hr.takeTurn_eq, State.result_awake]
  rfl

theorem result_takeTurns (h : s.onlyWakeups) (n base : Nat) (ws above : List Word) :
    (s.result base ws above).takeTurns n = (s.takeTurns n).result base ws above := by
  induction n with
  | zero => rfl
  | succ n ih => rw [State.takeTurns_succ, ih, (h.takeTurns n).result_takeTurn, State.takeTurns_succ]

theorem readable_takeTurn (h : s.onlyWakeups) {va : Long} : s.takeTurn.readable va ↔ s.readable va := by
  rw [h.takeTurn_eq]; exact Iff.rfl

theorem storable_takeTurn (h : s.onlyWakeups) {va : Long} : s.takeTurn.storable va ↔ s.storable va := by
  rw [h.takeTurn_eq]; exact Iff.rfl

theorem wordAt_takeTurn (h : s.onlyWakeups) (va : Long) : s.takeTurn.wordAt va = s.wordAt va := by
  rw [h.takeTurn_eq]; rfl

theorem samePages_takeTurn (h : s.onlyWakeups) : s.SamePages s.takeTurn := fun vp => by
  rw [h.takeTurn_eq]; exact ⟨rfl, rfl, rfl⟩

end State.onlyWakeups

theorem State.takeTurns_undisturbed {s : State} (h : s.undisturbed) (n : Nat) : s.takeTurns n = s := by
  induction n with
  | zero => rfl
  | succ n ih => rw [State.takeTurns_succ, ih, h.turn]

/-! Accesses that succeed, with a turn of the devices before each. -/

section Accesses
variable {s : State} {va : Long} (h : s.onlyWakeups)
include h

theorem fetch_woken (hr : s.readable va) : fetch va s = .ok (s.wordAt va) (s.touch va .read).takeTurn := by
  have hr' := h.readable_takeTurn.2 hr
  rw [← h.touch_takeTurn, ← h.wordAt_takeTurn]
  simp only [fetch, act_bind, deviceTurn_apply]
  generalize s.takeTurn = t at hr' ⊢
  simp [translate_ok hr'.accessible, checkReal, hr'.1.2, checkOverhead, State.isOverhead_touch, hr'.2, State.wordAt]

theorem store_woken (w : Word) (hs : s.storable va) : store va w s = .ok () (s.storeWord va w).takeTurn := by
  have hs' := h.storable_takeTurn.2 hs
  rw [← h.storeWord_takeTurn]
  simp only [store, act_bind, deviceTurn_apply]
  generalize s.takeTurn = t at hs' ⊢
  simp [translate_ok hs'.1.accessible, checkReal, hs'.1.1.2, checkOverhead, State.isOverhead_touch, hs'.2, State.storeWord]

end Accesses

end Sys2Proof.Machine
end

section
/-! SUPPORT. The one loop of all the block instructions (46_block.md R531, R532): the operands are popped, one unit is worked on, the
updated operands are pushed, and interrupts are tested for. -/

namespace Sys2Proof.Machine

/-! Words popped and pushed together. -/

/-- The top `n` words of the stack, the top one last. -/
def State.topWords (s : State) (n : Nat) : List Word := (List.range n).map fun i => s.stack.getD (s.sp - n + i) 0

/-- Pop `n` words; the one that was on top is the last. -/
def popWords : Nat → Act (List Word)
  | 0 => return []
  | n + 1 => do
    let w ← pop
    let ws ← popWords n
    return ws ++ [w]

/-- Push words, the last one on top. -/
def pushWords : List Word → Act Unit
  | [] => return ()
  | w :: ws => do
    push w
    pushWords ws

@[simp] theorem State.length_topWords (s : State) (n : Nat) : (s.topWords n).length = n := by simp [State.topWords]

theorem State.topWords_congr {s t : State} (hst : t.stack = s.stack) (hsp : t.sp = s.sp) (n : Nat) :
    t.topWords n = s.topWords n := by rw [State.topWords, hst, hsp]; rfl

theorem map_range_of_wordsFrom {st ws : List Word} {base : Nat} (h : wordsFrom st base ws) :
    (List.range ws.length).map (fun i => st.getD (base + i) 0) = ws := by
  induction ws generalizing base with
  | nil => rfl
  | cons w ws ih =>
    obtain ⟨hw, hws⟩ := h
    rw [List.length_cons, List.range_succ_eq_map, List.map_cons, List.map_map, Nat.add_zero, hw]
    refine congrArg (w :: ·) (Eq.trans ?_ (ih hws))
    simp only [Function.comp_def, Nat.succ_eq_add_one, Nat.add_assoc, Nat.add_comm 1]

theorem State.holds.topWords {s : State} {base : Nat} {ws : List Word} (h : s.holds base ws) : s.topWords ws.length = ws := by
  obtain ⟨hsp, -, hws⟩ := h
  rw [State.topWords, hsp, Nat.add_sub_cancel]
  exact map_range_of_wordsFrom hws

theorem wordsFrom_setWords {st : List Word} {base : Nat} (ws above : List Word) (h : base + ws.length ≤ st.length) :
    wordsFrom (setWords st base (ws ++ above)) base ws := by
  induction ws generalizing st base with
  | nil => trivial
  | cons w ws ih =>
    simp only [List.length_cons] at h
    refine ⟨?_, ih (by simp only [List.length_set]; omega)⟩
    rw [List.cons_append, List.getD_eq_getElem?_getD, getElem?_setWords, if_pos (by simp)]
    simp [show base < st.length by omega]

theorem State.holds_result {s : State} {base : Nat} {ws : List Word} (above : List Word) (h : base + ws.length ≤ s.stack.length) :
    (s.result base ws above).holds base ws := by
  refine ⟨rfl, ?_, wordsFrom_setWords ws above h⟩
  simpa using h

theorem State.topWords_succ {s : State} {n : Nat} (h : n + 1 ≤ s.sp) :
    s.topWords (n + 1) = { s with sp := s.sp - 1 }.topWords n ++ [s.stack.getD (s.sp - 1) 0] := by
  simp only [State.topWords, List.range_succ, List.map_append, List.map_cons, List.map_nil]
  rw [show s.sp - (n + 1) = s.sp - 1 - n by omega, show s.sp - 1 - n + n = s.sp - 1 by omega]

theorem popWords_ok {s : State} {n : Nat} (h : n ≤ s.sp) : popWords n s = .ok (s.topWords n) { s with sp := s.sp - n } := by
  induction n generalizing s with
  | zero => rfl
  | succ n ih =>
    have hpop := pop_ok (s := s) (by omega)
    have hrest := ih (s := { s with sp := s.sp - 1 }) (by simp only; omega)
    rw [State.topWords_succ h, popWords, bind_ok hpop, bind_ok hrest, act_pure]
    simp only [Nat.sub_sub, Nat.add_comm 1]

theorem popWords_removes (n : Nat) : Removes n (popWords n) := by
  induction n with
  | zero => exact .nothing _
  | succ n ih => exact .popThen fun w => ih.bind _

theorem popWords_holds {s : State} {base : Nat} {ws : List Word} (h : s.holds base ws) :
    popWords ws.length s = .ok ws { s with sp := base } := by
  have hsp := h.1
  rw [popWords_ok (by omega), h.topWords, hsp, Nat.add_sub_cancel]

theorem pushWords_ok {s : State} {ws : List Word} (h : s.sp + ws.length ≤ s.stack.length) :
    pushWords ws s = .ok () { s with stack := setWords s.stack s.sp ws, sp := s.sp + ws.length } := by
  induction ws generalizing s with
  | nil => rfl
  | cons w ws ih =>
    simp only [List.length_cons] at h
    have hpush := push_ok (s := s) w (by omega)
    rw [pushWords, bind_ok hpush, ih (by simp only [List.length_set]; omega)]
    simp only [setWords, List.length_cons, Nat.add_comm 1, Nat.add_assoc]

/-- Words that do not fit cannot be pushed. -/
theorem pushWords_full {s : State} {ws : List Word} (hne : ws ≠ []) (h : ¬ s.sp + ws.length ≤ s.stack.length) :
    StackErrs (pushWords ws) s := by
  induction ws generalizing s with
  | nil => exact absurd rfl hne
  | cons w ws ih =>
    by_cases hroom : s.sp < s.stack.length
    · refine .after (push_ok w hroom) (ih ?_ ?_)
      · rintro rfl; exact h hroom
      · simpa [Nat.add_assoc, Nat.add_comm 1] using h
    · exact .bind ⟨s, push_full w hroom⟩

/-- What has been pushed is on top. -/
theorem topWords_of_pushWords {s t : State} {ws : List Word} (h : pushWords ws s = .ok () t) : t.topWords ws.length = ws := by
  by_cases hfit : s.sp + ws.length ≤ s.stack.length
  · have ht : t = s.result s.sp ws [] := by
      rw [pushWords_ok hfit] at h; cases h
      simp [State.result]
    rw [ht]
    exact (State.holds_result [] hfit).topWords
  · cases ws with
    | nil => rfl
    | cons w ws =>
      obtain ⟨u, hu⟩ := pushWords_full (by simp) hfit
      rw [hu] at h; cases h

/-! The words that a routine has in hand. -/

section Result
variable {s : State} {base : Nat} {ws : List Word}

theorem popWords_result (h : base + ws.length ≤ s.stack.length) :
    popWords ws.length (s.result base ws []) = .ok ws (s.result base [] ws) := by
  rw [popWords_holds (State.holds_result [] h)]
  simp [State.result]

theorem pushWords_result {vs above : List Word} (h : base + (vs ++ ws).length ≤ s.stack.length) :
    pushWords ws (s.result base vs above) = .ok () (s.result base (vs ++ ws) (above.drop ws.length)) := by
  induction ws generalizing vs above with
  | nil => rw [List.append_nil]; rfl
  | cons w ws ih =>
    have hw := push_result (s := s) (base := base) (ws := vs) (w := w) (above := above) (by simp at h; omega)
    rw [pushWords, bind_ok hw, ih (by simpa using h)]
    simp [← List.drop_one, Nat.add_comm 1]

end Result

/-! The loop. -/

/-- A block instruction: how many operands it has, which of them counts the units to do, what it leaves in their place at the end, the
accesses of one unit, whether it goes on after them, and what it then leaves: operands again, for one unit less. -/
structure BlockRoutine (α : Type) where
  size : Nat
  count : List Word → Word
  final : List Word → List Word
  work : List Word → Act α
  more : α → Bool
  next : List Word → α → List Word
  length_final : ∀ ws, (final ws).length ≤ size
  length_next : ∀ ws x, more x = true → (next ws x).length = size
  count_next : ∀ ws x, more x = true → count (next ws x) = count ws - 1

namespace BlockRoutine
variable {α : Type} (r : BlockRoutine α)

/-- One iteration (R532). -/
def iteration : Act Bool := do
  let ws ← popWords r.size
  if r.count ws = 0 then
    pushWords (r.final ws)
    return false
  else
    let x ← r.work ws
    pushWords (r.next ws x)
    if r.more x then suspendOrContinue else return false

section Words
variable {r} {s t : State} {base : Nat} {ws : List Word} (hl : base + r.size ≤ s.stack.length) (hws : ws.length = r.size)
include hl hws

theorem iteration_popped : r.iteration (s.result base ws []) =
    (if r.count ws = 0 then do
        pushWords (r.final ws)
        return false
      else do
        let x ← r.work ws
        pushWords (r.next ws x)
        if r.more x then suspendOrContinue else return false : Act Bool) (s.result base [] ws) := by
  rw [iteration, ← hws]
  exact bind_ok (popWords_result (hws ▸ hl))

theorem iteration_last (hc : r.count ws = 0) : r.iteration (s.result base ws []) =
    .ok false (s.result base (r.final ws) (ws.drop (r.final ws).length)) := by
  have hf := r.length_final ws
  rw [iteration_popped hl hws, if_pos hc, bind_ok (pushWords_result (by rw [List.nil_append]; omega))]
  rfl

variable (hc : r.count ws ≠ 0)
include hc

theorem iteration_raises {e : Raise} {u : State} (hw : r.work ws (s.result base [] ws) = .error e u) :
    r.iteration (s.result base ws []) = .error e u := by
  rw [iteration_popped hl hws, if_neg hc, bind_error hw]

variable {x : α} (ht : t.stack = s.stack) (hw : r.work ws (s.result base [] ws) = .ok x (t.result base [] ws))
include ht hw

theorem iteration_goes_on (hx : r.more x = true) :
    r.iteration (s.result base ws []) = suspendOrContinue (t.result base (r.next ws x) []) := by
  have hn := r.length_next ws x hx
  rw [iteration_popped hl hws, if_neg hc, bind_ok hw,
    bind_ok (pushWords_result (by rw [List.nil_append, ht]; omega)), if_pos hx, hn, ← hws, List.drop_length]
  rfl

theorem iteration_stops (hx : r.more x = false) (hn : (r.next ws x).length ≤ r.size) : r.iteration (s.result base ws []) =
    .ok false (t.result base (r.next ws x) (ws.drop (r.next ws x).length)) := by
  rw [iteration_popped hl hws, if_neg hc, bind_ok hw, bind_ok (pushWords_result (by rw [List.nil_append, ht]; omega)), hx]
  rfl

end Words

/-- An iteration that goes on has found a unit to do, and leaves the operands after it. -/
theorem iteration_cases {u v : State} (h : r.iteration u = .ok true v) :
    ∃ x, r.count (u.topWords r.size) ≠ 0 ∧ r.more x = true ∧ v.topWords r.size = r.next (u.topWords r.size) x := by
  by_cases hsp : r.size ≤ u.sp
  · rw [iteration, bind_ok (popWords_ok hsp)] at h
    by_cases hc : r.count (u.topWords r.size) = 0
    · rw [if_pos hc, act_bind] at h
      split at h <;> cases h
    · rw [if_neg hc, act_bind] at h
      split at h
      · rename_i x u' _
        rw [act_bind] at h
        split at h
        · rename_i u'' hpush
          by_cases hx : r.more x = true
          · rw [if_pos hx, suspendOrContinue_apply] at h
            split at h
            · cases h
            · cases h
              have htop := topWords_of_pushWords hpush
              rw [r.length_next _ x hx] at htop
              exact ⟨x, hc, hx, (State.topWords_congr (State.takeTurn_stack u'') (State.takeTurn_sp u'') _).trans htop⟩
          · rw [if_neg hx] at h
            cases h
        · cases h
      · cases h
  · obtain ⟨w, hw⟩ := popWords_removes r.size u (by omega)
    rw [iteration, bind_error hw] at h
    cases h

/-- A count is below 2^16, so one more iteration than that never comes. -/
theorem loop_fuel {u : State} (h : (r.count (u.topWords r.size)).toNat < 65535) :
    loop r.iteration 65535 u = loop r.iteration blockFuel u := by
  refine (Machine.loop_fuel (fun v => (r.count (v.topWords r.size)).toNat) (fun v w hvw => ?_) 1 65535 u h).symm
  obtain ⟨x, hc, hx, hw⟩ := r.iteration_cases hvw
  rw [hw, r.count_next _ x hx]
  bv_omega

end BlockRoutine

end Sys2Proof.Machine
end

section
/-! SUPPORT. Runs of a block instruction, unit by unit: to its end, to a unit that ends it early, to a fault, and through the tests for
interrupts (46_block.md R531 to R533; 60_exceptions.md R683, R684). -/

namespace Sys2Proof.Machine

/-! States that differ from the first one in memory and the map only. -/

/-- `t` is `s` but for the map, memory and the model's own records. -/
def State.MemoryOnly (s t : State) : Prop :=
  t = { s with map := t.map, mem := t.mem, codeWrites := t.codeWrites, freeIndex := t.freeIndex }

namespace State.MemoryOnly
variable {s t u : State}

theorem refl (s : State) : s.MemoryOnly s := rfl

theorem trans (h : s.MemoryOnly t) (h' : t.MemoryOnly u) : s.MemoryOnly u := by
  rw [State.MemoryOnly, h', h]

theorem touch (s : State) (va : Long) (a : Access) : s.MemoryOnly (s.touch va a) := by
  obtain ⟨m, n, h⟩ := s.touch_cases va a
  rw [State.MemoryOnly, h]

theorem storeWord (s : State) (va : Long) (w : Word) : s.MemoryOnly (s.storeWord va w) := (touch s va .write).trans rfl

theorem copyWord (s : State) (p q : Long) : s.MemoryOnly (s.copyWord p q) := (touch s p .read).trans (storeWord _ _ _)

theorem copies (s : State) (ps : List (Long × Long)) : s.MemoryOnly (s.copies ps) := by
  induction ps generalizing s with
  | nil => exact refl s
  | cons p ps ih => exact (copyWord s p.1 p.2).trans (ih _)

theorem reads (s : State) (vas : List Long) : s.MemoryOnly (s.reads vas) := by
  induction vas generalizing s with
  | nil => exact refl s
  | cons va vas ih => exact (touch s va .read).trans (ih _)

theorem copyByte (s : State) (p q : BytePosition) : s.MemoryOnly (s.copyByte p q) :=
  ((touch s _ .read).trans (touch _ _ .read)).trans (storeWord _ _ _)

theorem byteCopies (s : State) (ps : List (BytePosition × BytePosition)) : s.MemoryOnly (s.byteCopies ps) := by
  induction ps generalizing s with
  | nil => exact refl s
  | cons p ps ih => exact (copyByte s p.1 p.2).trans (ih _)

theorem stack (h : s.MemoryOnly t) : t.stack = s.stack := by rw [h]

theorem quiet (h : s.MemoryOnly t) (hs : s.quiet) : t.quiet := by rw [h]; exact hs

theorem interruptPending (h : s.MemoryOnly t) : interruptPending t = interruptPending s := by rw [h]; rfl

end State.MemoryOnly

/-- The registers that addresses are computed with, and the parameters, are the same. -/
structure State.SameBases (s u : State) : Prop where
  mds : u.mds = s.mds
  cb : u.cb = s.cb
  cfg : u.cfg = s.cfg

theorem State.MemoryOnly.sameBases {s t : State} (h : s.MemoryOnly t) (base : Nat) (ws above : List Word) :
    s.SameBases (t.result base ws above) := by constructor <;> rw [h] <;> rfl

theorem suspendOrContinue_quiet {s : State} (h : s.quiet) (base : Nat) (ws : List Word) :
    suspendOrContinue (s.result base ws []) = .ok true (s.result base ws []) := by
  obtain ⟨hi, hu⟩ := h
  have hturn : (s.result base ws []).takeTurn = s.result base ws [] := State.takeTurn_undisturbed hu
  have hpending : interruptPending (s.result base ws []) = false := hi
  rw [suspendOrContinue_apply, hturn, if_neg (by simp [hpending])]

/-- A fault puts `PC` and `SP` back, over the operands that have been popped (R683). -/
theorem takeException_fault_result {t : State} {base : Nat} {ws : List Word} (k : FaultKind) (va : Long)
    (h : t.savedSP = base + ws.length) : takeException (.fault k va) (t.result base [] ws) =
      { t.result base ws [] with pc := t.savedPC, exception := some (.fault k va) } := by
  simp [takeException, State.result, h]

namespace BlockRoutine
variable {α : Type} {r : BlockRoutine α} {base : Nat}

/-- With the operands `ws` in `s` there is a unit to do, which leaves the operands `ws'` in `t`. -/
def Step (r : BlockRoutine α) (base : Nat) (ws : List Word) (s : State) (ws' : List Word) (t : State) : Prop :=
  r.count ws ≠ 0 ∧ s.MemoryOnly t ∧ ∃ x, r.more x = true ∧ r.next ws x = ws' ∧
    r.work ws (s.result base [] ws) = .ok x (t.result base [] ws)

/-- The first `n` units, from the words `ops 0` of the state `st 0`. -/
structure Run (r : BlockRoutine α) (base n : Nat) (st : Nat → State) (ops : Nat → List Word) : Prop where
  quiet : (st 0).quiet
  holds : (st 0).holds base (ops 0)
  length : (ops 0).length = r.size
  step : ∀ k < n, r.Step base (ops k) (st k) (ops (k + 1)) (st (k + 1))

namespace Run
variable {n : Nat} {st : Nat → State} {ops : Nat → List Word} (h : r.Run base n st ops)
include h

theorem memoryOnly : (st 0).MemoryOnly (st n) := by
  induction n with
  | zero => exact .refl _
  | succ n ih =>
    obtain ⟨-, hm, -⟩ := h.step n (Nat.lt_succ_self n)
    exact (ih { h with step := fun k hk => h.step k (Nat.lt_succ_of_lt hk) }).trans hm

theorem length_last : (ops n).length = r.size := by
  cases n with
  | zero => exact h.length
  | succ n =>
    obtain ⟨-, -, x, hx, hn, -⟩ := h.step n (Nat.lt_succ_self n)
    rw [← hn]
    exact r.length_next _ x hx

theorem room : base + r.size ≤ (st n).stack.length := by
  rw [h.memoryOnly.stack, ← h.length]
  exact State.holds_bound h.holds

/-- The loop comes to the operands after the units. -/
theorem loop_eq (fuel : Nat) :
    loop r.iteration (n + fuel) (st 0) = loop r.iteration fuel ((st n).result base (ops n) []) := by
  induction n generalizing fuel with
  | zero => rw [State.result_of_holds h.holds, Nat.zero_add]
  | succ n ih =>
    have hrun : r.Run base n st ops := { h with step := fun k hk => h.step k (Nat.lt_succ_of_lt hk) }
    obtain ⟨hc, hm, x, hx, hn, hw⟩ := h.step n (Nat.lt_succ_self n)
    have hstep := iteration_goes_on hrun.room hrun.length_last hc hm.stack hw hx
    rw [hn, suspendOrContinue_quiet (h.memoryOnly.quiet h.quiet)] at hstep
    rw [Nat.add_assoc, Nat.add_comm 1, ih hrun]
    exact bind_ok hstep

variable (hn : n < 65536)
include hn

theorem blockLoop_eq {m : EStateM.Result Raise State Bool}
    (hm : ∀ fuel, loop r.iteration (fuel + 1) ((st n).result base (ops n) []) = m) :
    blockLoop r.iteration (st 0) = match m with
      | .ok _ t => .ok () t
      | .error e t => .error e t := by
  have hloop := h.loop_eq (65535 - n + 1)
  rw [hm, show n + (65535 - n + 1) = blockFuel by rw [blockFuel]; omega] at hloop
  rw [blockLoop, act_bind, hloop]
  cases m <;> rfl

/-- With no unit left the instruction is at its end. -/
theorem ends (hc : r.count (ops n) = 0) : complete (blockLoop r.iteration) (st 0) =
    .next ((st n).result base (r.final (ops n)) ((ops n).drop (r.final (ops n)).length)) :=
  complete_ok (h.blockLoop_eq hn fun _ => bind_ok (iteration_last h.room h.length_last hc))

/-- A unit that ends the instruction. -/
theorem stops {t : State} {x : α} (hc : r.count (ops n) ≠ 0) (ht : (st n).MemoryOnly t)
    (hw : r.work (ops n) ((st n).result base [] (ops n)) = .ok x (t.result base [] (ops n))) (hx : r.more x = false)
    (hl : (r.next (ops n) x).length ≤ r.size) : complete (blockLoop r.iteration) (st 0) =
      .next (t.result base (r.next (ops n) x) ((ops n).drop (r.next (ops n) x).length)) :=
  complete_ok (h.blockLoop_eq hn fun _ => bind_ok (iteration_stops h.room h.length_last hc ht.stack hw hx hl))

/-- A unit that a fault abandons (R532, R684): the operands are for the units from it on. -/
theorem faults {t : State} {k : FaultKind} {va : Long} (hsp : (st 0).savedSP = (st 0).sp) (hc : r.count (ops n) ≠ 0)
    (ht : (st n).MemoryOnly t)
    (hw : r.work (ops n) ((st n).result base [] (ops n)) = .error (.exception (.fault k va)) (t.result base [] (ops n))) :
    complete (blockLoop r.iteration) (st 0) =
      .next { t.result base (ops n) [] with pc := (st 0).savedPC, exception := some (.fault k va) } := by
  have hm := h.memoryOnly.trans ht
  have hsaved : t.savedSP = base + (ops n).length := by rw [hm, h.length_last, ← h.length]; exact hsp.trans h.holds.1
  have hpc : t.savedPC = (st 0).savedPC := by rw [hm]
  rw [complete_exception (h.blockLoop_eq hn fun _ => bind_error (iteration_raises h.room h.length_last hc hw)),
    takeException_fault_result k va hsaved, hpc]

end Run

end BlockRoutine

end Sys2Proof.Machine
end

section
/-! SUPPORT. The block instructions as routines of the one loop (46_block.md R536 to R552), and what a unit of each comes to. -/

namespace Sys2Proof.Machine

/-! The routines: their operands from the lowest word up. -/

/-- The two words of a double word, the low one first (R48). -/
def longWords (u : Long) : List Word := [Long.low u, Long.high u]

@[simp] theorem length_longWords (u : Long) : (longWords u).length = 2 := rfl

section Operands
variable (a c : Word) (p q : Long)

/-- The operands of `BLTL`, `BLTLR` and `BLEL`: two long pointers around the count. -/
def longOperands (p : Long) (count : Word) (q : Long) : List Word := longWords p ++ [count] ++ longWords q

@[simp] theorem recordLong_longOperands_low : recordLong (longOperands p c q) 0 = p := Long.ofHalves_high_low p

@[simp] theorem recordLong_longOperands_high : recordLong (longOperands p c q) 3 = q := Long.ofHalves_high_low q

@[simp] theorem recordWord_longOperands : recordWord (longOperands p c q) 2 = c := rfl

/-- The operands of `BLTCL`, `CKSUM` and `BLECL`: two words and a long pointer. -/
def pointerOperands (a count : Word) (p : Long) : List Word := [a, count] ++ longWords p

@[simp] theorem recordLong_pointerOperands : recordLong (pointerOperands a c p) 2 = p := Long.ofHalves_high_low p

@[simp] theorem recordWord_pointerOperands_first : recordWord (pointerOperands a c p) 0 = a := rfl

@[simp] theorem recordWord_pointerOperands_second : recordWord (pointerOperands a c p) 1 = c := rfl

end Operands

/-- `BLT` (R536): source, count, destination. -/
def bltRoutine : BlockRoutine Unit where
  size := 3
  count ws := recordWord ws 1
  final _ := []
  work ws := do
    let w ← fetchMds (recordWord ws 0)
    storeMds (recordWord ws 2) w
  more _ := true
  next ws _ := [recordWord ws 0 + 1, recordWord ws 1 - 1, recordWord ws 2 + 1]
  length_final _ := Nat.zero_le _
  length_next _ _ _ := rfl
  count_next _ _ _ := rfl

/-- `BLTL` (R537): source, count, destination. -/
def bltlRoutine : BlockRoutine Unit where
  size := 5
  count ws := recordWord ws 2
  final _ := []
  work ws := do
    let w ← fetch (recordLong ws 0)
    store (recordLong ws 3) w
  more _ := true
  next ws _ := longOperands (recordLong ws 0 + 1) (recordWord ws 2 - 1) (recordLong ws 3 + 1)
  length_final _ := Nat.zero_le _
  length_next _ _ _ := rfl
  count_next _ _ _ := rfl

/-- `BLTLR` (R538): the pointers stay. -/
def bltlrRoutine : BlockRoutine Unit where
  size := 5
  count ws := recordWord ws 2
  final _ := []
  work ws := do
    let s ← get
    let w ← fetch (recordLong ws 0 + bltlrIndex s.cfg (recordWord ws 2))
    store (recordLong ws 3 + bltlrIndex s.cfg (recordWord ws 2)) w
  more _ := true
  next ws _ := longOperands (recordLong ws 0) (recordWord ws 2 - 1) (recordLong ws 3)
  length_final _ := Nat.zero_le _
  length_next _ _ _ := rfl
  count_next _ _ _ := rfl

/-- `BLTC` (R539): source, count, destination. -/
def bltcRoutine : BlockRoutine Unit where
  size := 3
  count ws := recordWord ws 1
  final _ := []
  work ws := do
    let w ← readCode (recordWord ws 0)
    storeMds (recordWord ws 2) w
  more _ := true
  next ws _ := [recordWord ws 0 + 1, recordWord ws 1 - 1, recordWord ws 2 + 1]
  length_final _ := Nat.zero_le _
  length_next _ _ _ := rfl
  count_next _ _ _ := rfl

/-- `BLTCL` (R540): source, count, destination. -/
def bltclRoutine : BlockRoutine Unit where
  size := 4
  count ws := recordWord ws 1
  final _ := []
  work ws := do
    let w ← readCode (recordWord ws 0)
    store (recordLong ws 2) w
  more _ := true
  next ws _ := pointerOperands (recordWord ws 0 + 1) (recordWord ws 1 - 1) (recordLong ws 2 + 1)
  length_final _ := Nat.zero_le _
  length_next _ _ _ := rfl
  count_next _ _ _ := rfl

/-- `CKSUM` (R542): checksum, count, source. -/
def cksumRoutine : BlockRoutine Word where
  size := 4
  count ws := recordWord ws 1
  final ws := [finalChecksum (recordWord ws 0)]
  work ws := fetch (recordLong ws 2)
  more _ := true
  next ws w := pointerOperands (checksumStep (recordWord ws 0) w) (recordWord ws 1 - 1) (recordLong ws 2 + 1)
  length_final _ := by simp
  length_next _ _ _ := rfl
  count_next _ _ _ := rfl

/-- `BLEL` (R545): second pointer, count, first pointer. -/
def blelRoutine : BlockRoutine Bool where
  size := 5
  count ws := recordWord ws 2
  final _ := [boolWord true]
  work ws := do
    let u ← fetch (recordLong ws 3)
    let v ← fetch (recordLong ws 0)
    return decide (u = v)
  more equal := equal
  next ws equal :=
    if equal then longOperands (recordLong ws 0 + 1) (recordWord ws 2 - 1) (recordLong ws 3 + 1)
    else [boolWord false]
  length_final _ := by simp
  length_next _ x hx := by rw [hx]; rfl
  count_next _ x hx := by rw [hx]; rfl

/-- `BLECL` (R546): code offset, count, pointer. -/
def bleclRoutine : BlockRoutine Bool where
  size := 4
  count ws := recordWord ws 1
  final _ := [boolWord true]
  work ws := do
    let u ← fetch (recordLong ws 2)
    let v ← readCode (recordWord ws 0)
    return decide (u = v)
  more equal := equal
  next ws equal :=
    if equal then pointerOperands (recordWord ws 0 + 1) (recordWord ws 1 - 1) (recordLong ws 2 + 1) else [boolWord false]
  length_final _ := by simp
  length_next _ x hx := by rw [hx]; rfl
  count_next _ x hx := by rw [hx]; rfl

/-- The source of a byte block transfer, normalised (R550, R552). -/
def byteSource (ws : List Word) : BytePosition := normaliseByte ⟨recordLong ws 4, recordWord ws 6⟩

/-- The destination of a byte block transfer, normalised (R550, R552). -/
def byteDest (ws : List Word) : BytePosition := normaliseByte ⟨recordLong ws 0, recordWord ws 2⟩

/-- `BYTBLT` and `BYTBLTR` (R550, R551): destination, count, source. -/
def byteRoutine (advance : BytePosition → BytePosition) : BlockRoutine Unit where
  size := 7
  count ws := recordWord ws 3
  final _ := []
  work ws := do
    let b ← fetchByte (byteSource ws).base (lengthen (byteSource ws).offset)
    storeByte (byteDest ws).base (lengthen (byteDest ws).offset) b
  more _ := true
  next ws _ := byteOperands (advance (byteDest ws)) (recordWord ws 3 - 1) (advance (byteSource ws))
  length_final _ := Nat.zero_le _
  length_next _ _ _ := rfl
  count_next _ _ _ := rfl

/-! Each iteration of the model is that of its routine. -/

theorem pushWords_ite {c : Prop} [Decidable c] (ws vs : List Word) (m n : Act Bool) :
    (do pushWords (if c then ws else vs); if c then m else n) =
      if c then (do pushWords ws; m) else (do pushWords vs; n) := by split <;> rfl

section Iterations

theorem bltIteration_eq : bltIteration = bltRoutine.iteration := by
  simp [bltIteration, BlockRoutine.iteration, bltRoutine, popWords, pushWords, recordWord]

theorem bltlIteration_eq : bltlIteration = bltlRoutine.iteration := by
  simp [bltlIteration, BlockRoutine.iteration, bltlRoutine, popWords, pushWords, popLong, pushLong, recordWord, recordLong,
    longWords, longOperands]

theorem bltlrIteration_eq : bltlrIteration = bltlrRoutine.iteration := by
  simp [bltlrIteration, BlockRoutine.iteration, bltlrRoutine, popWords, pushWords, popLong, pushLong, recordWord, recordLong,
    longWords, longOperands]

theorem bltcIteration_eq : bltcIteration = bltcRoutine.iteration := by
  simp [bltcIteration, BlockRoutine.iteration, bltcRoutine, popWords, pushWords, recordWord]

theorem bltclIteration_eq : bltclIteration = bltclRoutine.iteration := by
  simp [bltclIteration, BlockRoutine.iteration, bltclRoutine, popWords, pushWords, popLong, pushLong, recordWord, recordLong,
    longWords, pointerOperands]

theorem cksumIteration_eq : cksumIteration = cksumRoutine.iteration := by
  simp [cksumIteration, BlockRoutine.iteration, cksumRoutine, popWords, pushWords, popLong, pushLong, recordWord, recordLong,
    longWords, pointerOperands]

theorem blelIteration_eq : blelIteration = blelRoutine.iteration := by
  simp [blelIteration, BlockRoutine.iteration, blelRoutine, popWords, pushWords, popLong, pushLong, recordWord, recordLong,
    longWords, longOperands, pushWords_ite]

theorem bleclIteration_eq : bleclIteration = bleclRoutine.iteration := by
  simp [bleclIteration, BlockRoutine.iteration, bleclRoutine, popWords, pushWords, popLong, pushLong, recordWord, recordLong,
    longWords, pointerOperands, pushWords_ite]

theorem byteBlockIteration_eq (advance : BytePosition → BytePosition) :
    byteBlockIteration advance = (byteRoutine advance).iteration := by
  simp [byteBlockIteration, BlockRoutine.iteration, byteRoutine, popWords, pushWords, popLong, pushLong, recordWord, recordLong,
    byteOperands, byteSource, byteDest]

end Iterations

/-! The accesses of a unit: a word copied, two words compared, a byte copied. -/

/-- Copy the word at `p` to `q`, the source first (log 46). -/
def copyWords (p q : Long) : Act Unit := do
  let w ← fetch p
  store q w

/-- Whether the words at `p` and `q` are equal, the one at `p` fetched first (log 57). -/
def compareWords (p q : Long) : Act Bool := do
  let u ← fetch p
  let v ← fetch q
  return decide (u = v)

/-- Copy the byte at `p` to `q`. -/
def copyBytes (p q : BytePosition) : Act Unit := do
  let b ← fetchByte p.base (lengthen p.offset)
  storeByte q.base (lengthen q.offset) b

theorem copyBytes_eq (p q : BytePosition) : copyBytes p q = (do
    let w ← fetch p.address
    let v ← fetch q.address
    store q.address (replaceByte v (lengthen q.offset) (selectByte w (lengthen p.offset)))) := by
  simp [copyBytes, fetchByte, storeByte, BytePosition.address]

section Result
variable (s : State) (base : Nat) (ws above : List Word)

theorem State.copyWord_result (p q : Long) : (s.result base ws above).copyWord p q = (s.copyWord p q).result base ws above := by
  rw [State.copyWord, State.touch_result, State.storeWord_result]; rfl

theorem State.reads_result (vas : List Long) : (s.result base ws above).reads vas = (s.reads vas).result base ws above :=
  (s.reads_stacked _ _ vas).trans (by simp [State.stacked, State.result])

theorem State.copyByte_result (p q : BytePosition) :
    (s.result base ws above).copyByte p q = (s.copyByte p q).result base ws above := by
  rw [State.copyByte, State.touch_result, State.touch_result, State.storeWord_result]; rfl

end Result

section Woken
variable {s : State} (h : s.onlyWakeups)
include h

theorem copyWords_woken {p q : Long} (hp : s.readable p) (hq : s.storable q) :
    copyWords p q s = .ok () ((s.copyWord p q).takeTurns 2) := by
  have h1 := h.touch p .read
  have hq1 := h1.storable_takeTurn.2 ((State.storable_touch hp.accessible q).2 hq)
  rw [copyWords, bind_ok (fetch_woken h hp), store_woken h1.takeTurn _ hq1, h1.storeWord_takeTurn]
  rfl

theorem compareWords_woken {p q : Long} (hp : s.readable p) (hq : s.readable q) :
    compareWords p q s = .ok (decide (s.wordAt p = s.wordAt q)) ((s.reads [p, q]).takeTurns 2) := by
  have h1 := h.touch p .read
  have hq1 := h1.readable_takeTurn.2 ((State.readable_touch hp.accessible q).2 hq)
  rw [compareWords, bind_ok (fetch_woken h hp), bind_ok (fetch_woken h1.takeTurn hq1), h1.touch_takeTurn, h1.wordAt_takeTurn,
    State.wordAt_touch hp.accessible]
  rfl

theorem copyBytes_woken {p q : BytePosition} (hp : s.readable p.address) (hq : s.storable q.address) :
    copyBytes p q s = .ok () ((s.copyByte p q).takeTurns 3) := by
  have h1 := h.touch p.address .read
  have hq1 := (State.storable_touch hp.accessible q.address).2 hq
  have h2 := h1.touch q.address .read
  have hq2 := (State.storable_touch hq1.readable.accessible q.address).2 hq1
  rw [copyBytes_eq, bind_ok (fetch_woken h hp), bind_ok (fetch_woken h1.takeTurn (h1.readable_takeTurn.2 hq1.readable)),
    h1.touch_takeTurn, h1.wordAt_takeTurn, State.wordAt_touch hp.accessible,
    store_woken h2.takeTurn.takeTurn _ (h2.takeTurn.storable_takeTurn.2 (h2.storable_takeTurn.2 hq2)),
    h2.takeTurn.storeWord_takeTurn, h2.storeWord_takeTurn]
  rfl

variable {base : Nat} {ws above : List Word}

theorem copyWords_ok {p q : Long} (hp : s.readable p) (hq : s.storable q) :
    copyWords p q (s.result base ws above) = .ok () (((s.copyWord p q).takeTurns 2).result base ws above) := by
  have hc : (s.copyWord p q).onlyWakeups := h.of_turns (by simp)
  rw [copyWords_woken (s := s.result base ws above) h hp hq, State.copyWord_result, hc.result_takeTurns]

theorem compareWords_ok {p q : Long} (hp : s.readable p) (hq : s.readable q) :
    compareWords p q (s.result base ws above) =
      .ok (decide (s.wordAt p = s.wordAt q)) (((s.reads [p, q]).takeTurns 2).result base ws above) := by
  have hc : (s.reads [p, q]).onlyWakeups := h.of_turns (by simp)
  rw [compareWords_woken (s := s.result base ws above) h hp hq, State.reads_result, hc.result_takeTurns]
  rfl

theorem fetch_result_ok {p : Long} (hp : s.readable p) :
    fetch p (s.result base ws above) = .ok (s.wordAt p) (((s.reads [p]).takeTurns 1).result base ws above) := by
  have hc : (s.reads [p]).onlyWakeups := h.of_turns (by simp)
  rw [fetch_woken (s := s.result base ws above) h hp, State.touch_result, ← hc.result_takeTurns]
  rfl

theorem copyBytes_ok {p q : BytePosition} (hp : s.readable p.address) (hq : s.storable q.address) :
    copyBytes p q (s.result base ws above) = .ok () (((s.copyByte p q).takeTurns 3).result base ws above) := by
  have hc : (s.copyByte p q).onlyWakeups := h.of_turns (by simp [State.copyByte])
  rw [copyBytes_woken (s := s.result base ws above) h hp hq, State.copyByte_result, hc.result_takeTurns]

end Woken

/-! Accesses of a unit that fault. -/

section Faults
variable {s : State} (hu : s.undisturbed) {base : Nat} {ws above : List Word} {p q : Long} {k : FaultKind}
include hu

theorem fetch_result_fault (hf : s.faultsAt .read p k) :
    fetch p (s.result base ws above) = .error (.exception (.fault k p)) (s.result base ws above) := fetch_fault _ _ hu hf

theorem copyWords_source_fault (hf : s.faultsAt .read p k) :
    copyWords p q (s.result base ws above) = .error (.exception (.fault k p)) (s.result base ws above) :=
  bind_error (fetch_result_fault hu hf)

theorem compareWords_first_fault (hf : s.faultsAt .read p k) :
    compareWords p q (s.result base ws above) = .error (.exception (.fault k p)) (s.result base ws above) :=
  bind_error (fetch_result_fault hu hf)

theorem fetch_result_undisturbed (hp : s.readable p) :
    fetch p (s.result base ws above) = .ok (s.wordAt p) ((s.touch p .read).result base ws above) := by
  rw [fetch_ok (s := s.result base ws above) hu hp, State.touch_result]; rfl

theorem copyWords_dest_fault (hp : s.readable p) (hf : s.faultsAt .write q k) :
    copyWords p q (s.result base ws above) = .error (.exception (.fault k q)) ((s.touch p .read).result base ws above) :=
  (bind_ok (fetch_result_undisturbed hu hp)).trans
    (store_fault _ _ _ (hu.touch p .read) ((State.faultsAt_touch hp.accessible).2 hf))

theorem compareWords_second_fault (hp : s.readable p) (hf : s.faultsAt .read q k) :
    compareWords p q (s.result base ws above) = .error (.exception (.fault k q)) ((s.touch p .read).result base ws above) :=
  (bind_ok (fetch_result_undisturbed hu hp)).trans
    (bind_error (fetch_fault _ _ (hu.touch p .read) ((State.faultsAt_touch hp.accessible).2 hf)))

section Bytes
variable {p q : BytePosition}

theorem copyBytes_source_fault (hf : s.faultsAt .read p.address k) :
    copyBytes p q (s.result base ws above) = .error (.exception (.fault k p.address)) (s.result base ws above) := by
  rw [copyBytes_eq, bind_error (fetch_result_fault hu hf)]

variable (hp : s.readable p.address)
include hp

theorem copyBytes_dest_fault (hf : s.faultsAt .read q.address k) : copyBytes p q (s.result base ws above) =
    .error (.exception (.fault k q.address)) ((s.touch p.address .read).result base ws above) := by
  rw [copyBytes_eq, bind_ok (fetch_result_undisturbed hu hp),
    bind_error (fetch_result_fault (hu.touch _ _) ((State.faultsAt_touch hp.accessible).2 hf))]

theorem copyBytes_store_fault (hq : s.readable q.address) (hf : s.faultsAt .write q.address k) :
    copyBytes p q (s.result base ws above) = .error (.exception (.fault k q.address))
      (((s.touch p.address .read).touch q.address .read).result base ws above) := by
  have hq1 := (State.readable_touch hp.accessible q.address).2 hq
  have hf2 := (State.faultsAt_touch hq1.accessible).2 ((State.faultsAt_touch hp.accessible).2 hf)
  rw [copyBytes_eq, bind_ok (fetch_result_undisturbed hu hp), bind_ok (fetch_result_undisturbed (hu.touch _ _) hq1)]
  exact store_fault _ _ _ ((hu.touch _ _).touch _ _) hf2

end Bytes

end Faults

/-! What the accesses of a unit are, by the operands. -/

namespace BlockRoutine

/-- With the operands `ws` in `s` the unit copies the word at `p` to `q`, and leaves the operands `ws'`. -/
def Copies (r : BlockRoutine Unit) (s : State) (ws ws' : List Word) (p q : Long) : Prop :=
  r.more () = true ∧ r.next ws () = ws' ∧ ∀ u, s.SameBases u → r.work ws u = copyWords p q u

/-- With the operands `ws` in `s` the unit compares the words at `p` and `q`, and leaves the operands `ws'` if they are equal. -/
def Compares (r : BlockRoutine Bool) (s : State) (ws ws' : List Word) (p q : Long) : Prop :=
  r.more true = true ∧ r.more false = false ∧ r.next ws true = ws' ∧ r.next ws false = [boolWord false] ∧
    ∀ u, s.SameBases u → r.work ws u = compareWords p q u

end BlockRoutine

/-- The destination is lengthened after the source has been fetched, with the same `MDS`. -/
theorem fetch_storeMds (p : Long) (ptr : Word) (u : State) :
    (do let w ← fetch p; storeMds ptr w : Act Unit) u = copyWords p (u.lengthenPointer ptr) u := by
  rw [copyWords, act_bind, act_bind]
  have hmds : (endState (fetch p u)).mds = u.mds := by
    rcases fetch_cases u p with ⟨-, h⟩ | ⟨-, h⟩ | ⟨-, r, h⟩ <;> rw [h] <;> simp [endState]
  cases h : fetch p u with
  | ok w t =>
    rw [h] at hmds
    have he := lengthenPointer_congr hmds ptr
    exact (storeMds_eq ptr w t).trans (congrArg (store · w t) he)
  | error e t => rfl

/-- A code word in the bank is fetched as any other word is. -/
theorem readCode_bind {β : Type} {u : State} {offset : Word} (hb : u.codeInBank offset = true) (f : Word → Act β) :
    (readCode offset >>= f) u = (fetch (u.codeAddress offset) >>= f) u := by
  rw [act_bind, act_bind, readCode_inBank hb]

theorem fetchMds_bind {β : Type} {u : State} (ptr : Word) (f : Word → Act β) :
    (fetchMds ptr >>= f) u = (fetch (u.lengthenPointer ptr) >>= f) u := by
  rw [act_bind, act_bind, fetchMds_eq]

section Units
variable (s : State) (a b c : Word) (p q : Long)

theorem bltRoutine_copies : bltRoutine.Copies s [a, b, c] [a + 1, b - 1, c + 1] (s.lengthenPointer a) (s.lengthenPointer c) := by
  refine ⟨rfl, rfl, fun u hu => ?_⟩
  rw [← lengthenPointer_congr hu.mds a, ← lengthenPointer_congr hu.mds c]
  exact (fetchMds_bind a _).trans (fetch_storeMds _ c u)

theorem bltlRoutine_copies : bltlRoutine.Copies s (longOperands p c q) (longOperands (p + 1) (c - 1) (q + 1)) p q :=
  ⟨rfl, by simp [bltlRoutine], fun u _ => by simp [bltlRoutine, copyWords]⟩

theorem bltlrRoutine_copies : bltlrRoutine.Copies s (longOperands p c q) (longOperands p (c - 1) q)
    (p + bltlrIndex s.cfg c) (q + bltlrIndex s.cfg c) :=
  ⟨rfl, by simp [bltlrRoutine], fun u hu => by simp [bltlrRoutine, copyWords, ← hu.cfg]⟩

theorem blelRoutine_compares : blelRoutine.Compares s (longOperands p c q) (longOperands (p + 1) (c - 1) (q + 1)) q p :=
  ⟨rfl, rfl, by simp [blelRoutine], rfl, fun u _ => by simp [blelRoutine, compareWords]⟩

theorem cksumRoutine_work : cksumRoutine.work (pointerOperands a c p) = fetch p := by simp [cksumRoutine]

theorem cksumRoutine_next (w : Word) :
    cksumRoutine.next (pointerOperands a c p) w = pointerOperands (checksumStep a w) (c - 1) (p + 1) := by simp [cksumRoutine]

section Code
variable (hb : s.codeInBank a = true)
include hb

theorem bltcRoutine_copies :
    bltcRoutine.Copies s [a, b, c] [a + 1, b - 1, c + 1] (s.codeAddress a) (s.lengthenPointer c) := by
  refine ⟨rfl, rfl, fun u hu => ?_⟩
  rw [← codeAddress_congr hu.cb a, ← lengthenPointer_congr hu.mds c, ← fetch_storeMds _ c u]
  exact readCode_bind ((codeInBank_congr hu.cb a).trans hb) _

theorem bltclRoutine_copies :
    bltclRoutine.Copies s (pointerOperands a c p) (pointerOperands (a + 1) (c - 1) (p + 1)) (s.codeAddress a) p := by
  refine ⟨rfl, by simp [bltclRoutine], fun u hu => ?_⟩
  have hwork : bltclRoutine.work (pointerOperands a c p) = (do let w ← readCode a; store p w) := by simp [bltclRoutine]
  rw [hwork, ← codeAddress_congr hu.cb a]
  exact readCode_bind ((codeInBank_congr hu.cb a).trans hb) _

/-- The code word is read after the word at the pointer, with the same `CB`. -/
theorem bleclRoutine_compares :
    bleclRoutine.Compares s (pointerOperands a c p) (pointerOperands (a + 1) (c - 1) (p + 1)) p (s.codeAddress a) := by
  refine ⟨rfl, rfl, by simp [bleclRoutine], rfl, fun u hu => ?_⟩
  have hwork : bleclRoutine.work (pointerOperands a c p) = (do
      let v ← fetch p
      let w ← readCode a
      return decide (v = w)) := by simp [bleclRoutine]
  have hcb : (endState (fetch p u)).cb = u.cb := by
    rcases fetch_cases u p with ⟨-, h⟩ | ⟨-, h⟩ | ⟨-, r, h⟩ <;> rw [h] <;> simp [endState]
  rw [hwork, compareWords, act_bind, act_bind]
  cases h : fetch p u with
  | ok v t =>
    rw [h] at hcb
    have hcb : t.cb = s.cb := Eq.trans hcb hu.cb
    rw [← codeAddress_congr hcb a]
    exact readCode_bind ((codeInBank_congr hcb a).trans hb) _
  | error e t => rfl

end Code

end Units

end Sys2Proof.Machine
end

section
/-! SUPPORT. The block instructions over whole blocks: which words the units copy, compare or read, one after another (46_block.md R533 to
R552). -/

namespace Sys2Proof.Machine

/-! Addresses and counts after `k` units. -/

theorem add_ofNat_succ {w : Nat} (x : BitVec w) (k : Nat) : x + BitVec.ofNat w (k + 1) = x + BitVec.ofNat w k + 1 := by
  rw [BitVec.ofNat_add, BitVec.add_assoc]; rfl

theorem sub_ofNat_succ (c : Word) (k : Nat) : c - BitVec.ofNat 16 (k + 1) = c - BitVec.ofNat 16 k - 1 := by
  rw [BitVec.ofNat_add]
  exact sub_add_eq_sub_sub ..

theorem sub_ofNat_ne_zero {c : Word} {k : Nat} (h : k < c.toNat) : c - BitVec.ofNat 16 k ≠ 0 := by
  have hc := c.isLt
  rw [ne_eq, BitVec.sub_eq_iff_eq_add, ← BitVec.toNat_inj]
  simp only [BitVec.ofNat_eq_ofNat, BitVec.zero_add, BitVec.toNat_ofNat]
  omega

theorem sub_ofNat_toNat (c : Word) : c - BitVec.ofNat 16 c.toNat = 0 := by simp

/-! After accesses that succeed the same accesses are possible. -/

namespace State.MemoryOnly
variable {s t : State} (h : s.MemoryOnly t) {va : Long}
include h

theorem isOverhead : t.isOverhead va = s.isOverhead va := by rw [h]; rfl

variable (hp : s.SamePages t)
include hp

theorem present : t.present va ↔ s.present va := by
  have hcfg : t.cfg = s.cfg := by rw [h]
  simp [State.present, State.realAddress, State.entryOf, (hp _).1, (hp _).2.1, hcfg]

theorem readable : t.readable va ↔ s.readable va := by
  rw [State.readable, State.readable, h.present hp, h.isOverhead]

theorem storable : t.storable va ↔ s.storable va := by
  rw [State.storable, State.storable, State.writable, State.writable, h.present hp, h.isOverhead,
    show (t.entryOf va).isProtected = (s.entryOf va).isProtected from (hp _).2.2]

end State.MemoryOnly

theorem State.SamePages.faultsAt {s t : State} (hp : s.SamePages t) {a : Access} {va : Long} {k : FaultKind} :
    t.faultsAt a va k ↔ s.faultsAt a va k := by
  rw [State.faultsAt, State.faultsAt, show (t.entryOf va).isVacant = (s.entryOf va).isVacant from (hp _).2.1,
    show (t.entryOf va).isProtected = (s.entryOf va).isProtected from (hp _).2.2]

theorem State.samePages_copyWord {s : State} {p q : Long} (hp : s.readable p) (hq : s.storable q) :
    s.SamePages (s.copyWord p q) :=
  (State.SamePages.touch hp.accessible).trans (.storeWord ((State.storable_touch hp.accessible q).2 hq).1 _)

theorem State.samePages_copies {s : State} {ps : List (Long × Long)} (h : s.copyable ps) : s.SamePages (s.copies ps) := by
  induction ps generalizing s with
  | nil => exact .refl s
  | cons p ps ih =>
    obtain ⟨⟨hp, hq⟩, hps⟩ := List.forall_mem_cons.1 h
    have hpages := State.samePages_copyWord hp hq
    have hm := State.MemoryOnly.copyWord s p.1 p.2
    exact hpages.trans (ih fun r hr => ⟨(hm.readable hpages).2 (hps r hr).1, (hm.storable hpages).2 (hps r hr).2⟩)

theorem State.samePages_reads {s : State} {vas : List Long} (h : s.readableAll vas) : s.SamePages (s.reads vas) := by
  induction vas generalizing s with
  | nil => exact .refl s
  | cons va vas ih =>
    obtain ⟨hva, hvas⟩ := State.readableAll_cons.1 h
    exact (State.SamePages.touch hva.accessible).trans (ih fun vb hb => (State.readable_touch hva.accessible vb).2 (hvas vb hb))

theorem State.samePages_byteCopies {s : State} {ps : List (BytePosition × BytePosition)} (h : s.byteCopyable ps) :
    s.SamePages (s.byteCopies ps) := by
  induction ps generalizing s with
  | nil => exact .refl s
  | cons p ps ih =>
    obtain ⟨⟨hp, hq⟩, hps⟩ := List.forall_mem_cons.1 h
    have hq1 := (State.storable_touch hp.accessible p.2.address).2 hq
    have hq2 := (State.writable_touch hq1.readable.accessible p.2.address).2 hq1.1
    have hpages : s.SamePages (s.copyByte p.1 p.2) :=
      (State.SamePages.touch hp.accessible).trans ((State.SamePages.touch hq1.readable.accessible).trans (.storeWord hq2 _))
    exact hpages.trans (ih ((State.byteCopyable_copyByte hp hq ps).2 hps))

/-! Transfers of words. -/


/-- From `s` the routine has `n` words to copy, the `k`th from `(pair k).1` to `(pair k).2` with the operands `ops k`. -/
structure BlockRoutine.CopyPlan (r : BlockRoutine Unit) (s : State) (base n : Nat) (pair : Nat → Long × Long) (ops : Nat → List Word) : Prop where
  holds : s.holds base (ops 0)
  length : (ops 0).length = r.size
  count : ∀ k < n, r.count (ops k) ≠ 0
  copies : ∀ k < n, r.Copies s (ops k) (ops (k + 1)) (pair k).1 (pair k).2
  done : r.count (ops n) = 0
  final : r.final (ops n) = []
  bound : n < 65536

theorem State.copies_succ (s : State) (pair : Nat → Long × Long) (k : Nat) :
    s.copies ((List.range (k + 1)).map pair) = (s.copies ((List.range k).map pair)).copyWord (pair k).1 (pair k).2 := by
  simp [State.copies, List.range_succ]

theorem State.copyable_succ {s : State} {pair : Nat → Long × Long} {k : Nat} : s.copyable ((List.range (k + 1)).map pair) ↔
    s.copyable ((List.range k).map pair) ∧ s.readable (pair k).1 ∧ s.storable (pair k).2 := by
  simp only [State.copyable, List.forall_mem_map, List.mem_range, Nat.forall_lt_succ_right]

theorem State.copyable_take {s : State} {pair : Nat → Long × Long} {n k : Nat} (hk : k ≤ n)
    (h : s.copyable ((List.range n).map pair)) : s.copyable ((List.range k).map pair) := by
  simp only [State.copyable, List.forall_mem_map, List.mem_range] at h ⊢
  exact fun j hj => h j (by omega)

namespace BlockRoutine.CopyPlan
variable {r : BlockRoutine Unit} {s : State} {base n : Nat} {pair : Nat → Long × Long} {ops : Nat → List Word}
  (h : r.CopyPlan s base n pair ops) (hs : s.quiet)
include h hs

/-- The first `k` units. -/
theorem run {k : Nat} (hk : k ≤ n) (hc : s.copyable ((List.range k).map pair)) :
    r.Run base k (fun j => s.copies ((List.range j).map pair)) ops where
  quiet := hs
  holds := h.holds
  length := h.length
  step j hj := by
    obtain ⟨hx, hn, hw⟩ := h.copies j (by omega)
    have hj' := State.copyable_succ.1 (State.copyable_take hj hc)
    obtain ⟨hcj, hp, hq⟩ := hj'
    have hm := State.MemoryOnly.copies s ((List.range j).map pair)
    have hpages := State.samePages_copies hcj
    have hu := (hm.quiet hs).2
    have hcopy := copyWords_ok (base := base) (ws := []) (above := ops j) (.of_undisturbed hu) ((hm.readable hpages).2 hp)
      ((hm.storable hpages).2 hq)
    rw [← State.copies_succ, State.takeTurns_undisturbed] at hcopy
    · refine ⟨h.count j (by omega), ?_, (), hx, hn, (hw _ (hm.sameBases base [] (ops j))).trans hcopy⟩
      rw [State.copies_succ]
      exact .copyWord _ _ _
    · exact ((State.MemoryOnly.copies s _).quiet hs).2

theorem ends (hc : s.copyable ((List.range n).map pair)) :
    complete (blockLoop r.iteration) s = .next ((s.copies ((List.range n).map pair)).result base [] (ops n)) := by
  have hend := (h.run hs le_rfl hc).ends h.bound h.done
  rwa [h.final] at hend

/-- A fault at the `k`th word. -/
theorem faults {k : Nat} (hk : k < n) (hsp : s.savedSP = s.sp) (hc : s.copyable ((List.range k).map pair)) {kind : FaultKind} :
    let t := s.copies ((List.range k).map pair)
    (s.faultsAt .read (pair k).1 kind → complete (blockLoop r.iteration) s =
      .next { t.result base (ops k) [] with pc := s.savedPC, exception := some (.fault kind (pair k).1) }) ∧
    (s.readable (pair k).1 → s.faultsAt .write (pair k).2 kind → complete (blockLoop r.iteration) s =
      .next { (t.touch (pair k).1 .read).result base (ops k) [] with
        pc := s.savedPC, exception := some (.fault kind (pair k).2) }) := by
  intro t
  have hrun := h.run hs hk.le hc
  have hbound : k < 65536 := hk.trans h.bound
  have hm := State.MemoryOnly.copies s ((List.range k).map pair)
  have hpages := State.samePages_copies hc
  have hu := (hm.quiet hs).2
  have hwork := (h.copies k hk).2.2 _ (hm.sameBases base [] (ops k))
  refine ⟨fun hf => ?source, fun hp hf => ?dest⟩
  case source =>
    exact hrun.faults hbound hsp (h.count k hk) (.refl t)
      (hwork.trans (copyWords_source_fault hu (hpages.faultsAt.2 hf)))
  case dest =>
    exact hrun.faults hbound hsp (h.count k hk) (.touch t _ _)
      (hwork.trans (copyWords_dest_fault hu ((hm.readable hpages).2 hp) (hpages.faultsAt.2 hf)))

end BlockRoutine.CopyPlan

/-! The plans of the five instructions. -/

section Plans
variable {s : State} {base : Nat} {a b c d e : Word}

theorem blt_plan (h : s.holds base [a, b, c]) : bltRoutine.CopyPlan s base b.toNat
    (fun k => (s.lengthenPointer (a + BitVec.ofNat 16 k), s.lengthenPointer (c + BitVec.ofNat 16 k)))
    (fun k => [a + BitVec.ofNat 16 k, b - BitVec.ofNat 16 k, c + BitVec.ofNat 16 k]) where
  holds := by simpa using h
  length := rfl
  count _ hk := sub_ofNat_ne_zero hk
  copies k _ := by simp only [add_ofNat_succ, sub_ofNat_succ]; exact bltRoutine_copies ..
  done := sub_ofNat_toNat b
  final := rfl
  bound := b.isLt

theorem bltc_plan (h : s.holds base [a, b, c]) (hb : ∀ k < b.toNat, s.codeInBank (a + BitVec.ofNat 16 k) = true) :
    bltcRoutine.CopyPlan s base b.toNat
      (fun k => (s.codeAddress (a + BitVec.ofNat 16 k), s.lengthenPointer (c + BitVec.ofNat 16 k)))
      (fun k => [a + BitVec.ofNat 16 k, b - BitVec.ofNat 16 k, c + BitVec.ofNat 16 k]) where
  holds := by simpa using h
  length := rfl
  count _ hk := sub_ofNat_ne_zero hk
  copies k hk := by simp only [add_ofNat_succ, sub_ofNat_succ]; exact bltcRoutine_copies _ _ _ _ (hb k hk)
  done := sub_ofNat_toNat b
  final := rfl
  bound := b.isLt

theorem bltcl_plan (h : s.holds base [a, b, c, d]) (hb : ∀ k < b.toNat, s.codeInBank (a + BitVec.ofNat 16 k) = true) :
    bltclRoutine.CopyPlan s base b.toNat
      (fun k => (s.codeAddress (a + BitVec.ofNat 16 k), Long.ofHalves d c + BitVec.ofNat 32 k))
      (fun k => pointerOperands (a + BitVec.ofNat 16 k) (b - BitVec.ofNat 16 k) (Long.ofHalves d c + BitVec.ofNat 32 k)) where
  holds := by simpa [pointerOperands, longWords] using h
  length := rfl
  count _ hk := sub_ofNat_ne_zero hk
  copies k hk := by simp only [add_ofNat_succ, sub_ofNat_succ]; exact bltclRoutine_copies _ _ _ _ (hb k hk)
  done := sub_ofNat_toNat b
  final := rfl
  bound := b.isLt

theorem bltl_plan (h : s.holds base [a, b, c, d, e]) : bltlRoutine.CopyPlan s base c.toNat
    (fun k => (Long.ofHalves b a + BitVec.ofNat 32 k, Long.ofHalves e d + BitVec.ofNat 32 k))
    (fun k => longOperands (Long.ofHalves b a + BitVec.ofNat 32 k) (c - BitVec.ofNat 16 k)
      (Long.ofHalves e d + BitVec.ofNat 32 k)) where
  holds := by simpa [longOperands, longWords] using h
  length := rfl
  count _ hk := sub_ofNat_ne_zero hk
  copies k _ := by simp only [add_ofNat_succ, sub_ofNat_succ]; exact bltlRoutine_copies ..
  done := sub_ofNat_toNat c
  final := rfl
  bound := c.isLt

theorem bltlr_plan (h : s.holds base [a, b, c, d, e]) : bltlrRoutine.CopyPlan s base c.toNat
    (fun k => (Long.ofHalves b a + bltlrIndex s.cfg (c - BitVec.ofNat 16 k),
      Long.ofHalves e d + bltlrIndex s.cfg (c - BitVec.ofNat 16 k)))
    (fun k => [a, b, c - BitVec.ofNat 16 k, d, e]) where
  holds := by simpa using h
  length := rfl
  count _ hk := sub_ofNat_ne_zero hk
  copies k _ := by
    simp only [sub_ofNat_succ]
    simpa [longOperands, longWords] using
      bltlrRoutine_copies s (c - BitVec.ofNat 16 k) (Long.ofHalves b a) (Long.ofHalves e d)
  done := sub_ofNat_toNat c
  final := rfl
  bound := c.isLt

end Plans

/-! Each instruction is the loop of its routine. -/

section Instructions
variable (s : State)

theorem exec_blt : exec .blt s = complete (blockLoop bltRoutine.iteration) s := by rw [← bltIteration_eq]; rfl

theorem exec_bltl : exec .bltl s = complete (blockLoop bltlRoutine.iteration) s := by rw [← bltlIteration_eq]; rfl

theorem exec_bltlr : exec .bltlr s = complete (blockLoop bltlrRoutine.iteration) s := by rw [← bltlrIteration_eq]; rfl

theorem exec_bltc : exec .bltc s = complete (blockLoop bltcRoutine.iteration) s := by rw [← bltcIteration_eq]; rfl

theorem exec_bltcl : exec .bltcl s = complete (blockLoop bltclRoutine.iteration) s := by rw [← bltclIteration_eq]; rfl

theorem exec_cksum : exec .cksum s = complete (blockLoop cksumRoutine.iteration) s := by rw [← cksumIteration_eq]; rfl

theorem exec_blel : exec .blel s = complete (blockLoop blelRoutine.iteration) s := by rw [← blelIteration_eq]; rfl

theorem exec_blecl : exec .blecl s = complete (blockLoop bleclRoutine.iteration) s := by rw [← bleclIteration_eq]; rfl

theorem exec_bytblt : exec .bytblt s = complete (blockLoop (byteRoutine nextByte).iteration) s := by
  rw [← byteBlockIteration_eq]; rfl

theorem exec_bytbltr : exec .bytbltr s = complete (blockLoop (byteRoutine previousByte).iteration) s := by
  rw [← byteBlockIteration_eq]; rfl

end Instructions

/-- Settles O44: each instruction by its plan. -/
theorem wordBlockTransfers : Obligations.WordBlockTransfers := by
  intro s base a b c d e hs
  refine ⟨fun h => ⟨fun hp => ?blt, fun hp hb => ?bltc⟩, fun h hp hb => ?bltcl, fun h => ⟨fun hp => ?bltl, fun hp => ?bltlr⟩⟩
  case blt => simpa using (exec_blt s).trans ((blt_plan h).ends hs hp)
  case bltc => simpa using (exec_bltc s).trans ((bltc_plan h hb).ends hs hp)
  case bltcl => simpa [pointerOperands, longWords] using (exec_bltcl s).trans ((bltcl_plan h hb).ends hs hp)
  case bltl => simpa [longOperands, longWords] using (exec_bltl s).trans ((bltl_plan h).ends hs hp)
  case bltlr => simpa using (exec_bltlr s).trans ((bltlr_plan h).ends hs hp)

end Sys2Proof.Machine
end

section
/-! The checksum and the block compares over whole blocks (46_block.md R542, R545, R546). -/

namespace Sys2Proof.Machine

/-! Compares. -/

/-- The words of the first `k` pairs, in the order in which they are read (log 57). -/
def pairWords (pair : Nat → Long × Long) (k : Nat) : List Long := (List.range k).flatMap fun j => [(pair j).1, (pair j).2]

theorem pairWords_succ (pair : Nat → Long × Long) (k : Nat) :
    pairWords pair (k + 1) = pairWords pair k ++ [(pair k).1, (pair k).2] := by
  simp [pairWords, List.range_succ]

theorem State.reads_append_list (s : State) (vas vbs : List Long) : s.reads (vas ++ vbs) = (s.reads vas).reads vbs := by
  simp [State.reads]

theorem State.readableAll_pairWords_succ {s : State} {pair : Nat → Long × Long} {k : Nat} :
    s.readableAll (pairWords pair (k + 1)) ↔ s.readableAll (pairWords pair k) ∧ s.readable (pair k).1 ∧ s.readable (pair k).2 := by
  rw [pairWords_succ, State.readableAll_append, State.readableAll_pair]

theorem State.readableAll_pairWords_take {s : State} {pair : Nat → Long × Long} {j k : Nat} (hj : j ≤ k)
    (h : s.readableAll (pairWords pair k)) : s.readableAll (pairWords pair j) := by
  induction k, hj using Nat.le_induction with
  | base => exact h
  | succ k _ ih => exact ih (State.readableAll_pairWords_succ.1 h).1

/-- From `s` the routine has `n` pairs of words to compare, the `k`th at `pair k` with the operands `ops k`. -/
structure BlockRoutine.ComparePlan (r : BlockRoutine Bool) (s : State) (base n : Nat) (pair : Nat → Long × Long)
    (ops : Nat → List Word) : Prop where
  holds : s.holds base (ops 0)
  length : (ops 0).length = r.size
  positive : 1 ≤ r.size
  count : ∀ k < n, r.count (ops k) ≠ 0
  compares : ∀ k < n, r.Compares s (ops k) (ops (k + 1)) (pair k).1 (pair k).2
  done : r.count (ops n) = 0
  final : r.final (ops n) = [boolWord true]
  bound : n < 65536

namespace BlockRoutine.ComparePlan
variable {r : BlockRoutine Bool} {s : State} {base n k : Nat} {pair : Nat → Long × Long} {ops : Nat → List Word}
  (h : r.ComparePlan s base n pair ops) (hs : s.quiet) (heq : ∀ j < k, s.wordAt (pair j).1 = s.wordAt (pair j).2)
include h hs

/-- The accesses of the `k`th unit, after those before it. -/
theorem work_eq (hk : k < n) (hr : s.readableAll (pairWords pair (k + 1))) :
    r.work (ops k) ((s.reads (pairWords pair k)).result base [] (ops k)) =
      .ok (decide (s.wordAt (pair k).1 = s.wordAt (pair k).2)) ((s.reads (pairWords pair (k + 1))).result base [] (ops k)) := by
  obtain ⟨hrk, hp, hq⟩ := State.readableAll_pairWords_succ.1 hr
  obtain ⟨-, -, -, -, hw⟩ := h.compares k hk
  have hm := State.MemoryOnly.reads s (pairWords pair k)
  have hu := (hm.quiet hs).2
  have hcompare := compareWords_ok (base := base) (ws := []) (above := ops k) (.of_undisturbed hu)
    ((State.readable_reads hrk).2 hp) ((State.readable_reads hrk).2 hq)
  rw [← State.reads_append_list, ← pairWords_succ, State.takeTurns_undisturbed ((State.MemoryOnly.reads s _).quiet hs).2,
    State.wordAt_reads hrk, State.wordAt_reads hrk] at hcompare
  exact (hw _ (hm.sameBases base [] (ops k))).trans hcompare

include heq

/-- The first `k` pairs, which are equal. -/
theorem run (hk : k ≤ n) (hr : s.readableAll (pairWords pair k)) :
    r.Run base k (fun j => s.reads (pairWords pair j)) ops where
  quiet := hs
  holds := h.holds
  length := h.length
  step j hj := by
    obtain ⟨hx, -, hn, -, -⟩ := h.compares j (by omega)
    have hw := h.work_eq hs (show j < n by omega) (State.readableAll_pairWords_take hj hr)
    rw [heq j hj, decide_eq_true rfl] at hw
    refine ⟨h.count j (by omega), ?_, true, hx, hn, hw⟩
    rw [pairWords_succ, State.reads_append_list]
    exact .reads _ _

theorem ends (hk : k = n) (hr : s.readableAll (pairWords pair k)) : complete (blockLoop r.iteration) s =
    .next ((s.reads (pairWords pair k)).result base [boolWord true] ((ops k).drop 1)) := by
  subst hk
  have hend := (h.run hs heq le_rfl hr).ends h.bound h.done
  rwa [h.final] at hend

theorem differs (hk : k < n) (hr : s.readableAll (pairWords pair (k + 1))) (hne : s.wordAt (pair k).1 ≠ s.wordAt (pair k).2) :
    complete (blockLoop r.iteration) s =
      .next ((s.reads (pairWords pair (k + 1))).result base [boolWord false] ((ops k).drop 1)) := by
  obtain ⟨-, hx, -, hn, -⟩ := h.compares k hk
  have hw := h.work_eq hs hk hr
  rw [decide_eq_false hne] at hw
  have hm : (s.reads (pairWords pair k)).MemoryOnly (s.reads (pairWords pair (k + 1))) := by
    rw [pairWords_succ, State.reads_append_list]
    exact .reads _ _
  have hstop := (h.run hs heq hk.le (State.readableAll_pairWords_succ.1 hr).1).stops (hk.trans h.bound) (h.count k hk) hm hw hx
    (by rw [hn]; exact h.positive)
  rwa [hn] at hstop

/-- A fault at the `k`th pair. -/
theorem faults (hk : k < n) (hsp : s.savedSP = s.sp) (hr : s.readableAll (pairWords pair k)) {kind : FaultKind} :
    (s.faultsAt .read (pair k).1 kind → complete (blockLoop r.iteration) s =
      .next { (s.reads (pairWords pair k)).result base (ops k) [] with
        pc := s.savedPC, exception := some (.fault kind (pair k).1) }) ∧
    (s.readable (pair k).1 → s.faultsAt .read (pair k).2 kind → complete (blockLoop r.iteration) s =
      .next { ((s.reads (pairWords pair k)).touch (pair k).1 .read).result base (ops k) [] with
        pc := s.savedPC, exception := some (.fault kind (pair k).2) }) := by
  have hrun := h.run hs heq hk.le hr
  have hm := State.MemoryOnly.reads s (pairWords pair k)
  have hu := (hm.quiet hs).2
  obtain ⟨-, -, -, -, hw⟩ := h.compares k hk
  have hwork := hw _ (hm.sameBases base [] (ops k))
  refine ⟨fun hf => ?first, fun hp hf => ?second⟩
  case first =>
    exact hrun.faults (hk.trans h.bound) hsp (h.count k hk) (.refl _)
      (hwork.trans (compareWords_first_fault hu ((State.faultsAt_reads hr).2 hf)))
  case second =>
    exact hrun.faults (hk.trans h.bound) hsp (h.count k hk) (.touch _ _ _)
      (hwork.trans (compareWords_second_fault hu ((State.readable_reads hr).2 hp) ((State.faultsAt_reads hr).2 hf)))

end BlockRoutine.ComparePlan

section Plans
variable {s : State} {base : Nat} {a b c d e : Word}

theorem blel_plan (h : s.holds base [a, b, c, d, e]) : blelRoutine.ComparePlan s base c.toNat
    (fun k => (Long.ofHalves e d + BitVec.ofNat 32 k, Long.ofHalves b a + BitVec.ofNat 32 k))
    (fun k => longOperands (Long.ofHalves b a + BitVec.ofNat 32 k) (c - BitVec.ofNat 16 k)
      (Long.ofHalves e d + BitVec.ofNat 32 k)) where
  holds := by simpa [longOperands, longWords] using h
  length := rfl
  positive := by decide
  count _ hk := sub_ofNat_ne_zero hk
  compares k _ := by simp only [add_ofNat_succ, sub_ofNat_succ]; exact blelRoutine_compares ..
  done := sub_ofNat_toNat c
  final := rfl
  bound := c.isLt

theorem blecl_plan (h : s.holds base [a, b, c, d]) (hb : ∀ k < b.toNat, s.codeInBank (a + BitVec.ofNat 16 k) = true) :
    bleclRoutine.ComparePlan s base b.toNat
      (fun k => (Long.ofHalves d c + BitVec.ofNat 32 k, s.codeAddress (a + BitVec.ofNat 16 k)))
      (fun k => pointerOperands (a + BitVec.ofNat 16 k) (b - BitVec.ofNat 16 k) (Long.ofHalves d c + BitVec.ofNat 32 k)) where
  holds := by simpa [pointerOperands, longWords] using h
  length := rfl
  positive := by decide
  count _ hk := sub_ofNat_ne_zero hk
  compares k hk := by simp only [add_ofNat_succ, sub_ofNat_succ]; exact bleclRoutine_compares _ _ _ _ (hb k hk)
  done := sub_ofNat_toNat b
  final := rfl
  bound := b.isLt

end Plans

/-! The checksum. -/

section Checksum
variable {s : State} {base : Nat} {cksum count low high : Word}

/-- The addresses of the first `k` words of a block. -/
def blockWords (p : Long) (k : Nat) : List Long := (List.range k).map fun j => p + BitVec.ofNat 32 j

theorem blockWords_succ (p : Long) (k : Nat) : blockWords p (k + 1) = blockWords p k ++ [p + BitVec.ofNat 32 k] := by
  simp [blockWords, List.range_succ]

/-- The checksum of words, from a first value. -/
def State.checksum (s : State) (first : Word) (vas : List Long) : Word := vas.foldl (fun c va => checksumStep c (s.wordAt va)) first

/-- The operands of `CKSUM` after `k` words. -/
def State.cksumOperands (s : State) (cksum count : Word) (p : Long) (k : Nat) : List Word :=
  pointerOperands (s.checksum cksum (blockWords p k)) (count - BitVec.ofNat 16 k) (p + BitVec.ofNat 32 k)

theorem cksum_next (p : Long) (k : Nat) :
    cksumRoutine.next (s.cksumOperands cksum count p k) (s.wordAt (p + BitVec.ofNat 32 k)) =
      s.cksumOperands cksum count p (k + 1) := by
  rw [State.cksumOperands, cksumRoutine_next, State.cksumOperands, add_ofNat_succ, sub_ofNat_succ, blockWords_succ]
  simp [State.checksum]

variable (hs : s.quiet) (h : s.holds base [cksum, count, low, high])
include hs h

theorem cksum_run {k : Nat} (hk : k ≤ count.toNat) (hr : s.readableAll (blockWords (Long.ofHalves high low) k)) :
    cksumRoutine.Run base k (fun j => s.reads (blockWords (Long.ofHalves high low) j))
      (s.cksumOperands cksum count (Long.ofHalves high low)) where
  quiet := hs
  holds := by simpa [State.cksumOperands, State.checksum, blockWords, pointerOperands, longWords] using h
  length := rfl
  step j hj := by
    generalize Long.ofHalves high low = p at hr ⊢
    have hrj : s.readableAll (blockWords p (j + 1)) := fun va hva => hr va (by
      simp only [blockWords, List.mem_map, List.mem_range] at hva ⊢
      obtain ⟨i, hi, rfl⟩ := hva
      exact ⟨i, by omega, rfl⟩)
    rw [blockWords_succ, State.readableAll_append, State.readableAll_single] at hrj
    obtain ⟨hrj, hp⟩ := hrj
    have hm := State.MemoryOnly.reads s (blockWords p j)
    have hfetch := fetch_result_ok (base := base) (ws := []) (above := s.cksumOperands cksum count p j)
      (.of_undisturbed (hm.quiet hs).2) ((State.readable_reads hrj).2 hp)
    rw [← State.reads_append_list, ← blockWords_succ, State.wordAt_reads hrj,
      State.takeTurns_undisturbed ((State.MemoryOnly.reads s _).quiet hs).2] at hfetch
    refine ⟨sub_ofNat_ne_zero (by omega), ?_, _, rfl, cksum_next p j, ?_⟩
    · rw [blockWords_succ, State.reads_append_list]
      exact .reads _ _
    · exact (congrFun (cksumRoutine_work ..) _).trans hfetch

theorem cksum_ends (hr : s.readableAll (blockWords (Long.ofHalves high low) count.toNat)) :
    exec .cksum s = .next ((s.reads (blockWords (Long.ofHalves high low) count.toNat)).result base
      [finalChecksum (s.checksum cksum (blockWords (Long.ofHalves high low) count.toNat))]
      (0 :: longWords (Long.ofHalves high low + count.setWidth 32))) := by
  have hend := (cksum_run hs h le_rfl hr).ends count.isLt (sub_ofNat_toNat count)
  have hfinal : cksumRoutine.final (s.cksumOperands cksum count (Long.ofHalves high low) count.toNat) =
      [finalChecksum (s.checksum cksum (blockWords (Long.ofHalves high low) count.toNat))] := rfl
  rw [hfinal] at hend
  refine ((exec_cksum s).trans hend).trans ?_
  simp [State.cksumOperands, pointerOperands]

theorem cksum_faults {k : Nat} (hk : k < count.toNat) (hsp : s.savedSP = s.sp)
    (hr : s.readableAll (blockWords (Long.ofHalves high low) k)) {kind : FaultKind}
    (hf : s.faultsAt .read (Long.ofHalves high low + BitVec.ofNat 32 k) kind) : exec .cksum s =
      .next { (s.reads (blockWords (Long.ofHalves high low) k)).result base
          (s.cksumOperands cksum count (Long.ofHalves high low) k) [] with
        pc := s.savedPC, exception := some (.fault kind (Long.ofHalves high low + BitVec.ofNat 32 k)) } := by
  have hm := State.MemoryOnly.reads s (blockWords (Long.ofHalves high low) k)
  have hfetch := fetch_result_fault (base := base) (ws := [])
    (above := s.cksumOperands cksum count (Long.ofHalves high low) k) (hm.quiet hs).2 ((State.faultsAt_reads hr).2 hf)
  refine (exec_cksum s).trans ((cksum_run hs h hk.le hr).faults (hk.trans count.isLt) hsp (sub_ofNat_ne_zero hk) (.refl _) ?_)
  exact (congrFun (cksumRoutine_work ..) _).trans hfetch

end Checksum

/-- Settles O45: the checksum by its run, each compare by its plan. -/
theorem checksumAndCompares : Obligations.ChecksumAndCompares := by
  refine ⟨fun s base cksum count low high hs h hr => cksum_ends hs h hr,
    fun s base a b c d e n hs => ⟨fun h hn heq => ?blel, fun h hn heq hb => ?blecl⟩⟩
  case blel =>
    rw [exec_blel]
    refine ⟨fun he hr => ?_, fun hlt hr hne => ?_⟩
    · rw [(blel_plan h).ends hs heq he hr, he]
      simp [pairWords, longOperands, longWords, boolWord]
    · exact (blel_plan h).differs hs heq hlt hr hne
  case blecl =>
    rw [exec_blecl]
    refine ⟨fun he hr => ?_, fun hlt hr hne => ?_⟩
    · rw [(blecl_plan h hb).ends hs heq he hr, he]
      simp [pairWords, pointerOperands, longWords, boolWord]
    · exact (blecl_plan h hb).differs hs heq hlt hr hne

end Sys2Proof.Machine
end

section
/-! A fault in the middle of a block instruction (46_block.md R532, R552; 60_exceptions.md R683, R684). -/

namespace Sys2Proof.Machine

theorem State.faultsAt_of_locked {s : State} {va : Long}
    (h : (s.entryOf va).isVacant = false ∧ (s.entryOf va).isProtected = true) : s.faultsAt .write va .writeProtectFault :=
  .inr ⟨rfl, h.1, h.2, rfl⟩

/-! Transfers of bytes. -/

theorem bytePath_eq (advance : BytePosition → BytePosition) (p : BytePosition) (n : Nat) :
    bytePath advance p n = (List.range n).map fun k => advance^[k] p := by
  induction n generalizing p with
  | zero => rfl
  | succ n ih =>
    rw [bytePath, ih, List.range_succ_eq_map, List.map_cons, List.map_map]
    rfl

theorem normaliseByte_normalised (p : BytePosition) : normaliseByte (normaliseByte p) = normaliseByte p :=
  normaliseByte_of_offset (by rw [normaliseByte_offset]; omega)

@[simp] theorem byteSource_byteOperands (q : BytePosition) (count : Word) (p : BytePosition) :
    byteSource (byteOperands q count p) = normaliseByte p := congrArg (fun u => normaliseByte ⟨u, p.offset⟩) (Long.ofHalves_high_low p.base)

@[simp] theorem byteDest_byteOperands (q : BytePosition) (count : Word) (p : BytePosition) :
    byteDest (byteOperands q count p) = normaliseByte q := congrArg (fun u => normaliseByte ⟨u, q.offset⟩) (Long.ofHalves_high_low q.base)

/-- The first `k` byte copies between the paths from two positions. -/
def byteCopyList (advance : BytePosition → BytePosition) (p q : BytePosition) (k : Nat) : List (BytePosition × BytePosition) :=
  (List.range k).map fun j => (advance^[j] p, advance^[j] q)

theorem byteCopyList_succ (advance : BytePosition → BytePosition) (p q : BytePosition) (k : Nat) :
    byteCopyList advance p q (k + 1) = byteCopyList advance p q k ++ [(advance^[k] p, advance^[k] q)] := by
  simp [byteCopyList, List.range_succ]

theorem take_zip_bytePath (advance : BytePosition → BytePosition) (p q : BytePosition) (k : Nat) :
    ((bytePath advance p (k + 1)).zip (bytePath advance q (k + 1))).take k = byteCopyList advance p q k := by
  rw [bytePath_eq, bytePath_eq, List.zip_map', ← List.map_take, List.take_range, Nat.min_eq_left (Nat.le_succ k)]
  rfl

theorem getD_bytePath (advance : BytePosition → BytePosition) (p r : BytePosition) (k : Nat) :
    (bytePath advance p (k + 1)).getD k r = advance^[k] p := by
  rw [bytePath_eq, List.getD_eq_getElem?_getD, List.getElem?_map, List.getElem?_range (Nat.lt_succ_self k)]
  rfl

/-- The operands of a byte block transfer after `k` bytes: normalised from the first unit on. -/
def byteOperandsAfter (advance : BytePosition → BytePosition) (ws : List Word) (k : Nat) : List Word :=
  if k = 0 then ws
  else byteOperands (advance^[k] (byteDest ws)) (recordWord ws 3 - BitVec.ofNat 16 k) (advance^[k] (byteSource ws))

section Bytes
variable {advance : BytePosition → BytePosition}

theorem count_byteOperandsAfter (ws : List Word) (k : Nat) :
    recordWord (byteOperandsAfter advance ws k) 3 = recordWord ws 3 - BitVec.ofNat 16 k := by
  rw [byteOperandsAfter]
  split
  · simp [*]
  · rfl

theorem byteRoutine_count {ws : List Word} {k : Nat} (hk : k < (recordWord ws 3).toNat) :
    (byteRoutine advance).count (byteOperandsAfter advance ws k) ≠ 0 :=
  (count_byteOperandsAfter ws k).trans_ne (sub_ofNat_ne_zero hk)

variable (ha : ∀ p, normaliseByte (advance (normaliseByte p)) = advance (normaliseByte p))
include ha

theorem normaliseByte_path (p : BytePosition) (k : Nat) :
    normaliseByte (advance^[k] (normaliseByte p)) = advance^[k] (normaliseByte p) := by
  induction k with
  | zero => exact normaliseByte_normalised p
  | succ k ih => rw [Function.iterate_succ_apply', ← ih, ha]

theorem byteSource_byteOperandsAfter (ws : List Word) (k : Nat) :
    byteSource (byteOperandsAfter advance ws k) = advance^[k] (byteSource ws) := by
  rw [byteOperandsAfter]
  split
  · simp [*]
  · rw [byteSource_byteOperands, byteSource, normaliseByte_path ha]

theorem byteDest_byteOperandsAfter (ws : List Word) (k : Nat) :
    byteDest (byteOperandsAfter advance ws k) = advance^[k] (byteDest ws) := by
  rw [byteOperandsAfter]
  split
  · simp [*]
  · rw [byteDest_byteOperands, byteDest, normaliseByte_path ha]

theorem byteRoutine_next (ws : List Word) (k : Nat) :
    (byteRoutine advance).next (byteOperandsAfter advance ws k) () = byteOperandsAfter advance ws (k + 1) := by
  simp only [byteRoutine, byteSource_byteOperandsAfter ha, byteDest_byteOperandsAfter ha, count_byteOperandsAfter]
  rw [byteOperandsAfter, if_neg (Nat.succ_ne_zero k), Function.iterate_succ_apply', Function.iterate_succ_apply', sub_ofNat_succ]

theorem byteRoutine_work (ws : List Word) (k : Nat) : (byteRoutine advance).work (byteOperandsAfter advance ws k) =
    copyBytes (advance^[k] (byteSource ws)) (advance^[k] (byteDest ws)) := by
  rw [← byteSource_byteOperandsAfter ha, ← byteDest_byteOperandsAfter ha]
  rfl

variable {s : State} {base k : Nat} {ws : List Word} (hs : s.quiet) (h : s.holds base ws) (hl : ws.length = 7)
  (hk : k ≤ (recordWord ws 3).toNat) (hc : s.byteCopyable (byteCopyList advance (byteSource ws) (byteDest ws) k))
include hs h hl hc

theorem byte_run (hk : k ≤ (recordWord ws 3).toNat) : (byteRoutine advance).Run base k
    (fun j => s.byteCopies (byteCopyList advance (byteSource ws) (byteDest ws) j)) (byteOperandsAfter advance ws) where
  quiet := hs
  holds := h
  length := hl
  step j hj := by
    generalize hp : byteSource ws = p at hc
    generalize hq : byteDest ws = q at hc
    have hcj : s.byteCopyable (byteCopyList advance p q (j + 1)) := by
      simp only [State.byteCopyable, byteCopyList, List.forall_mem_map, List.mem_range] at hc ⊢
      exact fun i hi => hc i (by omega)
    rw [byteCopyList_succ, State.byteCopyable, List.forall_mem_append, List.forall_mem_singleton] at hcj
    obtain ⟨hcj, hpj, hqj⟩ := hcj
    have hm := State.MemoryOnly.byteCopies s (byteCopyList advance p q j)
    have hpages := State.samePages_byteCopies hcj
    have hsucc : s.byteCopies (byteCopyList advance p q (j + 1)) =
        (s.byteCopies (byteCopyList advance p q j)).copyByte (advance^[j] p) (advance^[j] q) := by
      simp [byteCopyList_succ, State.byteCopies]
    have hcopy := copyBytes_ok (base := base) (ws := []) (above := byteOperandsAfter advance ws j)
      (.of_undisturbed (hm.quiet hs).2) ((hm.readable hpages).2 hpj) ((hm.storable hpages).2 hqj)
    rw [← hsucc, State.takeTurns_undisturbed ((State.MemoryOnly.byteCopies s _).quiet hs).2] at hcopy
    refine ⟨byteRoutine_count (by omega), ?_, (), rfl, byteRoutine_next ha ws j, ?_⟩
    · rw [hsucc]; exact .copyByte _ _ _
    · rw [byteRoutine_work ha, hp, hq]; exact hcopy

/-- A fault at the `k`th byte. -/
theorem byte_faults (hk : k < (recordWord ws 3).toNat) (hsp : s.savedSP = s.sp) {kind : FaultKind} :
    let p := advance^[k] (byteSource ws)
    let q := advance^[k] (byteDest ws)
    let t := s.byteCopies (byteCopyList advance (byteSource ws) (byteDest ws) k)
    let after (u : State) (va : Long) : Prop := complete (blockLoop (byteRoutine advance).iteration) s =
      .next { u.result base (byteOperandsAfter advance ws k) [] with pc := s.savedPC, exception := some (.fault kind va) }
    (s.faultsAt .read p.address kind → after t p.address) ∧
    (s.readable p.address → s.faultsAt .read q.address kind → after (t.touch p.address .read) q.address) ∧
    (s.readable p.address → s.readable q.address → s.faultsAt .write q.address kind →
      after ((t.touch p.address .read).touch q.address .read) q.address) := by
  intro p q t after
  have hrun := byte_run ha hs h hl hc hk.le
  have hcount := byteRoutine_count (advance := advance) hk
  have hbound : k < 65536 := hk.trans (recordWord ws 3).isLt
  have hm := State.MemoryOnly.byteCopies s (byteCopyList advance (byteSource ws) (byteDest ws) k)
  have hpages := State.samePages_byteCopies hc
  have hu := (hm.quiet hs).2
  have hw := byteRoutine_work ha ws k
  refine ⟨fun hf => ?source, fun hp hf => ?dest, fun hp hq hf => ?stored⟩
  case source =>
    exact hrun.faults hbound hsp hcount (.refl t) (by rw [hw]; exact copyBytes_source_fault hu (hpages.faultsAt.2 hf))
  case dest =>
    exact hrun.faults hbound hsp hcount (.touch t _ _)
      (by rw [hw]; exact copyBytes_dest_fault hu ((hm.readable hpages).2 hp) (hpages.faultsAt.2 hf))
  case stored =>
    exact hrun.faults hbound hsp hcount ((State.MemoryOnly.touch t _ _).trans (.touch _ _ _))
      (by rw [hw]; exact copyBytes_store_fault hu ((hm.readable hpages).2 hp) ((hm.readable hpages).2 hq) (hpages.faultsAt.2 hf))

end Bytes

/-! The clauses of the statement. -/

namespace BlockRoutine.CopyPlan
variable {r : BlockRoutine Unit} {s : State} {base : Nat} {count : Word} {pair : Nat → Long × Long} {ops : Nat → List Word}

theorem fault_clauses {i : Instr} (hi : exec i s = complete (blockLoop r.iteration) s) (h : r.CopyPlan s base count.toNat pair ops)
    (hs : s.quiet) (hsp : s.savedSP = s.sp) : ∀ k < count.toNat, s.copyable ((List.range k).map pair) →
    let t := s.copies ((List.range k).map pair)
    let after (u : State) (kind : FaultKind) (va : Long) : Prop :=
      exec i s = .next { u.result base (ops k) [] with pc := s.savedPC, exception := some (.fault kind va) }
    ((s.entryOf (pair k).1).isVacant = true → after t .pageFault (pair k).1) ∧
    (s.readable (pair k).1 → (s.entryOf (pair k).2).isVacant = true → after (t.touch (pair k).1 .read) .pageFault (pair k).2) ∧
    (s.readable (pair k).1 → (s.entryOf (pair k).2).isVacant = false ∧ (s.entryOf (pair k).2).isProtected = true →
      after (t.touch (pair k).1 .read) .writeProtectFault (pair k).2) := by
  intro k hk hc t after
  simp only [after, hi]
  have hfaults {kind : FaultKind} := h.faults (kind := kind) hs hk hsp hc
  exact ⟨fun hv => hfaults.1 (State.faultsAt_of_vacant _ hv), fun hp hv => hfaults.2 hp (State.faultsAt_of_vacant _ hv),
    fun hp hl => hfaults.2 hp (State.faultsAt_of_locked hl)⟩

end BlockRoutine.CopyPlan

namespace BlockRoutine.ComparePlan
variable {r : BlockRoutine Bool} {s : State} {base : Nat} {count : Word} {pair : Nat → Long × Long} {ops : Nat → List Word}

theorem fault_clauses {i : Instr} (hi : exec i s = complete (blockLoop r.iteration) s)
    (h : r.ComparePlan s base count.toNat pair ops) (hs : s.quiet) (hsp : s.savedSP = s.sp) :
    ∀ k < count.toNat, (∀ j < k, s.wordAt (pair j).1 = s.wordAt (pair j).2) → s.readableAll (pairWords pair k) →
    let t := s.reads (pairWords pair k)
    let after (u : State) (va : Long) : Prop :=
      exec i s = .next { u.result base (ops k) [] with pc := s.savedPC, exception := some (.fault .pageFault va) }
    ((s.entryOf (pair k).1).isVacant = true → after t (pair k).1) ∧
    (s.readable (pair k).1 → (s.entryOf (pair k).2).isVacant = true → after (t.touch (pair k).1 .read) (pair k).2) := by
  intro k hk heq hr t after
  simp only [after, hi]
  have hfaults := h.faults hs heq hk hsp hr (kind := .pageFault)
  exact ⟨fun hv => hfaults.1 (State.faultsAt_of_vacant _ hv), fun hp hv => hfaults.2 hp (State.faultsAt_of_vacant _ hv)⟩

end BlockRoutine.ComparePlan

/-- Settles O49: the transfers and compares by their plans, the checksum and the byte transfers by their runs. -/
theorem blockFault : Obligations.BlockFault := by
  intro s base a b c d e f g hs hsp faults vacant locked copies compares short code up halves
  refine ⟨fun h => ⟨?blt, fun hb => ?bltc⟩, fun h => ⟨fun hb => ⟨?bltcl, ?blecl⟩, fun k hk hr hv => ?cksum⟩,
    fun h => ⟨?bltl, ?bltlr, ?blel⟩, fun h => ?bytes⟩
  case blt => exact (blt_plan h).fault_clauses (exec_blt s) hs hsp
  case bltc => exact (bltc_plan h hb).fault_clauses (exec_bltc s) hs hsp
  case bltcl => exact (bltcl_plan h hb).fault_clauses (exec_bltcl s) hs hsp
  case blecl => exact (blecl_plan h hb).fault_clauses (exec_blecl s) hs hsp
  case cksum => exact cksum_faults hs h hk hsp hr (State.faultsAt_of_vacant _ hv)
  case bltl => exact (bltl_plan h).fault_clauses (exec_bltl s) hs hsp
  case bltlr => exact (bltlr_plan h).fault_clauses (exec_bltlr s) hs hsp
  case blel => exact (blel_plan h).fault_clauses (exec_blel s) hs hsp
  case bytes =>
    intro i hi k hk source dest done p q ops t hc
    obtain ⟨hexec, ha⟩ : exec i.1 s = complete (blockLoop (byteRoutine i.2).iteration) s ∧
        ∀ p, normaliseByte (i.2 (normaliseByte p)) = i.2 (normaliseByte p) := by
      simp only [List.mem_cons, List.not_mem_nil, or_false] at hi
      rcases hi with rfl | rfl
      · exact ⟨exec_bytblt s, normaliseByte_nextByte⟩
      · exact ⟨exec_bytbltr s, normaliseByte_previousByte⟩
    have hp : p = i.2^[k] (byteSource [a, b, c, d, e, f, g]) := getD_bytePath ..
    have hq : q = i.2^[k] (byteDest [a, b, c, d, e, f, g]) := getD_bytePath ..
    have hops : ops = byteOperandsAfter i.2 [a, b, c, d, e, f, g] k := by
      rw [byteOperandsAfter, ← hp, ← hq]; rfl
    have hdone : done = byteCopyList i.2 (byteSource [a, b, c, d, e, f, g]) (byteDest [a, b, c, d, e, f, g]) k :=
      take_zip_bytePath ..
    clear_value ops p q done
    subst hops hp hq hdone
    simp only [faults, hexec]
    have hfaults {kind : FaultKind} := byte_faults ha hs h rfl hc hk hsp (kind := kind)
    exact ⟨fun hv => hfaults.1 (State.faultsAt_of_vacant _ hv), fun hr hv => hfaults.2.1 hr (State.faultsAt_of_vacant _ hv),
      fun hr hr' hl => hfaults.2.2 hr hr' (State.faultsAt_of_locked ⟨hr'.1.1, hl⟩)⟩

end Sys2Proof.Machine
end

section
/-! Interrupts in the middle of a block instruction (46_block.md R531, R532). -/

namespace Sys2Proof.Machine

theorem complete_of_loop {iteration : Act Bool} {s t : State} {b : Bool} (h : loop iteration blockFuel s = .ok b t) :
    complete (blockLoop iteration) s = .next t := complete_ok (bind_ok h)

/-- The test after a unit (R531). -/
theorem suspendOrContinue_woken {s : State} (h : s.onlyWakeups) (base : Nat) (ws : List Word) :
    suspendOrContinue (s.result base ws []) = if s.testOmitted = false ∧ interruptPending s.takeTurn = true
      then .ok false { s.takeTurn.result base ws [] with pc := s.savedPC } else .ok true (s.takeTurn.result base ws []) := by
  rw [suspendOrContinue_apply, h.result_takeTurn]
  simp only [State.result_savedPC, State.takeTurn_savedPC]
  rfl

/-- The state `t` after turns of the devices that have come from `s`. -/
theorem State.MemoryOnly.takeTurns_eq {s t : State} (h : s.MemoryOnly t) (hs : s.onlyWakeups) (n : Nat) :
    t.takeTurns n = t.awake (s.takeTurns n).wp (s.takeTurns n).turns := by
  have ht : t.onlyWakeups := by rw [h]; exact hs
  obtain ⟨hw, hd⟩ := hs.takeTurns_congr (t := t) (by rw [h]) (by rw [h]) n
  rw [ht.takeTurns_eq n, hw, hd]

theorem interruptPending_congr {s t : State} (hc : t.cfg = s.cfg) (hp : t.wp = s.wp) (hd : t.wdc = s.wdc) (hm : t.wm = s.wm) :
    interruptPending t = interruptPending s := by
  simp [interruptPending, hc, hp, hd, hm]

theorem State.onlyWakeups.interruptPending_takeTurns {s t : State} (hs : s.onlyWakeups) (h : s.MemoryOnly t) (n : Nat) :
    interruptPending (t.takeTurns n) = interruptPending (s.takeTurns n) := by
  rw [h.takeTurns_eq hs, hs.takeTurns_eq n, h]
  rfl

theorem State.onlyWakeups.testOmitted_takeTurns {s t : State} (hs : s.onlyWakeups) (h : s.MemoryOnly t) (n : Nat) :
    (t.takeTurns n).testOmitted = (s.takeTurns n).testOmitted := by
  rw [h.takeTurns_eq hs, hs.takeTurns_eq n]
  rfl

namespace BlockRoutine
variable {α : Type} {r : BlockRoutine α} {s t : State} {base n : Nat} {ws : List Word} {x : α}

/-- One unit of `n` accesses and the test after it, as `s` has the wakeups and the turns to come. -/
theorem iteration_woken (hl : base + r.size ≤ s.stack.length) (hws : ws.length = r.size) (hc : r.count ws ≠ 0)
    (hs : s.onlyWakeups) (hm : s.MemoryOnly t) (hw : r.work ws (s.result base [] ws) = .ok x ((t.takeTurns n).result base [] ws))
    (hx : r.more x = true) : r.iteration (s.result base ws []) =
      if (s.takeTurns n).testOmitted = false ∧ interruptPending (s.takeTurns (n + 1)) = true
      then .ok false { (t.awake (s.takeTurns (n + 1)).wp (s.takeTurns (n + 1)).turns).result base (r.next ws x) [] with
        pc := s.savedPC }
      else .ok true ((t.awake (s.takeTurns (n + 1)).wp (s.takeTurns (n + 1)).turns).result base (r.next ws x) []) := by
  have ht : t.onlyWakeups := by rw [hm]; exact hs
  have hstack : (t.takeTurns n).stack = s.stack := by rw [hm.takeTurns_eq hs]; exact hm.stack
  have hsaved : (t.takeTurns n).savedPC = s.savedPC := by rw [hm.takeTurns_eq hs, hm]; rfl
  rw [iteration_goes_on hl hws hc hstack hw hx, suspendOrContinue_woken (ht.takeTurns n), ← State.takeTurns_succ,
    hs.testOmitted_takeTurns hm, hs.interruptPending_takeTurns hm, hm.takeTurns_eq hs (n + 1), hsaved]

/-- After its first unit the instruction is suspended, or goes on as from the updated operands. -/
theorem first_unit {i : Instr} (hi : ∀ u, exec i u = complete (blockLoop r.iteration) u) (h : s.holds base ws)
    (hws : ws.length = r.size) (hc : r.count ws ≠ 0) (hs : s.onlyWakeups) (hm : s.MemoryOnly t)
    (hw : r.work ws (s.result base [] ws) = .ok x ((t.takeTurns n).result base [] ws)) (hx : r.more x = true) :
    let u := s.takeTurns (n + 1)
    let updated := { t.result base (r.next ws x) [] with wp := u.wp, turns := u.turns }
    ((s.takeTurns n).testOmitted = false → interruptPending u = true → exec i s = .next { updated with pc := s.savedPC }) ∧
    ((s.takeTurns n).testOmitted = true ∨ interruptPending u = false → exec i s = exec i updated) := by
  intro u updated
  have hroom : base + r.size ≤ s.stack.length := hws ▸ State.holds_bound h
  have hstep := iteration_woken hroom hws hc hs hm hw hx
  rw [State.result_of_holds h] at hstep
  refine ⟨fun ho hp => ?suspended, fun hn => ?continued⟩
  case suspended =>
    rw [if_pos ⟨ho, hp⟩] at hstep
    exact (hi s).trans (complete_of_loop (b := true) (bind_ok hstep))
  case continued =>
    have hnot : ¬ ((s.takeTurns n).testOmitted = false ∧ interruptPending u = true) := by
      rintro ⟨ho, hp⟩
      rcases hn with hn | hn
      · rw [ho] at hn; cases hn
      · rw [hp] at hn; cases hn
    rw [if_neg hnot] at hstep
    have hlen := r.length_next ws x hx
    have htop : updated.topWords r.size = r.next ws x := by
      have hb : base + (r.next ws x).length ≤ t.stack.length := by rw [hlen, hm.stack]; exact hroom
      exact hlen ▸ (State.holds_result (s := t) [] hb).topWords
    have hfuel : (r.count (updated.topWords r.size)).toNat < 65535 := by
      rw [htop, r.count_next ws x hx]
      bv_omega
    have hloop : loop r.iteration blockFuel s = loop r.iteration blockFuel updated :=
      (bind_ok hstep).trans (r.loop_fuel hfuel)
    rw [hi, hi]
    refine complete_congr ?_
    rw [blockLoop, act_bind, act_bind, hloop]

end BlockRoutine

/-! The first unit of each instruction. -/

section First
variable {s : State} {base : Nat} {ws ws' : List Word} {p q : Long} (hs : s.onlyWakeups) (h : s.holds base ws)
include hs h

theorem copies_first_unit {r : BlockRoutine Unit} {i : Instr} (hi : ∀ u, exec i u = complete (blockLoop r.iteration) u)
    (hws : ws.length = r.size) (hc : r.count ws ≠ 0) (hcopy : r.Copies s ws ws' p q) (hp : s.readable p) (hq : s.storable q) :
    let u := s.takeTurns 3
    let updated := { (s.copyWord p q).result base ws' [] with wp := u.wp, turns := u.turns }
    ((s.takeTurns 2).testOmitted = false → interruptPending u = true → exec i s = .next { updated with pc := s.savedPC }) ∧
    ((s.takeTurns 2).testOmitted = true ∨ interruptPending u = false → exec i s = exec i updated) := by
  obtain ⟨hx, hn, hw⟩ := hcopy
  have hwork := (hw _ ((State.MemoryOnly.refl s).sameBases base [] ws)).trans (copyWords_ok hs hp hq)
  have hfirst := BlockRoutine.first_unit hi h hws hc hs (.copyWord s p q) hwork hx
  rwa [hn] at hfirst

theorem compares_first_unit {r : BlockRoutine Bool} {i : Instr} (hi : ∀ u, exec i u = complete (blockLoop r.iteration) u)
    (hws : ws.length = r.size) (hc : r.count ws ≠ 0) (hcompare : r.Compares s ws ws' p q) (hp : s.readable p)
    (hq : s.readable q) (heq : s.wordAt p = s.wordAt q) :
    let u := s.takeTurns 3
    let updated := { (s.reads [p, q]).result base ws' [] with wp := u.wp, turns := u.turns }
    ((s.takeTurns 2).testOmitted = false → interruptPending u = true → exec i s = .next { updated with pc := s.savedPC }) ∧
    ((s.takeTurns 2).testOmitted = true ∨ interruptPending u = false → exec i s = exec i updated) := by
  obtain ⟨hx, -, hn, -, hw⟩ := hcompare
  have hwork := (hw _ ((State.MemoryOnly.refl s).sameBases base [] ws)).trans (compareWords_ok hs hp hq)
  rw [decide_eq_true heq] at hwork
  have hfirst := BlockRoutine.first_unit hi h hws hc hs (.reads s [p, q]) hwork hx
  rwa [hn] at hfirst

end First

/-- Settles O48: each instruction by its first unit. -/
theorem blockSuspension : Obligations.BlockSuspension := by
  intro s base a b c d e f g hs tests
  refine ⟨fun h hb hq => ⟨fun hp => ?blt, fun hp => ?bltc⟩, fun h hb => ⟨fun hp hq => ?bltcl, fun hp => ?cksum, fun hp hq heq => ?blecl⟩,
    fun h hc => ⟨fun hp hq => ?bltl, fun hp hq => ?bltlr, fun hp hq heq => ?blel⟩, fun h hd hp hq => ?bytes⟩
  case blt => exact copies_first_unit hs h exec_blt rfl hb (bltRoutine_copies ..) hp hq
  case bltc => exact copies_first_unit hs h exec_bltc rfl hb (bltcRoutine_copies _ _ _ _ hp.1) hp.2 hq
  case bltcl =>
    have h : s.holds base (pointerOperands a b (Long.ofHalves d c)) := by simpa [pointerOperands, longWords] using h
    exact copies_first_unit hs h exec_bltcl rfl hb (bltclRoutine_copies _ _ _ _ hp.1) hp.2 hq
  case cksum =>
    have h : s.holds base (pointerOperands a b (Long.ofHalves d c)) := by simpa [pointerOperands, longWords] using h
    have hwork := (congrFun (cksumRoutine_work a b (Long.ofHalves d c)) _).trans
      (fetch_result_ok (base := base) (ws := []) (above := pointerOperands a b (Long.ofHalves d c)) hs hp)
    have hfirst := BlockRoutine.first_unit exec_cksum h rfl hb hs (.reads s _) hwork rfl
    rwa [cksumRoutine_next] at hfirst
  case blecl =>
    have h : s.holds base (pointerOperands a b (Long.ofHalves d c)) := by simpa [pointerOperands, longWords] using h
    exact compares_first_unit hs h exec_blecl rfl hb (bleclRoutine_compares _ _ _ _ hq.1) hp hq.2 heq
  case bltl =>
    have h : s.holds base (longOperands (Long.ofHalves b a) c (Long.ofHalves e d)) := by simpa [longOperands, longWords] using h
    exact copies_first_unit hs h exec_bltl rfl hc (bltlRoutine_copies ..) hp hq
  case bltlr =>
    have hcopy := bltlrRoutine_copies s c (Long.ofHalves b a) (Long.ofHalves e d)
    have hwords (x : Word) : longOperands (Long.ofHalves b a) x (Long.ofHalves e d) = [a, b, x, d, e] := by
      simp [longOperands, longWords]
    rw [hwords, hwords] at hcopy
    exact copies_first_unit hs h exec_bltlr rfl hc hcopy hp hq
  case blel =>
    have h : s.holds base (longOperands (Long.ofHalves b a) c (Long.ofHalves e d)) := by simpa [longOperands, longWords] using h
    exact compares_first_unit hs h exec_blel rfl hc (blelRoutine_compares ..) hq hp heq
  case bytes =>
    have byte {i : Instr} {advance : BytePosition → BytePosition}
        (hi : ∀ u, exec i u = complete (blockLoop (byteRoutine advance).iteration) u) :=
      BlockRoutine.first_unit hi h rfl hd hs (.copyByte s _ _) (copyBytes_ok hs hp hq) rfl
    simp only [List.forall_mem_cons]
    exact ⟨byte exec_bytblt, byte exec_bytbltr, by simp⟩

/-! A transfer through any number of tests. -/

theorem State.copies_awake (s : State) (w : Word) (ds : List DeviceTurn) (ps : List (Long × Long)) :
    (s.awake w ds).copies ps = (s.copies ps).awake w ds := by
  induction ps generalizing s with
  | nil => rfl
  | cons p ps ih => exact (congrArg (State.copies · ps) (s.copyWord_awake w ds p.1 p.2)).trans (ih _)

namespace BlockRoutine.CopyPlan
variable {r : BlockRoutine Unit} {s : State} {base n : Nat} {pair : Nat → Long × Long} {ops : Nat → List Word}
  (h : r.CopyPlan s base n pair ops)
include h

theorem length_ops {k : Nat} (hk : k ≤ n) : (ops k).length = r.size := by
  cases k with
  | zero => exact h.length
  | succ k =>
    obtain ⟨hx, hn, -⟩ := h.copies k hk
    rw [← hn]
    exact r.length_next _ () hx

/-- From the `k`th word on, with whatever wakeups: to the end, or to a test that suspends the transfer after the `j`th word. -/
theorem loop_woken (hc : s.copyable ((List.range n).map pair)) {m : Nat} : ∀ {k fuel : Nat} {w : Word} {ds : List DeviceTurn},
    k + m = n → m < fuel → (s.awake w ds).onlyWakeups → ∃ (w' : Word) (ds' : List DeviceTurn),
      loop r.iteration fuel (((s.copies ((List.range k).map pair)).awake w ds).result base (ops k) []) =
        .ok true (((s.copies ((List.range n).map pair)).awake w' ds').result base [] (ops n)) ∨
      ∃ j, k < j ∧ j ≤ n ∧
        loop r.iteration fuel (((s.copies ((List.range k).map pair)).awake w ds).result base (ops k) []) =
          .ok true { ((s.copies ((List.range j).map pair)).awake w' ds').result base (ops j) [] with pc := s.savedPC } := by
  have hroom {k : Nat} {w : Word} {ds : List DeviceTurn} :
      base + r.size ≤ ((s.copies ((List.range k).map pair)).awake w ds).stack.length :=
    (State.MemoryOnly.copies s ((List.range k).map pair)).stack ▸ h.length ▸ State.holds_bound h.holds
  induction m with
  | zero =>
    rintro k fuel w ds hk hf -
    obtain rfl : k = n := hk
    obtain ⟨fuel, rfl⟩ := Nat.exists_eq_add_one.2 hf
    have hlast := iteration_last (s := (s.copies ((List.range k).map pair)).awake w ds) hroom (h.length_ops le_rfl) h.done
    rw [h.final] at hlast
    exact ⟨w, ds, .inl (bind_ok hlast)⟩
  | succ m ih =>
    rintro k fuel w ds hkm hf hw
    obtain ⟨fuel, rfl⟩ := Nat.exists_eq_add_one.2 (Nat.zero_lt_of_lt hf)
    have hk : k < n := by omega
    obtain ⟨hck, hp, hq⟩ := State.copyable_succ.1 (State.copyable_take hk hc)
    have hm := State.MemoryOnly.copies s ((List.range k).map pair)
    have hpages := State.samePages_copies hck
    have hbases := hm.sameBases base [] (ops k)
    obtain ⟨hx, hn, hwork⟩ := h.copies k hk
    have hbases : s.SameBases (((s.copies ((List.range k).map pair)).awake w ds).result base [] (ops k)) :=
      ⟨hbases.mds, hbases.cb, hbases.cfg⟩
    have hu : ((s.copies ((List.range k).map pair)).awake w ds).onlyWakeups := hw
    have hcopy := copyWords_ok hu (base := base) (ws := []) (above := ops k) ((hm.readable hpages).2 hp) ((hm.storable hpages).2 hq)
    have hstep := iteration_woken hroom (h.length_ops hk.le) (h.count k hk) hu (.copyWord _ _ _)
      ((hwork _ hbases).trans hcopy) hx
    rw [hn, State.copyWord_awake, ← State.copies_succ] at hstep
    split at hstep
    · refine ⟨(((s.copies ((List.range k).map pair)).awake w ds).takeTurns (2 + 1)).wp,
        (((s.copies ((List.range k).map pair)).awake w ds).takeTurns (2 + 1)).turns, .inr ⟨k + 1, Nat.lt_succ_self k, hk, (bind_ok hstep).trans ?_⟩⟩
      have hpc : (s.copies ((List.range k).map pair)).savedPC = s.savedPC := by rw [hm]
      rw [← hpc]
      rfl
    · obtain ⟨w', ds', hrest⟩ := ih (k := k + 1) (by omega) (Nat.lt_of_succ_lt_succ hf) (hu.takeTurns (2 + 1))
      refine ⟨w', ds', hrest.imp (fun hend => (bind_ok hstep).trans hend) ?_⟩
      rintro ⟨j, hj, hjn, hend⟩
      exact ⟨j, by omega, hjn, (bind_ok hstep).trans hend⟩

/-- The whole transfer, or the first `k` words of it. -/
theorem interrupted {i : Instr} (hi : ∀ u, exec i u = complete (blockLoop r.iteration) u) (hs : s.onlyWakeups)
    (hc : s.copyable ((List.range n).map pair)) : ∃ (w : Word) (ds : List DeviceTurn),
      exec i s = .next { (s.copies ((List.range n).map pair)).result base [] (ops n) with wp := w, turns := ds } ∨
      ∃ k, 0 < k ∧ k ≤ n ∧ exec i s = .next { (s.copies (((List.range n).map pair).take k)).result base (ops k) [] with
        wp := w, turns := ds, pc := s.savedPC } := by
  obtain ⟨w, ds, hloop⟩ := h.loop_woken hc (Nat.zero_add n) h.bound (w := s.wp) (ds := s.turns) hs
  have hstart : ((s.copies ((List.range 0).map pair)).awake s.wp s.turns).result base (ops 0) [] = s :=
    State.result_of_holds h.holds
  rw [hstart] at hloop
  simp only [hi]
  refine ⟨w, ds, hloop.imp complete_of_loop ?_⟩
  rintro ⟨k, hk, hkn, hend⟩
  refine ⟨k, hk, hkn, ?_⟩
  rw [← List.map_take, List.take_range, Nat.min_eq_left hkn]
  exact complete_of_loop hend

end BlockRoutine.CopyPlan

/-- Settles O47: each instruction by its plan. -/
theorem interruptedTransfer : Obligations.InterruptedTransfer := by
  intro s base a b c d e hs
  refine ⟨fun h hc => ?blt, fun h hc => ?bltl⟩
  case blt => simpa using (blt_plan h).interrupted exec_blt hs hc
  case bltl =>
    obtain ⟨w, ds, hend⟩ := (bltl_plan h).interrupted exec_bltl hs hc
    exact ⟨w, ds, hend.imp (fun hend => ⟨_, hend⟩) id⟩

end Sys2Proof.Machine
end

section
/-! SUPPORT. Routines that store to given words of memory only, with devices that raise wakeups (20_memory.md R113, R137; 46_block.md R531). -/

namespace Sys2Proof.Machine

/-- `u` is `s` but for the stack, `WP`, the turns to come, and what may differ after stores to `vas`; its devices raise wakeups only. -/
structure State.BlockStores (s : State) (vas : List Long) (u : State) : Prop where
  woken : u.onlyWakeups
  stores : { s with stack := u.stack, wp := u.wp, turns := u.turns }.StoresTo vas u

namespace State.BlockStores
variable {s u : State} {vas : List Long} {va : Long}

theorem refl (hs : s.onlyWakeups) (vas : List Long) : s.BlockStores vas s := ⟨hs, .refl s vas⟩

theorem registers (h : s.BlockStores vas u) (st : List Word) (n : Nat) (pc : Word) (e : Option Exception) :
    s.BlockStores vas { u with stack := st, sp := n, pc := pc, exception := e } :=
  ⟨h.woken, by rw [h.stores.frame], fun vp => h.stores.pages vp, h.stores.bytes⟩

theorem awake (h : s.BlockStores vas u) (w : Word) {ds : List DeviceTurn} (hds : (u.awake w ds).onlyWakeups) :
    s.BlockStores vas (u.awake w ds) :=
  ⟨hds, by rw [State.awake, h.stores.frame], fun vp => h.stores.pages vp, h.stores.bytes⟩

theorem takeTurn (h : s.BlockStores vas u) : s.BlockStores vas u.takeTurn := by
  have hturn := h.woken.takeTurn
  rw [h.woken.takeTurn_eq] at hturn ⊢
  exact h.awake _ hturn

theorem touch {a : Access} (h : s.BlockStores vas u) (ha : u.accessible va a) : s.BlockStores vas (u.touch va a) :=
  ⟨h.woken.touch va a, by simpa using h.stores.touch ha⟩

theorem storeWord (h : s.BlockStores vas u) (hva : va ∈ vas) (hw : u.writable va) (w : Word) : s.BlockStores vas (u.storeWord va w) :=
  ⟨h.woken.storeWord va w, by simpa using h.stores.storeWord hva hw w⟩

theorem takeException (h : s.BlockStores vas u) (e : Exception) : s.BlockStores vas (takeException e u) := by
  cases e <;> exact h.registers _ _ _ _

theorem lengthenPointer (h : s.BlockStores vas u) (ptr : Word) : u.lengthenPointer ptr = s.lengthenPointer ptr :=
  h.stores.lengthenPointer ptr

theorem cfg (h : s.BlockStores vas u) : u.cfg = s.cfg := by rw [h.stores.frame]

end State.BlockStores

/-- What has stored to `vas` only still has. -/
def BlockRel (s : State) (vas : List Long) (u v : State) : Prop := s.BlockStores vas u → s.BlockStores vas v

namespace BlockRel
variable {s : State} {vas : List Long}

theorem refl (u : State) : BlockRel s vas u u := id

theorem trans (u v w : State) (h : BlockRel s vas u v) (h' : BlockRel s vas v w) : BlockRel s vas u w := fun hu => h' (h hu)

theorem bind {α β : Type} {m : Act α} {f : α → Act β} (hm : Keeps (BlockRel s vas) m) (hf : ∀ a, Keeps (BlockRel s vas) (f a)) :
    Keeps (BlockRel s vas) (m >>= f) := keeps_bind trans hm hf

theorem pure {α : Type} (a : α) : Keeps (BlockRel s vas) (pure a : Act α) := keeps_pure refl a

theorem pop : Keeps (BlockRel s vas) pop := fun u h => by
  by_cases h0 : u.sp = 0
  · rw [pop_empty h0]; exact h
  · rw [pop_ok h0]; exact h.registers _ _ _ _

theorem push (w : Word) : Keeps (BlockRel s vas) (push w) := fun u h => by
  by_cases hl : u.sp < u.stack.length
  · rw [push_ok w hl]; exact h.registers _ _ _ _
  · rw [push_full w hl]; exact h

theorem popWords (n : Nat) : Keeps (BlockRel s vas) (popWords n) := by
  induction n with
  | zero => exact pure _
  | succ n ih => exact bind pop fun _ => bind ih fun _ => pure _

theorem pushWords (ws : List Word) : Keeps (BlockRel s vas) (pushWords ws) := by
  induction ws with
  | nil => exact pure _
  | cons w ws ih => exact bind (push w) fun _ => ih

theorem suspendOrContinue : Keeps (BlockRel s vas) suspendOrContinue := fun u h => by
  rw [suspendOrContinue_apply]
  split
  · exact h.takeTurn.registers _ _ _ _
  · exact h.takeTurn

theorem fetch (va : Long) : Keeps (BlockRel s vas) (fetch va) := fun u h => by
  rcases fetch_cases u va with ⟨hr, hf⟩ | ⟨-, hf⟩ | ⟨hv, r, hf⟩ <;> rw [hf]
  · exact h.takeTurn.touch hr.accessible
  · exact h.takeTurn
  · exact h.takeTurn.touch ⟨hv, nofun⟩

theorem fetchMds (ptr : Word) : Keeps (BlockRel s vas) (fetchMds ptr) := fun u => fetch (u.lengthenPointer ptr) u

theorem readCode (offset : Word) : Keeps (BlockRel s vas) (readCode offset) := fun u h => by
  by_cases hb : u.codeInBank offset = true
  · rw [readCode_inBank hb]; exact fetch _ u h
  · rw [readCode_crosses (Bool.eq_false_iff.2 hb)]; exact h

theorem store {va : Long} (hva : va ∈ vas) (w : Word) : Keeps (BlockRel s vas) (store va w) := fun u h => by
  rcases store_cases u va w with ⟨hw, hs⟩ | ⟨k, hs⟩ | ⟨ha, r, hs⟩ <;> rw [hs]
  · exact h.takeTurn.storeWord hva hw.1 w
  · exact h.takeTurn
  · exact h.takeTurn.touch ha

theorem storeMds {ptr : Word} (hp : s.lengthenPointer ptr ∈ vas) (w : Word) : Keeps (BlockRel s vas) (storeMds ptr w) := fun u h => by
  rw [storeMds_eq, h.lengthenPointer]
  exact store hp w u h

end BlockRel

/-! The loop, from operands whose remaining units store to given words only. -/

namespace BlockRoutine
variable {α : Type} {r : BlockRoutine α} {s : State} {vas : List Long} {covers : List Word → Prop}

/-- A unit with operands that satisfy `covers` stores to `vas` only, and leaves such operands. -/
structure Within (r : BlockRoutine α) (s : State) (vas : List Long) (covers : List Word → Prop) : Prop where
  work : ∀ ws, r.count ws ≠ 0 → covers ws → Keeps (BlockRel s vas) (r.work ws)
  next : ∀ ws x, r.count ws ≠ 0 → r.more x = true → covers ws → covers (r.next ws x)

/-- The units of a transfer store to the words of `path` one after the other. -/
structure StoresAlong (r : BlockRoutine α) (s : State) (path : List Word → Nat → Long) : Prop where
  work : ∀ ws vas, path ws 0 ∈ vas → Keeps (BlockRel s vas) (r.work ws)
  next : ∀ ws x j, r.more x = true → path (r.next ws x) j = path ws (j + 1)

theorem StoresAlong.within {path : List Word → Nat → Long} (h : r.StoresAlong s path) (vas : List Long) :
    r.Within s vas fun ws => ∀ j < (r.count ws).toNat, path ws j ∈ vas where
  work ws hc hcov := h.work ws vas (hcov 0 (by bv_omega))
  next ws x hc hx hcov j hj := by
    rw [h.next ws x j hx]
    rw [r.count_next ws x hx] at hj
    exact hcov (j + 1) (by bv_omega)

namespace Within
variable (h : r.Within s vas covers)
include h

theorem iteration {u : State} (hu : s.BlockStores vas u) (hc : covers (u.topWords r.size)) :
    s.BlockStores vas (endState (r.iteration u)) := by
  by_cases hsp : r.size ≤ u.sp
  · have hrest : Keeps (BlockRel s vas) (if r.count (u.topWords r.size) = 0 then do
          pushWords (r.final (u.topWords r.size))
          return false
        else do
          let x ← r.work (u.topWords r.size)
          pushWords (r.next (u.topWords r.size) x)
          if r.more x then suspendOrContinue else return false : Act Bool) := by
      split
      · exact .bind (.pushWords _) fun _ => .pure _
      · next hn =>
        exact .bind (h.work _ hn hc) fun _ => .bind (.pushWords _) fun _ => keeps_ite .suspendOrContinue (.pure _)
    rw [BlockRoutine.iteration, bind_ok (popWords_ok hsp)]
    exact hrest _ (hu.registers _ _ _ _)
  · have hpop := BlockRel.popWords r.size u hu
    obtain ⟨w, hw⟩ := popWords_removes r.size u (Nat.lt_of_not_le hsp)
    rw [hw] at hpop
    rwa [BlockRoutine.iteration, bind_error hw]

theorem loop (fuel : Nat) {u : State} (hu : s.BlockStores vas u) (hc : covers (u.topWords r.size)) :
    s.BlockStores vas (endState (loop r.iteration fuel u)) := by
  induction fuel generalizing u with
  | zero => exact hu
  | succ fuel ih =>
    have hstep := h.iteration hu hc
    rw [Machine.loop, act_bind]
    cases hr : r.iteration u with
    | error e v => rwa [hr] at hstep
    | ok more v =>
      rw [hr] at hstep
      cases more with
      | false => exact hstep
      | true =>
        obtain ⟨x, hn, hx, htop⟩ := r.iteration_cases hr
        exact ih hstep (htop ▸ h.next _ x hn hx hc)

/-- What the instruction leaves, if the operands on the stack satisfy `covers`. -/
theorem frame {i : Instr} (hi : ∀ u, exec i u = complete (blockLoop r.iteration) u) (hs : s.onlyWakeups)
    (hc : r.size ≤ s.sp → covers (s.topWords r.size)) {t : State} (ht : exec i s = .next t) : s.BlockStores vas t := by
  rw [hi] at ht
  have hsp := le_sp_of_removes (.ofIteration ((popWords_removes r.size).bind _)) ht
  have hloop := h.loop blockFuel (.refl hs vas) (hc hsp)
  have hend : s.BlockStores vas (endState (blockLoop r.iteration s)) := by
    rw [blockLoop, act_bind]
    cases hl : Machine.loop r.iteration blockFuel s <;> rwa [hl] at hloop
  rcases complete_cases ht with hm | ⟨e, u, hm, rfl⟩
  · rwa [hm] at hend
  · rw [hm] at hend
    exact hend.takeException e

end Within

end BlockRoutine

end Sys2Proof.Machine
end

section
/-! The block instructions change no byte outside their destination (46_block.md R531 to R552). -/

namespace Sys2Proof.Machine

theorem add_one_add_ofNat {n : Nat} (a : BitVec n) (j : Nat) : a + 1 + BitVec.ofNat n j = a + BitVec.ofNat n (j + 1) := by
  rw [Nat.add_comm, BitVec.ofNat_add, BitVec.add_assoc]; rfl

theorem sub_one_sub_ofNat {n : Nat} (a : BitVec n) (j : Nat) : a - 1 - BitVec.ofNat n j = a - BitVec.ofNat n (j + 1) := by
  rw [Nat.add_comm, BitVec.ofNat_add, BitVec.sub_sub]; rfl

/-! The word that each unit of a transfer stores to. -/

section Paths
variable (s : State)

theorem bltRoutine_storesAlong :
    bltRoutine.StoresAlong s fun ws j => s.lengthenPointer (recordWord ws 2 + BitVec.ofNat 16 j) where
  work ws vas h := .bind (.fetchMds _) fun w => .storeMds (by simpa using h) w
  next ws x j _ := congrArg s.lengthenPointer (add_one_add_ofNat (recordWord ws 2) j)

theorem bltcRoutine_storesAlong :
    bltcRoutine.StoresAlong s fun ws j => s.lengthenPointer (recordWord ws 2 + BitVec.ofNat 16 j) where
  work ws vas h := .bind (.readCode _) fun w => .storeMds (by simpa using h) w
  next ws x j _ := congrArg s.lengthenPointer (add_one_add_ofNat (recordWord ws 2) j)

theorem bltlRoutine_storesAlong : bltlRoutine.StoresAlong s fun ws j => recordLong ws 3 + BitVec.ofNat 32 j where
  work ws vas h := .bind (.fetch _) fun w => .store (by simpa using h) w
  next ws x j _ := by simpa [bltlRoutine] using add_one_add_ofNat (recordLong ws 3) j

theorem bltclRoutine_storesAlong : bltclRoutine.StoresAlong s fun ws j => recordLong ws 2 + BitVec.ofNat 32 j where
  work ws vas h := .bind (.readCode _) fun w => .store (by simpa using h) w
  next ws x j _ := by simpa [bltclRoutine] using add_one_add_ofNat (recordLong ws 2) j

theorem bltlrRoutine_storesAlong :
    bltlrRoutine.StoresAlong s fun ws j => recordLong ws 3 + bltlrIndex s.cfg (recordWord ws 2 - BitVec.ofNat 16 j) where
  work ws vas h u hu := by
    have hva : recordLong ws 3 + bltlrIndex u.cfg (recordWord ws 2) ∈ vas := by simpa [hu.cfg] using h
    exact BlockRel.bind (.fetch _) (fun w => .store hva w) u hu
  next ws x j _ := by
    rw [← sub_one_sub_ofNat]
    simp [bltlrRoutine]

theorem byteRoutine_storesAlong {advance : BytePosition → BytePosition}
    (ha : ∀ p, normaliseByte (advance (normaliseByte p)) = advance (normaliseByte p)) :
    (byteRoutine advance).StoresAlong s fun ws j => (advance^[j] (byteDest ws)).address where
  work ws vas h := .bind (.bind (.fetch _) fun _ => .pure _) fun b => .bind (.fetch _) fun _ => .store h _
  next ws x j _ := by
    have hdest : byteDest ((byteRoutine advance).next ws x) = advance (byteDest ws) :=
      (byteDest_byteOperands _ _ _).trans (ha _)
    simp only [hdest, Function.iterate_succ_apply]

theorem cksumRoutine_within : cksumRoutine.Within s [] fun _ => True where
  work _ _ _ := .fetch _
  next _ _ _ _ _ := trivial

theorem blelRoutine_within : blelRoutine.Within s [] fun _ => True where
  work _ _ _ := .bind (.fetch _) fun _ => .bind (.fetch _) fun _ => .pure _
  next _ _ _ _ _ := trivial

theorem bleclRoutine_within : bleclRoutine.Within s [] fun _ => True where
  work _ _ _ := .bind (.fetch _) fun _ => .bind (.readCode _) fun _ => .pure _
  next _ _ _ _ _ := trivial

end Paths

/-- The operands counted from the bottom and from the top. -/
theorem recordWord_topWords {s : State} {n i k : Nat} (hn : n ≤ s.sp) (hi : i + k + 1 = n) :
    recordWord (s.topWords n) i = s.stack.getD (s.sp - 1 - k) 0 := by
  rw [recordWord, State.topWords, List.getD_eq_getElem?_getD, List.getElem?_map, List.getElem?_range (by omega)]
  simp only [Option.map_some, Option.getD_some, show s.sp - n + i = s.sp - 1 - k by omega]

/-- A transfer to the words at `vas` leaves all other bytes, if its operands say that these are the words of its path. -/
theorem BlockRoutine.StoresAlong.frame {α : Type} {r : BlockRoutine α} {s t : State} {path : List Word → Nat → Long} {vas : List Long}
    {i : Instr} (h : r.StoresAlong s path) (hi : ∀ u, exec i u = complete (blockLoop r.iteration) u) (hs : s.onlyWakeups)
    (hvas : r.size ≤ s.sp → vas = (List.range (r.count (s.topWords r.size)).toNat).map (path (s.topWords r.size)))
    (ht : exec i s = .next t) : s.BlockStores vas t :=
  (h.within vas).frame hi hs (fun hsp j hj => hvas hsp ▸ List.mem_map.2 ⟨j, List.mem_range.2 hj, rfl⟩) ht

/-- Settles O50: each transfer by the path of its destination; the checksum and the compares store nothing. -/
theorem blockFrame : Obligations.BlockFrame := by
  intro s t hs top long p hp ht
  suffices h : s.BlockStores p.2 t from ⟨h.stores.frame, h.stores.bytes⟩
  have word {n i k : Nat} (hn : n ≤ s.sp) (hi : i + k + 1 = n) : recordWord (s.topWords n) i = top k := recordWord_topWords hn hi
  have double {n i k : Nat} (hn : n ≤ s.sp) (hi : i + k + 2 = n) : recordLong (s.topWords n) i = long k :=
    congrArg₂ Long.ofHalves (word hn (by omega)) (word hn (by omega))
  have bytes (advance : BytePosition → BytePosition) (hn : 7 ≤ s.sp) :
      (bytePath advance (normaliseByte ⟨long 5, top 4⟩) (top 3).toNat).map BytePosition.address =
        (List.range (recordWord (s.topWords 7) 3).toNat).map fun j => (advance^[j] (byteDest (s.topWords 7))).address := by
    rw [bytePath_eq, List.map_map, ← double (i := 0) (k := 5) hn rfl, ← word (i := 2) (k := 4) hn rfl,
      ← word (i := 3) (k := 3) hn rfl]
    rfl
  simp only [List.mem_cons, List.not_mem_nil, or_false] at hp
  rcases hp with rfl | rfl | rfl | rfl | rfl | rfl | rfl | rfl | rfl | rfl
  · refine (bltRoutine_storesAlong s).frame exec_blt hs (fun hn => ?_) ht
    rw [← word (i := 2) (k := 0) hn rfl, ← word (i := 1) (k := 1) hn rfl]; rfl
  · refine (bltcRoutine_storesAlong s).frame exec_bltc hs (fun hn => ?_) ht
    rw [← word (i := 2) (k := 0) hn rfl, ← word (i := 1) (k := 1) hn rfl]; rfl
  · refine (bltlRoutine_storesAlong s).frame exec_bltl hs (fun hn => ?_) ht
    rw [← double (i := 3) (k := 0) hn rfl, ← word (i := 2) (k := 2) hn rfl]; rfl
  · refine (bltclRoutine_storesAlong s).frame exec_bltcl hs (fun hn => ?_) ht
    rw [← double (i := 2) (k := 0) hn rfl, ← word (i := 1) (k := 2) hn rfl]; rfl
  · refine (bltlrRoutine_storesAlong s).frame exec_bltlr hs (fun hn => ?_) ht
    rw [← double (i := 3) (k := 0) hn rfl, ← word (i := 2) (k := 2) hn rfl]; rfl
  · exact (cksumRoutine_within s).frame exec_cksum hs (fun _ => trivial) ht
  · exact (blelRoutine_within s).frame exec_blel hs (fun _ => trivial) ht
  · exact (bleclRoutine_within s).frame exec_blecl hs (fun _ => trivial) ht
  · exact (byteRoutine_storesAlong s normaliseByte_nextByte).frame exec_bytblt hs (bytes nextByte) ht
  · exact (byteRoutine_storesAlong s normaliseByte_previousByte).frame exec_bytbltr hs (bytes previousByte) ht

end Sys2Proof.Machine
end

section
/-! SUPPORT. BITBLT's lines, bit by bit (47_bitblt_txtblt.md R573, R583, R585, R587): what a bit and a line that can be moved do, with a
turn of the devices before each word access. -/

namespace Sys2Proof.Machine

/-! Accesses with the memory of another state: they depend on the parameters, the code base and memory only. -/

/-- `s` with the map, the memory and the model's records of memory of `u`. -/
def State.withMemory (s u : State) : State :=
  { s with map := u.map, mem := u.mem, codeWrites := u.codeWrites, freeIndex := u.freeIndex }

section WithMemory
variable {s u : State} (hc : u.cfg = s.cfg)
include hc

theorem State.wordAt_withMemory (va : Long) : (s.withMemory u).wordAt va = u.wordAt va :=
  State.wordAt_congr (t := s.withMemory u) hc.symm rfl rfl va

theorem State.writeMap_withMemory (vp : Nat) (g : Word) (r : Long) :
    (s.withMemory u).writeMap vp g r = s.withMemory (u.writeMap vp g r) := by
  by_cases h : s.cfg.virtualPage vp = true <;> simp [State.writeMap, State.withMemory, h, hc]

theorem State.touch_withMemory (va : Long) (a : Access) : (s.withMemory u).touch va a = s.withMemory (u.touch va a) := by
  have hcfg : (s.withMemory u).cfg = u.cfg := hc.symm
  have hfree : (s.withMemory u).freeIndex = u.freeIndex := rfl
  have hentry : (s.withMemory u).entryOf va = u.entryOf va :=
    State.entryOf_congr (t := s.withMemory u) hc.symm rfl va
  simp only [State.touch, hcfg, hfree, hentry, State.writeMap_withMemory hc]
  by_cases hr : u.cfg.residentPage (virtualPageOf va) = true
  · by_cases hf : residentFlags (u.entryOf va).flags a (Config.freeWord u.freeIndex) = (u.entryOf va).flags
    · simp only [hr, if_true, hf]; rfl
    · simp only [hr, if_true, hf, if_false]; rfl
  · simp only [hr, Bool.false_eq_true, if_false]

variable (hb : u.cb = s.cb)
include hb

theorem State.storeWord_withMemory (va : Long) (w : Word) : (s.withMemory u).storeWord va w = s.withMemory (u.storeWord va w) := by
  have hra : (s.withMemory u).realAddress va = u.realAddress va :=
    State.realAddress_congr (t := s.withMemory u) hc.symm rfl va
  have hcode : (s.withMemory (u.touch va .write)).mayHoldCode va = (u.touch va .write).mayHoldCode va := by
    simp [State.mayHoldCode, State.withMemory, hb]
  rw [State.storeWord, State.touch_withMemory hc, hra, State.putWord, hcode]
  rfl

theorem State.moveBit_withMemory (b : BitBltState) (k : Nat) : (s.withMemory u).moveBit b k = s.withMemory (u.moveBit b k) := by
  have hc' (va : Long) (a : Access) : (u.touch va a).cfg = s.cfg := (u.touch_cfg va a).trans hc
  simp only [State.moveBit, State.bitAt, State.wordAt_withMemory hc]
  rw [State.touch_withMemory hc, State.touch_withMemory (by simpa using hc), State.touch_withMemory (by simpa using hc),
    State.storeWord_withMemory (by simpa using hc) (by simpa using hb)]

end WithMemory

theorem State.MemoryOnly.moveBit (s : State) (b : BitBltState) (k : Nat) : s.MemoryOnly (s.moveBit b k) :=
  (((touch s _ .read).trans (touch _ _ .read)).trans (touch _ _ .read)).trans (storeWord _ _ _)

/-- The state after the first `n` bits of a line are moved. -/
def State.moveBits (s : State) (b : BitBltState) (n : Nat) : State := (List.range n).foldl (fun t k => t.moveBit b k) s

theorem State.moveLine_eq_moveBits (s : State) (b : BitBltState) : s.moveLine b = s.moveBits b b.arg.width.toNat := rfl

theorem State.moveBits_succ (s : State) (b : BitBltState) (n : Nat) : s.moveBits b (n + 1) = (s.moveBits b n).moveBit b n := by
  simp [State.moveBits, List.range_succ]

theorem State.moveLines_succ (s : State) (b : BitBltState) (n : Nat) :
    s.moveLines b (n + 1) = (s.moveLines b n).moveLine (skipLines n b) := by
  simp [State.moveLines, List.range_succ]

theorem State.MemoryOnly.moveBits (s : State) (b : BitBltState) (n : Nat) : s.MemoryOnly (s.moveBits b n) := by
  induction n with
  | zero => exact refl s
  | succ n ih => rw [State.moveBits_succ]; exact ih.trans (moveBit _ b n)

theorem State.MemoryOnly.moveLines (s : State) (b : BitBltState) (n : Nat) : s.MemoryOnly (s.moveLines b n) := by
  induction n with
  | zero => exact refl s
  | succ n ih => rw [State.moveLines_succ]; exact ih.trans (moveBits _ _ _)

theorem State.MemoryOnly.cfg {s t : State} (h : s.MemoryOnly t) : t.cfg = s.cfg := by rw [h]

theorem State.MemoryOnly.cb {s t : State} (h : s.MemoryOnly t) : t.cb = s.cb := by rw [h]

section WithMemory
variable {s u : State} (hc : u.cfg = s.cfg)
include hc

theorem State.reads_withMemory (vas : List Long) : (s.withMemory u).reads vas = s.withMemory (u.reads vas) := by
  induction vas generalizing u with
  | nil => rfl
  | cons va vas ih =>
    rw [State.reads_cons, State.touch_withMemory hc]
    exact ih (by simpa using hc)

variable (hb : u.cb = s.cb) (b : BitBltState) (n : Nat)
include hb

theorem State.moveBits_withMemory : (s.withMemory u).moveBits b n = s.withMemory (u.moveBits b n) := by
  induction n with
  | zero => rfl
  | succ n ih =>
    have hm := State.MemoryOnly.moveBits u b n
    rw [State.moveBits_succ, ih, State.moveBit_withMemory (hm.cfg.trans hc) (hm.cb.trans hb), State.moveBits_succ]

theorem State.moveLines_withMemory : (s.withMemory u).moveLines b n = s.withMemory (u.moveLines b n) := by
  induction n with
  | zero => rfl
  | succ n ih =>
    have hm := State.MemoryOnly.moveLines u b n
    rw [State.moveLines_succ, ih, State.moveLine_eq_moveBits, State.moveBits_withMemory (hm.cfg.trans hc) (hm.cb.trans hb),
      State.moveLines_succ, State.moveLine_eq_moveBits]

end WithMemory

/-! Turns of the devices before the accesses come to the same after them. -/

section Turns
variable {s : State} (h : s.onlyWakeups) (n : Nat)
include h

theorem State.onlyWakeups.takeTurns_withMemory {t : State} (hm : s.MemoryOnly t) : (s.takeTurns n).withMemory t = t.takeTurns n := by
  rw [hm.takeTurns_eq h, h.takeTurns_eq n, hm]
  rfl

theorem State.onlyWakeups.takeTurns_cfg : (s.takeTurns n).cfg = s.cfg := by rw [h.takeTurns_eq]; rfl

theorem State.onlyWakeups.takeTurns_cb : (s.takeTurns n).cb = s.cb := by rw [h.takeTurns_eq]; rfl

theorem State.onlyWakeups.readable_takeTurns {va : Long} : (s.takeTurns n).readable va ↔ s.readable va := by
  rw [h.takeTurns_eq]; exact Iff.rfl

theorem State.onlyWakeups.storable_takeTurns {va : Long} : (s.takeTurns n).storable va ↔ s.storable va := by
  rw [h.takeTurns_eq]; exact Iff.rfl

theorem State.onlyWakeups.wordAt_takeTurns (va : Long) : (s.takeTurns n).wordAt va = s.wordAt va := by
  rw [h.takeTurns_eq]; rfl

theorem State.onlyWakeups.touch_takeTurns (va : Long) (a : Access) : (s.takeTurns n).touch va a = (s.touch va a).takeTurns n := by
  rw [← h.takeTurns_withMemory n (.touch s va a), ← State.touch_withMemory (h.takeTurns_cfg n).symm,
    h.takeTurns_withMemory n (.refl s)]

theorem State.onlyWakeups.storeWord_takeTurns (va : Long) (w : Word) :
    (s.takeTurns n).storeWord va w = (s.storeWord va w).takeTurns n := by
  rw [← h.takeTurns_withMemory n (.storeWord s va w),
    ← State.storeWord_withMemory (h.takeTurns_cfg n).symm (h.takeTurns_cb n).symm, h.takeTurns_withMemory n (.refl s)]

theorem fetch_turned {va : Long} (hr : s.readable va) :
    fetch va (s.takeTurns n) = .ok (s.wordAt va) ((s.touch va .read).takeTurns (n + 1)) := by
  rw [fetch_woken (h.takeTurns n) ((h.readable_takeTurns n).2 hr), h.wordAt_takeTurns, h.touch_takeTurns, State.takeTurns_succ]

theorem store_turned {va : Long} (w : Word) (hs : s.storable va) :
    store va w (s.takeTurns n) = .ok () ((s.storeWord va w).takeTurns (n + 1)) := by
  rw [store_woken (h.takeTurns n) w ((h.storable_takeTurns n).2 hs), h.storeWord_takeTurns, State.takeTurns_succ]

end Turns

/-! The bits of a line. -/

/-- The `k`th bit of a line can be read where it comes from and written where it goes. -/
def State.movableBit (s : State) (b : BitBltState) (k : Nat) : Prop :=
  s.storable (bitBltTarget b k).word ∧ s.readable (bitBltOrigin b k).word

theorem State.samePages_moveBit {s : State} {b : BitBltState} {k : Nat} (h : s.movableBit b k) : s.SamePages (s.moveBit b k) := by
  obtain ⟨hd, hv⟩ := h
  have hv1 := (State.readable_touch hd.readable.accessible (bitBltOrigin b k).word).2 hv
  have hd1 := (State.storable_touch hd.readable.accessible (bitBltTarget b k).word).2 hd
  have hd2 := (State.storable_touch hv1.accessible (bitBltTarget b k).word).2 hd1
  have hd3 := (State.storable_touch hd2.readable.accessible (bitBltTarget b k).word).2 hd2
  exact (State.SamePages.touch hd.readable.accessible).trans <| (State.SamePages.touch hv1.accessible).trans <|
    (State.SamePages.touch hd2.readable.accessible).trans (.storeWord hd3.1 _)

theorem State.MemoryOnly.movableBit {s t : State} (h : s.MemoryOnly t) (hp : s.SamePages t) {b : BitBltState} {k : Nat} :
    t.movableBit b k ↔ s.movableBit b k := by
  rw [State.movableBit, State.movableBit, h.storable hp, h.readable hp]

theorem State.samePages_moveBits {s : State} {b : BitBltState} {n : Nat} (h : ∀ k < n, s.movableBit b k) :
    s.SamePages (s.moveBits b n) := by
  induction n with
  | zero => exact .refl s
  | succ n ih =>
    have hp := ih fun k hk => h k (Nat.lt_succ_of_lt hk)
    rw [State.moveBits_succ]
    exact hp.trans (State.samePages_moveBit (((State.MemoryOnly.moveBits s b n).movableBit hp).2 (h n (Nat.lt_succ_self n))))

/-! The lines: what does not change from one to the next, and which one comes when. -/

section Lines
variable (b : BitBltState) (n : Nat)

theorem skipLines_succ : skipLines (n + 1) b = nextLine (skipLines n b) := by
  induction n generalizing b with
  | zero => rfl
  | succ n ih => exact ih (nextLine b)

/-- A property of the state that every line keeps. -/
theorem skipLines_keeps {α : Type} {f : BitBltState → α} (hf : ∀ c, f (nextLine c) = f c) : f (skipLines n b) = f b := by
  induction n generalizing b with
  | zero => rfl
  | succ n ih => exact (ih (nextLine b)).trans (hf b)

@[simp] theorem skipLines_width : (skipLines n b).arg.width = b.arg.width :=
  skipLines_keeps b n (f := fun c => c.arg.width) fun _ => rfl

@[simp] theorem skipLines_height : (skipLines n b).arg.height = b.arg.height :=
  skipLines_keeps b n (f := fun c => c.arg.height) fun _ => rfl

@[simp] theorem skipLines_yDirection : (skipLines n b).yDirection = b.yDirection :=
  skipLines_keeps b n (f := BitBltState.yDirection) fun _ => rfl

theorem skipLines_line : (skipLines n b).line = match b.yDirection with
    | .forward => b.line + BitVec.ofNat 16 n
    | .backward => b.line - BitVec.ofNat 16 n := by
  induction n with
  | zero => cases b.yDirection <;> simp [skipLines]
  | succ n ih =>
    rw [skipLines_succ, nextLine, skipLines_yDirection, ih]
    cases b.yDirection with
    | forward => exact (add_ofNat_succ b.line n).symm
    | backward => exact (sub_ofNat_succ b.line n).symm

/-- The lines still to be done are those before the loop's test fails (R583). -/
theorem skipLines_lt_height {j : Nat} (hj : j < b.linesLeft) : (skipLines j b).line < b.arg.height := by
  rw [skipLines_line]
  unfold BitBltState.linesLeft at hj
  cases hy : b.yDirection with
  | forward => simp only [hy] at hj ⊢; bv_omega
  | backward =>
    simp only [hy] at hj ⊢
    split at hj
    · bv_omega
    · omega

theorem skipLines_linesLeft : ¬ (skipLines b.linesLeft b).line < b.arg.height := by
  rw [skipLines_line]
  unfold BitBltState.linesLeft
  cases hy : b.yDirection with
  | forward => simp only; bv_omega
  | backward =>
    simp only
    split
    · bv_omega
    · bv_omega

theorem linesLeft_le_height : b.linesLeft ≤ b.arg.height.toNat := by
  unfold BitBltState.linesLeft
  cases hy : b.yDirection with
  | forward => simp only; omega
  | backward => simp only; split <;> omega

end Lines

theorem State.movable_succ {s : State} {b : BitBltState} {n : Nat} :
    s.movable b (n + 1) ↔ s.movable b n ∧ ∀ k < (skipLines n b).arg.width.toNat, s.movableBit (skipLines n b) k := by
  rw [State.movable, Nat.forall_lt_succ_right, skipLines_width]
  rfl

theorem State.samePages_moveLines {s : State} {b : BitBltState} {n : Nat} (h : s.movable b n) : s.SamePages (s.moveLines b n) := by
  induction n with
  | zero => exact .refl s
  | succ n ih =>
    obtain ⟨hn, hline⟩ := State.movable_succ.1 h
    have hp := ih hn
    have hm := State.MemoryOnly.moveLines s b n
    rw [State.moveLines_succ]
    exact hp.trans (State.samePages_moveBits fun k hk => (hm.movableBit hp).2 (hline k hk))

theorem bitBltOffset_zero (b : BitBltState) : bitBltOffset b 0 = match b.xDirection with
    | .forward => 0
    | .backward => b.arg.width - 1 := by
  unfold bitBltOffset
  cases b.xDirection <;> simp

theorem bitBltOffset_succ (b : BitBltState) (k : Nat) : bitBltOffset b (k + 1) = match b.xDirection with
    | .forward => bitBltOffset b k + 1
    | .backward => bitBltOffset b k - 1 := by
  unfold bitBltOffset
  cases b.xDirection with
  | forward => exact BitVec.ofNat_add k 1
  | backward => exact sub_ofNat_succ _ k

section Bits
variable {s : State} (hs : s.onlyWakeups) (n : Nat)
include hs

theorem readBit_turned {a x : BitAddress} {offset : Word} (he : bump a (lengthenSigned offset) = x) (h : s.readable x.word) :
    readBit a offset (s.takeTurns n) = .ok (s.bitAt x) ((s.touch x.word .read).takeTurns (n + 1)) := by
  subst he
  exact bind_ok (fetch_turned hs n h)

theorem writeBit_turned {a x : BitAddress} {offset : Word} (he : bump a (lengthenSigned offset) = x) (h : s.storable x.word) (v : Bool) :
    writeBit a offset v (s.takeTurns n) =
      .ok () (((s.touch x.word .read).storeWord x.word (setBit (s.wordAt x.word) x.bit v)).takeTurns (n + 2)) := by
  subst he
  have ha := h.readable.accessible
  exact (bind_ok (fetch_turned hs n h.readable)).trans
    (store_turned (hs.touch _ _) (n + 1) _ ((State.storable_touch ha _).2 h))

theorem bitBltBit_turned {b : BitBltState} {k : Nat} (h : s.movableBit b k) :
    bitBltBit b (bitBltOffset b k) (s.takeTurns n) = .ok () ((s.moveBit b k).takeTurns (n + 4)) := by
  obtain ⟨hd, hv⟩ := h
  have hv1 := (State.readable_touch hd.readable.accessible (bitBltOrigin b k).word).2 hv
  have hd1 := (State.storable_touch hd.readable.accessible (bitBltTarget b k).word).2 hd
  have hd2 := (State.storable_touch hv1.accessible (bitBltTarget b k).word).2 hd1
  have hread := readBit_turned hs n (a := b.arg.dst) (x := bitBltTarget b k) rfl hd.readable
  have hread' := readBit_turned (hs.touch _ _) (n + 1) (a := b.arg.src) (x := bitBltOrigin b k) rfl hv1
  have hwrite := writeBit_turned ((hs.touch _ _).touch _ _) (n + 1 + 1) (a := b.arg.dst) (x := bitBltTarget b k) rfl hd2
    (bitFunction b.arg.flags (s.bitAt (bitBltTarget b k)) (s.bitAt (bitBltOrigin b k)))
  rw [State.wordAt_touch hv1.accessible, State.wordAt_touch hd.readable.accessible] at hwrite
  rw [State.bitAt_touch hd.readable.accessible] at hread'
  exact (bind_ok hread).trans <| (bind_ok hread').trans hwrite

/-- The first `k` bits, then the others. -/
theorem bitBltBits_turned {b : BitBltState} {k m : Nat} (h : ∀ j < k, s.movableBit b j) :
    bitBltBits b (k + m) (bitBltOffset b 0) (s.takeTurns n) =
      bitBltBits b m (bitBltOffset b k) ((s.moveBits b k).takeTurns (n + 4 * k)) := by
  induction k generalizing m with
  | zero => rw [Nat.zero_add]; rfl
  | succ k ih =>
    have hk : ∀ j < k, s.movableBit b j := fun j hj => h j (Nat.lt_succ_of_lt hj)
    have hm := State.MemoryOnly.moveBits s b k
    have hw : (s.moveBits b k).onlyWakeups := hs.of_turns (by rw [hm])
    have hbit := bitBltBit_turned hw (n + 4 * k) ((hm.movableBit (State.samePages_moveBits hk)).2 (h k (Nat.lt_succ_self k)))
    rw [Nat.succ_add_eq_add_succ, ih hk, State.moveBits_succ, bitBltOffset_succ]
    exact bind_ok hbit

theorem bitBltLine_turned {b : BitBltState} (h : ∀ k < b.arg.width.toNat, s.movableBit b k) :
    bitBltLine b (s.takeTurns n) = .ok () ((s.moveLine b).takeTurns (n + 4 * b.arg.width.toNat)) := by
  have hbits := bitBltBits_turned hs n (b := b) (m := 0) h
  rw [bitBltOffset_zero] at hbits
  exact hbits

end Bits

end Sys2Proof.Machine
end

section
/-! BITBLT to its end, to its suspension and to a fault (47_bitblt_txtblt.md R583 to R591). -/

namespace Sys2Proof.Machine

/-! The argument record. -/

theorem State.record_succ (s : State) (ptr : Word) (n : Nat) :
    s.record ptr (n + 1) = s.wordAt (s.lengthenPointer ptr) :: s.record (ptr + 1) n := by
  rw [State.record, State.recordAddresses_succ]
  rfl

theorem State.recordAddresses_congr {s t : State} (h : t.mds = s.mds) (ptr : Word) (n : Nat) :
    t.recordAddresses ptr n = s.recordAddresses ptr n := by
  simp only [State.recordAddresses, lengthenPointer_congr h]

theorem fetchRecord_turned {s : State} (hs : s.onlyWakeups) (n : Nat) {ptr : Word} {m : Nat}
    (hr : s.readableAll (s.recordAddresses ptr m)) : fetchRecord ptr m (s.takeTurns n) =
      .ok (s.record ptr m) ((s.reads (s.recordAddresses ptr m)).takeTurns (n + m)) := by
  induction m generalizing s ptr n with
  | zero => rfl
  | succ m ih =>
    rw [State.recordAddresses_succ] at hr
    obtain ⟨hva, hvas⟩ := State.readableAll_cons.1 hr
    have hp : (s.takeTurns n).lengthenPointer ptr = s.lengthenPointer ptr := by rw [hs.takeTurns_eq]; rfl
    have hfirst := fetch_turned hs n hva
    rw [← hp, ← fetchMds_eq, hp] at hfirst
    have haddr := State.recordAddresses_congr (s.touch_mds (s.lengthenPointer ptr) .read) (ptr + 1) m
    have hrest := ih (hs.touch (s.lengthenPointer ptr) .read) (n + 1) (ptr := ptr + 1)
      (by rw [haddr]; exact fun va h => (State.readable_touch hva.accessible va).2 (hvas va h))
    have hrec : (s.touch (s.lengthenPointer ptr) .read).record (ptr + 1) m = s.record (ptr + 1) m := by
      rw [State.record, haddr, State.record]
      exact List.map_congr_left fun va _ => State.wordAt_touch hva.accessible va
    rw [hrec, haddr] at hrest
    rw [fetchRecord, bind_ok hfirst, bind_ok hrest, State.record_succ, State.recordAddresses_succ,
      show n + (m + 1) = n + 1 + m by omega]
    rfl

/-! A line as an item, with the trial that it is made with (R591, D15). -/

/-- From the state `s` the `k`th bit of a line takes the fault `kind` at `va`, its first word that fails. -/
def State.bitFaults (s : State) (b : BitBltState) (k : Nat) (kind : FaultKind) (va : Long) : Prop :=
  let dst := (bitBltTarget b k).word
  let src := (bitBltOrigin b k).word
  (kind = .pageFault ∧ va = dst ∧ (s.entryOf va).isVacant = true) ∨
    (kind = .pageFault ∧ va = src ∧ s.readable dst ∧ (s.entryOf va).isVacant = true) ∨
    (kind = .writeProtectFault ∧ va = dst ∧ s.readable va ∧ s.readable src ∧ (s.entryOf va).isProtected = true)

theorem State.MemoryOnly.bitFaults {s t : State} (h : s.MemoryOnly t) (hp : s.SamePages t) {b : BitBltState} {k : Nat}
    {kind : FaultKind} {va : Long} (hf : s.bitFaults b k kind va) : t.bitFaults b k kind va := by
  have hv (vb : Long) : (t.entryOf vb).isVacant = (s.entryOf vb).isVacant := (hp _).2.1
  have hw (vb : Long) : (t.entryOf vb).isProtected = (s.entryOf vb).isProtected := (hp _).2.2
  simpa only [State.bitFaults, hv, hw, h.readable hp] using hf

theorem bitBltBit_faults {s : State} (hu : s.undisturbed) {b : BitBltState} {k : Nat} {kind : FaultKind} {va : Long}
    (h : s.bitFaults b k kind va) : Raises (.exception (.fault kind va)) (bitBltBit b (bitBltOffset b k) s) := by
  let d := bitBltTarget b k
  let v := bitBltOrigin b k
  have hread (hd : s.readable d.word) : readBit b.arg.dst (bitBltOffset b k) s = .ok (s.bitAt d) (s.touch d.word .read) :=
    readBit_ok hu rfl hd
  rcases h with ⟨rfl, rfl, hv⟩ | ⟨rfl, rfl, hd, hv⟩ | ⟨rfl, rfl, hd, hs, hp⟩
  · exact ⟨s, bind_error (bind_error (fetch_vacant hu hv))⟩
  · have hv' := (State.isVacant_touch hd.accessible v.word).trans hv
    exact ⟨_, (bind_ok (hread hd)).trans (bind_error (bind_error (fetch_vacant (hu.touch _ _) hv')))⟩
  · have hs1 := (State.readable_touch hd.accessible v.word).2 hs
    have hd2 := (State.readable_touch hs1.accessible d.word).2 ((State.readable_touch hd.accessible d.word).2 hd)
    have hu1 := hu.touch d.word .read
    have hu2 := hu1.touch v.word .read
    have hpages := (State.SamePages.touch hd.accessible).trans <| (State.SamePages.touch hs1.accessible).trans (.touch hd2.accessible)
    have hstore (w : Word) := store_protected w (hu2.touch d.word .read) ((hpages _).2.1.trans hd.1.1) ((hpages _).2.2.trans hp)
    exact ⟨_, (bind_ok (hread hd)).trans <| (bind_ok (readBit_ok hu1 rfl hs1)).trans <| (bind_ok (fetch_ok hu2 hd2)).trans (hstore _)⟩

theorem bitBltLine_faults {s : State} (hu : s.undisturbed) {b : BitBltState} {k : Nat} (hk : k < b.arg.width.toNat)
    (hm : ∀ j < k, s.movableBit b j) {kind : FaultKind} {va : Long} (h : s.bitFaults b k kind va) :
    Raises (.exception (.fault kind va)) (bitBltLine b s) := by
  obtain ⟨m, hw⟩ := Nat.exists_eq_add_of_lt hk
  have hbits := bitBltBits_turned (.of_undisturbed hu) 0 (m := m + 1) hm
  have hmem := State.MemoryOnly.moveBits s b k
  have hu' : (s.moveBits b k).undisturbed := by rw [hmem]; exact hu
  rw [State.takeTurns_undisturbed hu, State.takeTurns_undisturbed hu', bitBltOffset_zero, ← Nat.add_assoc, ← hw] at hbits
  obtain ⟨t, ht⟩ := bitBltBit_faults hu' (hmem.bitFaults (State.samePages_moveBits hm) h)
  exact ⟨t, hbits.trans (bind_error ht)⟩

section Item
variable {s : State} {b : BitBltState} {ptr : Word} {record : List Word} {first : Bool}

theorem bitBltItem_moves (hs : s.onlyWakeups) (n : Nat) (h : ∀ k < b.arg.width.toNat, s.movableBit b k) :
    bitBltItem ptr record first b (s.takeTurns n) = .ok () ((s.moveLine b).takeTurns (n + 4 * b.arg.width.toNat)) := by
  have hquiet : { s.takeTurns n with turns := [] }.undisturbed := rfl
  have htrial := bitBltLine_turned (.of_undisturbed hquiet) 0 (b := b) fun k hk => by
    rw [hs.takeTurns_eq]; exact h k hk
  rw [bitBltItem, State.takeTurns_undisturbed hquiet] at *
  rw [htrial]
  exact bitBltLine_turned hs n h

theorem bitBltPushState_ok (h0 : s.sp = 0) (h2 : 2 ≤ s.stack.length) (ptr line : Word) (record : List Word) :
    bitBltPushState ptr line record s =
      .ok () { s.result 0 [ptr, line] [] with suspended := some ⟨s.savedPC, [ptr, line], ptr, record⟩ } := by
  have hptr := push_ok (s := s) ptr (by omega)
  have hline := push_ok (s := { s with stack := s.stack.set s.sp ptr, sp := s.sp + 1 }) line (by simp; omega)
  have htake := take_setWords (st := s.stack) (ws := [ptr, line]) h2
  rw [bitBltPushState, bind_ok hptr, bind_ok hline, noteSuspension_apply]
  simp only [h0]
  exact congrArg (fun ws => EStateM.Result.ok () { s.result 0 [ptr, line] [] with suspended := some ⟨s.savedPC, ws, ptr, record⟩ })
    htake

/-- A line that cannot be moved: the first one of the execution is undone with the instruction. -/
theorem bitBltItem_faults_first {e : Exception} (hu : s.undisturbed) (h : Raises (.exception e) (bitBltLine b s)) :
    bitBltItem ptr record true b s = .error (.exception e) s := by
  have hs : { s with turns := [] } = s := by rw [← hu]
  obtain ⟨t, ht⟩ := h
  simp [bitBltItem, hs, ht]

/-- A later line that cannot be moved is where the restart begins. -/
theorem bitBltItem_faults_later {e : Exception} {v : State} (hu : s.undisturbed) (h : Raises (.exception e) (bitBltLine b s))
    (hpush : bitBltPushState ptr b.line record s = .ok () v) :
    bitBltItem ptr record false b s = .error (.exception e) { v with savedSP := v.sp } := by
  have hs : { s with turns := [] } = s := by rw [← hu]
  obtain ⟨t, ht⟩ := h
  simp [bitBltItem, hs, ht, hpush]

end Item

/-! The lines. -/

theorem pollInterrupt_quiet {s : State} (h : s.quiet) : pollInterrupt s = .ok false s := by
  obtain ⟨hi, hu⟩ := h
  rw [pollInterrupt_apply, hu.turn, hi, Bool.and_false]

section Lines
variable {s : State} {b : BitBltState} {ptr : Word} {record : List Word} {first : Bool}

theorem bitBltItem_quiet (hs : s.quiet) (h : ∀ k < b.arg.width.toNat, s.movableBit b k) :
    bitBltItem ptr record first b s = .ok () (s.moveLine b) := by
  have hm : s.MemoryOnly (s.moveLine b) := .moveBits _ _ _
  have hitem := bitBltItem_moves (ptr := ptr) (record := record) (first := first) (.of_undisturbed hs.2) 0 h
  rwa [State.takeTurns_undisturbed hs.2, State.takeTurns_undisturbed (hm.quiet hs).2] at hitem

/-- The first `n` lines are moved, then the loop goes on. -/
theorem bitBltLines_moves (hs : s.quiet) {n : Nat} (hn : n ≤ b.linesLeft) (h : s.movable b n) (fuel : Nat) :
    bitBltLines ptr record (n + fuel) first b s =
      bitBltLines ptr record fuel (first && decide (n = 0)) (skipLines n b) (s.moveLines b n) := by
  induction n generalizing fuel with
  | zero => rw [Nat.zero_add, decide_eq_true rfl, Bool.and_true]; rfl
  | succ n ih =>
    obtain ⟨hn', hline⟩ := State.movable_succ.1 h
    have hm := State.MemoryOnly.moveLines s b n
    have hmoves := State.MemoryOnly.moveBits (s.moveLines b n) (skipLines n b) (skipLines n b).arg.width.toNat
    have htest : (skipLines n b).line < (skipLines n b).arg.height := by
      rw [skipLines_height]
      exact skipLines_lt_height b (by omega)
    have hitem := bitBltItem_quiet (ptr := ptr) (record := record) (first := first && decide (n = 0)) (hm.quiet hs)
      fun k hk => (hm.movableBit (State.samePages_moveLines hn')).2 (hline k hk)
    have hpoll := pollInterrupt_quiet (hmoves.quiet (hm.quiet hs))
    rw [Nat.succ_add_eq_add_succ, ih (by omega) hn', bitBltLines, if_pos htest, bind_ok hitem]
    rw [decide_eq_false (by omega), Bool.and_false, skipLines_succ, State.moveLines_succ]
    exact bind_ok hpoll

theorem bitBltLines_ends (hs : s.quiet) (hf : b.linesLeft < bitBltFuel) (h : s.movable b b.linesLeft) :
    bitBltLines ptr record bitBltFuel first b s = .ok () (s.moveLines b b.linesLeft) := by
  obtain ⟨fuel, hfuel⟩ := Nat.exists_eq_add_of_lt hf
  rw [hfuel, Nat.add_assoc, bitBltLines_moves hs le_rfl h, bitBltLines, if_neg (by rw [skipLines_height]; exact skipLines_linesLeft b)]
  rfl

/-- With an interrupt pending at the test after a first line, one that is made. -/
theorem bitBltLines_suspends (hs : s.onlyWakeups) (h0 : s.sp = 0) (h2 : 2 ≤ s.stack.length) (n : Nat) (hheight : b.line < b.arg.height)
    (h : ∀ k < b.arg.width.toNat, s.movableBit b k) (ho : (s.takeTurns (n + 4 * b.arg.width.toNat)).testOmitted = false)
    (hp : interruptPending (s.takeTurns (n + 4 * b.arg.width.toNat + 1)) = true) (fuel : Nat) :
    let u := (s.moveLine b).takeTurns (n + 4 * b.arg.width.toNat + 1)
    bitBltLines ptr record (fuel + 1) first b (s.takeTurns n) = .ok () { u.result 0 [ptr, (nextLine b).line] [] with
      pc := u.savedPC, suspended := some ⟨u.savedPC, [ptr, (nextLine b).line], ptr, record⟩ } := by
  intro u
  have hm : s.MemoryOnly (s.moveLine b) := .moveBits _ _ _
  have hu : u.sp = 0 ∧ u.stack = s.stack := by
    rw [show u = (s.moveLine b).takeTurns _ from rfl, hm.takeTurns_eq hs, hm]
    exact ⟨h0, rfl⟩
  have hpoll : pollInterrupt ((s.moveLine b).takeTurns (n + 4 * b.arg.width.toNat)) = .ok true u := by
    rw [pollInterrupt_apply, hs.testOmitted_takeTurns hm, ho, ← State.takeTurns_succ, hs.interruptPending_takeTurns hm, hp]
    rfl
  rw [bitBltLines, if_pos hheight, bind_ok (bitBltItem_moves hs n h), bind_ok hpoll]
  exact (bind_ok (bitBltPushState_ok hu.1 (by rw [hu.2]; exact h2) ptr (nextLine b).line record)).trans rfl

/-- Line `n` is the first that cannot be moved. -/
theorem bitBltLines_faults (hs : s.quiet) (h0 : s.sp = 0) (h2 : 2 ≤ s.stack.length) {n k : Nat} (hn : n < b.linesLeft)
    (hf : n < bitBltFuel) (h : s.movable b n) (hk : k < b.arg.width.toNat) (hbits : ∀ j < k, s.movableBit (skipLines n b) j)
    {kind : FaultKind} {va : Long} (hfault : s.bitFaults (skipLines n b) k kind va) :
    bitBltLines ptr record bitBltFuel true b s = .error (.exception (.fault kind va)) (if n = 0 then s else
      { (s.moveLines b n).result 0 [ptr, (skipLines n b).line] [] with
        savedSP := 2, suspended := some ⟨s.savedPC, [ptr, (skipLines n b).line], ptr, record⟩ }) := by
  obtain ⟨fuel, hfuel⟩ := Nat.exists_eq_add_of_lt hf
  have hm := State.MemoryOnly.moveLines s b n
  have hpages := State.samePages_moveLines h
  have htest : (skipLines n b).line < (skipLines n b).arg.height := by
    rw [skipLines_height]
    exact skipLines_lt_height b hn
  have hline := bitBltLine_faults (hm.quiet hs).2 (b := skipLines n b) (by rw [skipLines_width]; exact hk)
    (fun j hj => (hm.movableBit hpages).2 (hbits j hj)) (hm.bitFaults hpages hfault)
  rw [hfuel, Nat.add_assoc, bitBltLines_moves hs hn.le h, bitBltLines, if_pos htest, Bool.true_and]
  by_cases hz : n = 0
  · subst hz
    exact bind_error (bitBltItem_faults_first (hm.quiet hs).2 hline)
  · have hpush := bitBltPushState_ok (s := s.moveLines b n) (by rw [hm]; exact h0) (by rw [hm]; exact h2) ptr
      (skipLines n b).line record
    have hpc : (s.moveLines b n).savedPC = s.savedPC := by rw [hm]
    rw [decide_eq_false hz, if_neg hz, bind_error (bitBltItem_faults_later (hm.quiet hs).2 hline hpush), hpc]
    rfl

end Lines

/-! From the instruction to its lines. -/

theorem computeDirection_height (c : Config) (b : BitBltState) : (computeDirection c b).arg.height = b.arg.height := by
  simp only [computeDirection, reverseLines]
  split_ifs <;> rfl

theorem State.bitBltOf_height (s : State) (ptr : Word) : (s.bitBltOf ptr).arg.height = (bitBltArg (s.record ptr 12)).height :=
  computeDirection_height _ _

theorem State.bitBltOf_linesLeft (s : State) (ptr : Word) : (s.bitBltOf ptr).linesLeft = (s.bitBltOf ptr).arg.height.toNat := by
  have hline : (s.bitBltOf ptr).line = match (s.bitBltOf ptr).yDirection with
      | .forward => 0
      | .backward => (s.bitBltOf ptr).arg.height - 1 := rfl
  unfold BitBltState.linesLeft
  rw [hline]
  cases (s.bitBltOf ptr).yDirection with
  | forward => simp
  | backward =>
    simp only
    split <;> bv_omega

/-- A legal BITBLT has at most 32767 lines (R575, R589). -/
theorem State.bitBltLegal.height_lt {s : State} {ptr : Word} (h : s.bitBltLegal ptr) :
    (s.bitBltOf ptr).arg.height.toNat < bitBltFuel := by
  obtain ⟨-, herr⟩ := h
  rw [State.bitBltOf_height]
  simp only [bitBltError, bitBltArgError, Bool.or_eq_false_iff, decide_eq_false_iff_not] at herr
  simp only [bitBltFuel]
  omega

theorem bitBltResume_height (b : BitBltState) (line : Word) : (bitBltResume b line).arg.height = b.arg.height := by
  unfold bitBltResume
  split <;> exact skipLines_height _ _

theorem bitBltSetup_ok {u : State} {c : Config} {record : List Word} (hc : u.cfg = c)
    (h : bitBltError (bitBltArg record) = false) :
    bitBltSetup record u = .ok (bitBltStart (computeDirection c (bitBltInitial (bitBltArg record)))) u := by
  simp [bitBltSetup, h, hc]

/-! The state with the operands popped, and with a suspension remembered that need not be the one of before. -/

/-- `s` with `p` words left on the stack and `v` as the remembered suspension. -/
def State.left (s : State) (p : Nat) (v : Option Suspension) : State := { s with sp := p, suspended := v }

/-- `s` with nothing on the stack and `v` as the remembered suspension. -/
def State.popped (s : State) (v : Option Suspension) : State := s.left 0 v

section Popped
variable {s t : State} {v : Option Suspension}

theorem State.MemoryOnly.withMemory_popped (h : s.MemoryOnly t) : (s.popped v).withMemory t = t.popped v :=
  (congrArg (State.popped · v) h).symm

theorem State.reads_popped (s : State) (v : Option Suspension) (vas : List Long) : (s.popped v).reads vas = (s.reads vas).popped v :=
  (State.reads_withMemory (s := s.popped v) (u := s) rfl vas).trans (State.MemoryOnly.reads s vas).withMemory_popped

theorem State.moveLines_popped (s : State) (v : Option Suspension) (b : BitBltState) (n : Nat) :
    (s.popped v).moveLines b n = (s.moveLines b n).popped v :=
  (State.moveLines_withMemory (s := s.popped v) (u := s) rfl rfl b n).trans (State.MemoryOnly.moveLines s b n).withMemory_popped

theorem State.popped_same (h : t.suspended = v) : t.popped v = { t with sp := 0 } := by subst h; rfl

theorem State.movable_popped {b : BitBltState} {n : Nat} : (s.popped v).movable b n ↔ s.movable b n := Iff.rfl

theorem State.movableBit_popped {b : BitBltState} {k : Nat} : (s.popped v).movableBit b k ↔ s.movableBit b k := Iff.rfl

theorem State.bitFaults_popped {b : BitBltState} {k : Nat} {kind : FaultKind} {va : Long} :
    (s.popped v).bitFaults b k kind va ↔ s.bitFaults b k kind va := Iff.rfl

theorem State.quiet.popped (h : s.quiet) (v : Option Suspension) : (s.popped v).quiet := h

section Turns
variable (hs : s.onlyWakeups)
include hs

theorem State.onlyWakeups.left (p : Nat) (v : Option Suspension) : (s.left p v).onlyWakeups := hs

theorem State.takeTurns_left (p : Nat) (v : Option Suspension) (n : Nat) : (s.left p v).takeTurns n = (s.takeTurns n).left p v := by
  obtain ⟨hw, hd⟩ := hs.takeTurns_congr (t := s.left p v) rfl rfl n
  rw [(hs.left p v).takeTurns_eq, hs.takeTurns_eq, hw, hd]
  rfl

theorem State.takeTurns_popped (v : Option Suspension) (n : Nat) : (s.popped v).takeTurns n = (s.takeTurns n).popped v :=
  State.takeTurns_left hs 0 v n

end Turns

end Popped

section Entry
variable {s : State} {ptr line : Word} (hs : s.onlyWakeups) (hr : s.readableAll (s.recordAddresses ptr 12)) (hl : s.bitBltLegal ptr)
include hs hr hl

/-- The record read, with the operands popped. -/
theorem bitBltRecord_turned : bitBltRecord ptr (s.popped s.suspended) =
    .ok (s.record ptr 12) (((s.reads (s.recordAddresses ptr 12)).takeTurns 12).popped s.suspended) := by
  have hrec := fetchRecord_turned (s := s.popped s.suspended) hs 0 hr
  have hw : (s.reads (s.recordAddresses ptr 12)).onlyWakeups := hs.of_turns (by simp)
  rw [bitBltRecord, if_neg (not_not.2 hl.1), ← State.takeTurns_popped hw, ← State.reads_popped]
  exact hrec

theorem exec_bitblt_lines (h : s.holds 0 [ptr]) : exec .bitblt s =
    complete (bitBltLines ptr (s.record ptr 12) bitBltFuel true (s.bitBltOf ptr))
      (((s.reads (s.recordAddresses ptr 12)).takeTurns 12).popped s.suspended) := by
  have hw : (s.reads (s.recordAddresses ptr 12)).onlyWakeups := hs.of_turns (by simp)
  have hcfg := (hw.takeTurns_cfg 12).trans (State.reads_cfg s _)
  have hrec := bitBltRecord_turned hs hr hl
  rw [exec_bitblt_first h]
  generalize (s.reads (s.recordAddresses ptr 12)).takeTurns 12 = u at *
  exact complete_congr <| (bind_ok hrec).trans <| (bind_ok (bitBltSetup_ok (u := u.popped _) hcfg hl.2)).trans
    (bind_ok (minimalStack_ok rfl))

theorem exec_bitblt_linesLeft (h : s.holds 0 [ptr, line]) (hres : s.restartable ptr (s.record ptr 12)) : exec .bitblt s =
    complete (bitBltLines ptr (s.record ptr 12) bitBltFuel true (bitBltResume (s.bitBltOf ptr) line))
      (((s.reads (s.recordAddresses ptr 12)).takeTurns 12).popped (s.suspensionLeft ptr)) := by
  have hw : (s.reads (s.recordAddresses ptr 12)).onlyWakeups := hs.of_turns (by simp)
  have hcfg := (hw.takeTurns_cfg 12).trans (State.reads_cfg s _)
  have hrec := bitBltRecord_turned hs hr hl
  rw [exec_bitblt_restart h]
  generalize (s.reads (s.recordAddresses ptr 12)).takeTurns 12 = u at *
  exact complete_congr <| (bind_ok hrec).trans <| (bind_ok (checkRestart_ok (s := s) (u := u.popped _) rfl hres)).trans <|
    (bind_ok (bitBltSetup_ok (u := u.popped _) hcfg hl.2)).trans (bind_ok (minimalStack_ok rfl))

end Entry

theorem State.MemoryOnly.movable {s t : State} (h : s.MemoryOnly t) (hp : s.SamePages t) {b : BitBltState} {n : Nat} :
    t.movable b n ↔ s.movable b n := by
  simp only [State.movable, h.storable hp, h.readable hp]

/-- The suspension after a first line (R583, R590): the state after it, for a state `t` that the record has been read in. -/
theorem bitBltLines_suspended {s t : State} (hs : s.onlyWakeups) (hmem : s.MemoryOnly t) (h2 : 2 ≤ s.stack.length) {b : BitBltState}
    {ptr : Word} {record : List Word} (hheight : b.line < b.arg.height) (hm : t.movable b 1)
    (ho : (s.takeTurns (12 + 4 * b.arg.width.toNat)).testOmitted = false)
    (hp : interruptPending (s.takeTurns (13 + 4 * b.arg.width.toNat)) = true) (fuel : Nat) :
    bitBltLines ptr record (fuel + 1) true b ((t.takeTurns 12).popped s.suspended) =
      .ok () { (t.moveLines b 1).result 0 [ptr, (nextLine b).line] [] with
        wp := (s.takeTurns (13 + 4 * b.arg.width.toNat)).wp, turns := (s.takeTurns (13 + 4 * b.arg.width.toNat)).turns
        pc := s.savedPC, suspended := some ⟨s.savedPC, [ptr, (nextLine b).line], ptr, record⟩ } := by
  have hw : t.onlyWakeups := hs.of_turns (by rw [hmem])
  have hX : s.MemoryOnly (t.moveLines b 1) := hmem.trans (.moveLines _ b 1)
  have hn : 13 + 4 * b.arg.width.toNat = 12 + 4 * b.arg.width.toNat + 1 := by omega
  rw [hn] at hp ⊢
  rw [← hs.testOmitted_takeTurns hmem] at ho
  rw [← hs.interruptPending_takeTurns hmem] at hp
  have hsus := bitBltLines_suspends (s := t.popped s.suspended) (ptr := ptr) (record := record) (first := true) hw rfl
    (by rw [hmem]; exact h2) 12 hheight (State.movable_succ.1 hm).2 (by rw [State.takeTurns_popped hw]; exact ho)
    (by rw [State.takeTurns_popped hw]; exact hp) fuel
  have hline : (t.popped s.suspended).moveLine b = (t.moveLines b 1).popped s.suspended := State.moveLines_popped t _ b 1
  have hmoved : (t.moveLines b 1).onlyWakeups := hs.of_turns (by rw [hX])
  rw [State.takeTurns_popped hw, hline, State.takeTurns_popped hmoved, hX.takeTurns_eq hs] at hsus
  have hpc : (t.moveLines b 1).savedPC = s.savedPC := by rw [hX]
  rw [hsus, ← hpc]
  generalize t.moveLines b 1 = X
  generalize s.takeTurns (12 + 4 * b.arg.width.toNat + 1) = u
  rfl

/-- The fault in line `n` (R591): what taking it leaves, for a state `t` that the record has been read in. -/
theorem bitBltLines_faulted {s t : State} (hs : s.quiet) (hmem : s.MemoryOnly t) (hpages : s.SamePages t) (h2 : 2 ≤ s.stack.length)
    {b : BitBltState} {ptr : Word} {record : List Word} {n k : Nat} (hn : n < b.linesLeft) (hf : n < bitBltFuel) (hm : s.movable b n)
    (hk : k < b.arg.width.toNat) (hbits : ∀ j < k, s.movableBit (skipLines n b) j) {kind : FaultKind} {va : Long}
    (hfault : s.bitFaults (skipLines n b) k kind va) :
    (n = 0 → complete (bitBltLines ptr record bitBltFuel true b) (t.popped s.suspended) =
      .next (takeException (.fault kind va) t)) ∧
    (0 < n → complete (bitBltLines ptr record bitBltFuel true b) (t.popped s.suspended) =
      .next { (t.moveLines b n).result 0 [ptr, (skipLines n b).line] [] with
        savedSP := 2, pc := s.savedPC, exception := some (.fault kind va)
        suspended := some ⟨s.savedPC, [ptr, (skipLines n b).line], ptr, record⟩ }) := by
  have hsus : t.suspended = s.suspended := by rw [hmem]
  have hX : s.MemoryOnly (t.moveLines b n) := hmem.trans (.moveLines _ b n)
  have hpc : t.savedPC = s.savedPC := by rw [hmem]
  have hpcX : (t.moveLines b n).savedPC = s.savedPC := by rw [hX]
  have hend := bitBltLines_faults (s := t.popped s.suspended) (ptr := ptr) (record := record) ((hmem.quiet hs).popped _) rfl
    (by rw [hmem]; exact h2) hn hf (State.movable_popped.2 ((hmem.movable hpages).2 hm)) hk
    (fun j hj => State.movableBit_popped.2 ((hmem.movableBit hpages).2 (hbits j hj)))
    (State.bitFaults_popped.2 (hmem.bitFaults hpages hfault))
  have hpcp : (t.popped s.suspended).savedPC = s.savedPC := hpc
  rw [complete_exception hend, State.moveLines_popped, hpcp]
  generalize t.moveLines b n = X at *
  refine ⟨fun h0 => ?_, fun hpos => ?_⟩
  · rw [if_pos h0, State.popped_same hsus]
    rfl
  · rw [if_neg (Nat.pos_iff_ne_zero.1 hpos), ← hpcX]
    rfl

/-- Settles O52: the lines are moved one by one until none is left, an interrupt is found pending, or a bit cannot be moved. -/
theorem bitBltResults : Obligations.BitBltResults := by
  refine ⟨fun s ptr hq h hr hl => ?first, fun s ptr line hq h hr hl hres => ?restart,
    fun s ptr hs h h2 hr hl => ?suspended, fun s ptr n k kind va hq h h2 hsp hr hl => ?faults⟩
  all_goals
    have hmem := State.MemoryOnly.reads s (s.recordAddresses ptr 12)
    have hpages := State.samePages_reads hr
  case first =>
    intro b
    have hleft : b.linesLeft = b.arg.height.toNat := s.bitBltOf_linesLeft ptr
    refine ⟨hleft, fun hm => ?_⟩
    have hq' := (hmem.quiet hq).popped s.suspended
    have hends := bitBltLines_ends (ptr := ptr) (record := s.record ptr 12) (first := true) hq' (hleft ▸ hl.height_lt)
      (State.movable_popped.2 ((hmem.movable hpages).2 (hleft ▸ hm)))
    have hsus : ((s.reads (s.recordAddresses ptr 12)).moveLines b b.linesLeft).suspended = s.suspended := by
      rw [State.MemoryOnly.moveLines, hmem]
    rw [exec_bitblt_lines (.of_undisturbed hq.2) hr hl h, State.takeTurns_undisturbed (hmem.quiet hq).2, complete_ok hends,
      State.moveLines_popped, State.popped_same hsus, hleft]
  case restart =>
    intro b hm
    have hq' := (hmem.quiet hq).popped (s.suspensionLeft ptr)
    have hleft : b.linesLeft < bitBltFuel := (linesLeft_le_height b).trans_lt (by rw [bitBltResume_height]; exact hl.height_lt)
    have hends := bitBltLines_ends (ptr := ptr) (record := s.record ptr 12) (first := true) hq' hleft
      (State.movable_popped.2 ((hmem.movable hpages).2 hm))
    rw [exec_bitblt_linesLeft (.of_undisturbed hq.2) hr hl h hres, State.takeTurns_undisturbed (hmem.quiet hq).2, complete_ok hends,
      State.moveLines_popped]
    rfl
  case suspended =>
    intro b u ho hp hheight hm
    have hline : b.line < b.arg.height := skipLines_lt_height b (j := 0)
      (by rw [s.bitBltOf_linesLeft ptr]; exact Nat.pos_of_ne_zero fun h0 => hheight (BitVec.eq_of_toNat_eq h0))
    rw [exec_bitblt_lines hs hr hl h]
    exact complete_ok (bitBltLines_suspended hs hmem h2 hline ((hmem.movable hpages).2 hm) ho hp 32767)
  case faults =>
    intro b line dst src hn hk hm hbits hfault t
    have hend := bitBltLines_faulted (ptr := ptr) (record := s.record ptr 12) hq hmem hpages h2
      (by rwa [s.bitBltOf_linesLeft ptr]) (hn.trans hl.height_lt) hm hk hbits hfault
    rw [exec_bitblt_lines (.of_undisturbed hq.2) hr hl h, State.takeTurns_undisturbed (hmem.quiet hq).2]
    exact hend

end Sys2Proof.Machine
end

section
/-! SUPPORT. What accesses to given words leave, with devices that raise wakeups only: the state but for memory and the turns taken, the
words that are not stored to, and where an abandoned routine stops (20_memory.md R108, R113, R140; 60_exceptions.md R683, R684). -/

namespace Sys2Proof.Machine

/-- `u` is `s` after turns of the devices and accesses that store to words in `vas` only. -/
structure State.StoresIn (s : State) (vas : Long → Prop) (u : State) : Prop where
  turned : ∃ n, u = (s.takeTurns n).withMemory u
  pages : s.SamePages u
  bytes : ∀ a, (∀ va, vas va → ¬ s.inWord va a) → u.byteAt a = s.byteAt a
  unstored : (∀ va, ¬ vas va) → u.mem = s.mem ∧ u.codeWrites = s.codeWrites

/-- No word. -/
def noWords (_ : Long) : Prop := False

/-- Nothing is stored to the word at `va` where only words in `vas` are stored to. -/
def State.spared (s : State) (vas : Long → Prop) (va : Long) : Prop := ∀ vb, vas vb → s.realAddress vb ≠ s.realAddress va

theorem State.spared_noWords (s : State) (va : Long) : s.spared noWords va := fun _ h => h.elim

namespace State.StoresIn
variable {s u v : State} {vas : Long → Prop} {va : Long}

theorem refl (s : State) (vas : Long → Prop) : s.StoresIn vas s := ⟨⟨0, rfl⟩, .refl s, fun _ _ => rfl, fun _ => ⟨rfl, rfl⟩⟩

theorem mono {vas' : Long → Prop} (h : s.StoresIn vas u) (hv : ∀ va, vas va → vas' va) : s.StoresIn vas' u :=
  ⟨h.turned, h.pages, fun a ha => h.bytes a fun va hva => ha va (hv va hva), fun hn => h.unstored fun va hva => hn va (hv va hva)⟩

/-- A change of memory only, that stores to `vas` only. -/
theorem memoryOnly (h : s.StoresIn vas u) (hm : u.MemoryOnly v) (hp : u.SamePages v)
    (hb : ∀ a, (∀ va, vas va → ¬ s.inWord va a) → v.byteAt a = u.byteAt a)
    (hu : (∀ va, ¬ vas va) → v.mem = u.mem ∧ v.codeWrites = u.codeWrites) : s.StoresIn vas v where
  turned := by
    obtain ⟨n, hn⟩ := h.turned
    exact ⟨n, by rw [hm, hn]; rfl⟩
  pages := h.pages.trans hp
  bytes a ha := (hb a ha).trans (h.bytes a ha)
  unstored hn := ⟨(hu hn).1.trans (h.unstored hn).1, (hu hn).2.trans (h.unstored hn).2⟩

theorem touch {a : Access} (h : s.StoresIn vas u) (ha : u.accessible va a) : s.StoresIn vas (u.touch va a) :=
  h.memoryOnly (.touch u va a) (.touch ha) (fun b _ => by rw [State.byteAt, State.touch_mem, State.byteAt])
    fun _ => ⟨u.touch_mem va a, u.touch_codeWrites va a⟩

theorem storeWord (h : s.StoresIn vas u) (hva : vas va) (hw : u.writable va) (w : Word) : s.StoresIn vas (u.storeWord va w) :=
  h.memoryOnly (.storeWord u va w) (.storeWord hw w)
    (fun a ha => u.byteAt_storeWord w (by rw [h.pages.inWord]; exact ha va hva)) fun hn => (hn va hva).elim

theorem freeUsed (h : s.StoresIn vas u) (n : Nat) : s.StoresIn vas { u with freeIndex := n } :=
  h.memoryOnly rfl (fun _ => ⟨rfl, rfl, rfl⟩) (fun _ _ => rfl) fun _ => ⟨rfl, rfl⟩

/-- A word that is not stored to. -/
theorem wordAt (h : s.StoresIn vas u) (hva : s.spared vas va) : u.wordAt va = s.wordAt va := by
  have hr : u.realAddress va = s.realAddress va := by simp [State.realAddress, State.entryOf, (h.pages _).1]
  have hbytes (a : Nat) (ha : s.inWord va a) : u.byteAt a = s.byteAt a := h.bytes a fun vb hvb hin => hva vb hvb <| by
    unfold State.inWord at ha hin
    omega
  rw [State.wordAt, State.wordAt, hr]
  exact congrArg₂ (· ++ ·) (hbytes _ (.inl rfl)) (hbytes _ (.inr rfl))

section Woken
variable (hs : s.onlyWakeups) (h : s.StoresIn vas u)
include hs h

theorem frame : u = { s with
    wp := u.wp, turns := u.turns, map := u.map, mem := u.mem, codeWrites := u.codeWrites, freeIndex := u.freeIndex } := by
  obtain ⟨n, hn⟩ := h.turned
  rw [hs.takeTurns_eq] at hn
  rw [hn]
  rfl

theorem woken : u.onlyWakeups := by
  obtain ⟨n, hn⟩ := h.turned
  rw [hn]
  exact hs.takeTurns n

theorem takeTurn : s.StoresIn vas u.takeTurn := by
  obtain ⟨n, hn⟩ := h.turned
  have hu : u.takeTurn = u.awake (u.wp ||| u.raised) u.turns.tail := (h.woken hs).takeTurn_eq
  refine ⟨⟨n + 1, ?_⟩, h.pages.trans (h.woken hs).samePages_takeTurn, fun a ha => ?_, fun hv => ?_⟩
  · rw [State.takeTurns_succ, (hs.takeTurns n).takeTurn_eq, hu, hn]
    rfl
  · rw [hu]
    exact h.bytes a ha
  · rw [hu]
    exact h.unstored hv

theorem cfg : u.cfg = s.cfg := by rw [h.frame hs]

theorem lengthenPointer (ptr : Word) : u.lengthenPointer ptr = s.lengthenPointer ptr :=
  lengthenPointer_congr (by rw [h.frame hs]) ptr

theorem isOverhead (va : Long) : u.isOverhead va = s.isOverhead va := by rw [h.frame hs]; rfl

theorem present : u.present va ↔ s.present va := by
  simp [State.present, State.realAddress, State.entryOf, (h.pages _).1, (h.pages _).2.1, h.cfg hs]

theorem readable : u.readable va ↔ s.readable va := by
  rw [State.readable, State.readable, h.present hs, h.isOverhead hs]

theorem storable : u.storable va ↔ s.storable va := by
  rw [State.storable, State.storable, State.writable, State.writable, h.present hs, h.isOverhead hs,
    show (u.entryOf va).isProtected = (s.entryOf va).isProtected from (h.pages _).2.2]

end Woken

/-- With no device acting only memory differs. -/
theorem memoryOnly_of_undisturbed (h : s.StoresIn vas u) (hu : s.undisturbed) : s.MemoryOnly u := by
  obtain ⟨n, hn⟩ := h.turned
  rwa [State.takeTurns_undisturbed hu] at hn

end State.StoresIn

/-! Routines, by what they answer or, where a fault abandons them, leave. -/

/-- An answer and its state are as `Q` says; an exception is a fault, and `E` holds of the state that it leaves. A `StackError` or a
refusal leaves no state. -/
def Yields {α : Type} (Q : α → State → Prop) (E : State → Prop) : EStateM.Result Raise State α → Prop
  | .ok a u => Q a u
  | .error (.exception e) u => (∃ k va, e = .fault k va) ∧ E u
  | .error _ _ => True

namespace Yields
variable {α β : Type} {P : State → Prop} {Q : α → State → Prop} {Q' : β → State → Prop} {E E' : State → Prop} {m : Act α}
  {f : α → Act β}

theorem bind (hm : Runs P m (Yields Q E)) (hf : ∀ a, Runs (Q a) (f a) (Yields Q' E)) : Runs P (m >>= f) (Yields Q' E) := fun u hu => by
  have h := hm u hu
  rw [act_bind]
  cases hr : m u with
  | ok a v => rw [hr] at h; exact hf a v h
  | error e v =>
    rw [hr] at h
    cases e with
    | exception e => exact h
    | stackError => trivial
    | refused r => trivial

theorem mono {Q₁ : α → State → Prop} (hm : Runs P m (Yields Q E)) (hQ : ∀ a u, Q a u → Q₁ a u) (hE : ∀ u, E u → E' u) :
    Runs P m (Yields Q₁ E') := fun u hu => by
  have h := hm u hu
  cases hr : m u with
  | ok a v => rw [hr] at h; exact hQ a v h
  | error e v =>
    rw [hr] at h
    cases e with
    | exception e => exact ⟨h.1, hE v h.2⟩
    | stackError => trivial
    | refused r => trivial

theorem pure {a : α} (h : ∀ u, P u → Q a u) : Runs P (pure a) (Yields Q E) := fun u hu => h u hu

theorem refuse (r : Refusal) : Runs P (refuse r) (Yields Q E) := fun _ _ => trivial

theorem ite {c : Prop} [Decidable c] {m n : Act α} (hm : c → Runs P m (Yields Q E)) (hn : ¬ c → Runs P n (Yields Q E)) :
    Runs P (if c then m else n) (Yields Q E) := by
  split
  · exact hm ‹_›
  · exact hn ‹_›

theorem get {f : State → Act β} (hf : ∀ t, P t → Runs P (f t) (Yields Q' E)) : Runs P (get >>= f) (Yields Q' E) := Runs.get hf

/-- The next state of a completed routine. -/
theorem complete {m : Act Unit} {Q : Unit → State → Prop} {s t : State} (hm : Runs P m (Yields Q E)) (hs : P s)
    (h : complete m s = .next t) : Q () t ∨ ∃ k va u, E u ∧ t = takeException (.fault k va) u := by
  have hr := hm s hs
  rcases complete_cases h with hok | ⟨e, u, herr, rfl⟩
  · rw [hok] at hr; exact .inl hr
  · rw [herr] at hr
    obtain ⟨⟨k, va, rfl⟩, hE⟩ := hr
    exact .inr ⟨k, va, u, hE, rfl⟩

end Yields

/-- The routine stores to `vas` only, whatever it answers. -/
def StoresOnly {α : Type} (s : State) (vas : Long → Prop) (m : Act α) : Prop :=
  Runs (s.StoresIn vas) m (Yields (fun _ => s.StoresIn vas) (s.StoresIn vas))

/-- A load: where nothing is stored to the word, it gives the word of `s`. -/
theorem fetch_yields {s : State} (hs : s.onlyWakeups) {vas : Long → Prop} (va : Long) : Runs (s.StoresIn vas) (fetch va)
    (Yields (fun w u => s.StoresIn vas u ∧ (s.spared vas va → w = s.wordAt va)) (s.StoresIn vas)) := fun u h => by
  have ht := h.takeTurn hs
  rcases fetch_cases u va with ⟨hr, hf⟩ | ⟨-, hf⟩ | ⟨-, r, hf⟩ <;> rw [hf]
  · exact ⟨ht.touch hr.accessible, ht.wordAt⟩
  · exact ⟨⟨_, _, rfl⟩, ht⟩
  · trivial

namespace StoresOnly
variable {s : State} {vas : Long → Prop} {α β : Type} {m : Act α} {f : α → Act β}

theorem bind (hm : StoresOnly s vas m) (hf : ∀ a, StoresOnly s vas (f a)) : StoresOnly s vas (m >>= f) := Yields.bind hm hf

theorem pure (a : α) : StoresOnly s vas (pure a : Act α) := Yields.pure fun _ => id

theorem get {f : State → Act β} (hf : ∀ t, s.StoresIn vas t → StoresOnly s vas (f t)) : StoresOnly s vas (get >>= f) := Runs.get hf

variable (hs : s.onlyWakeups)
include hs

theorem pollInterrupt : StoresOnly s vas pollInterrupt := fun _ h => h.takeTurn hs

theorem fetch (va : Long) : StoresOnly s vas (fetch va) := Yields.mono (fetch_yields hs va) (fun _ _ h => h.1) fun _ => id

theorem store {va : Long} (hva : vas va) (w : Word) : StoresOnly s vas (store va w) := fun u h => by
  have ht := h.takeTurn hs
  rcases store_cases u va w with ⟨hw, hst⟩ | ⟨k, hst⟩ | ⟨-, r, hst⟩ <;> rw [hst]
  · exact ht.storeWord hva hw.1 w
  · exact ⟨⟨k, va, rfl⟩, ht⟩
  · trivial

theorem readDbl (va : Long) : StoresOnly s vas (readDbl va) := bind (fetch hs va) fun _ => bind (fetch hs _) fun _ => pure _

theorem packedByte (base : Long) (index : Word) : StoresOnly s vas (packedByte base index) := bind (fetch hs _) fun _ => pure _

theorem readBit (a : BitAddress) (offset : Word) : StoresOnly s vas (readBit a offset) := bind (fetch hs _) fun _ => pure _

theorem writeBit {a : BitAddress} {offset : Word} (hva : vas (bump a (lengthenSigned offset)).word) (b : Bool) :
    StoresOnly s vas (writeBit a offset b) := bind (fetch hs _) fun _ => store hs hva _

end StoresOnly

/-- An argument record, read where nothing is stored. -/
theorem fetchRecord_yields {s : State} (hs : s.onlyWakeups) (ptr : Word) (n : Nat) : Runs (s.StoresIn noWords) (fetchRecord ptr n)
    (Yields (fun ws u => s.StoresIn noWords u ∧ ws = s.record ptr n) (s.StoresIn noWords)) := by
  induction n generalizing ptr with
  | zero => exact Yields.pure fun u hu => ⟨hu, rfl⟩
  | succ n ih =>
    have hfirst : Runs (s.StoresIn noWords) (fetchMds ptr)
        (Yields (fun w u => s.StoresIn noWords u ∧ w = s.wordAt (s.lengthenPointer ptr)) (s.StoresIn noWords)) :=
      Runs.get fun t ht => by
        rw [ht.lengthenPointer hs]
        exact Yields.mono (fetch_yields hs _) (fun w u h => ⟨h.1, h.2 (s.spared_noWords _)⟩) fun _ => id
    refine Yields.bind hfirst fun w u ⟨hu, hw⟩ => ?_
    exact Yields.bind (ih (ptr + 1)) (fun ws => Yields.pure fun v hv => ⟨hv.1, by rw [State.record_succ, hw, hv.2]⟩) u hu

end Sys2Proof.Machine
end

section
/-! What BITBLT changes, whether it ends, is suspended or is abandoned in a fault: O53 (47_bitblt_txtblt.md R583, R585, R590, R591). -/

namespace Sys2Proof.Machine

/-- `t` is `s` but for what a BITBLT may change, the words in `vas` among it. -/
structure State.BitBltLeaves (s : State) (vas : Long → Prop) (t : State) : Prop where
  frame : t = { s with
    stack := t.stack, sp := t.sp, pc := t.pc, savedSP := t.savedSP, wp := t.wp, map := t.map, mem := t.mem
    turns := t.turns, codeWrites := t.codeWrites, freeIndex := t.freeIndex, suspended := t.suspended
    exception := t.exception }
  bytes : ∀ a, (∀ va, vas va → ¬ s.inWord va a) → t.byteAt a = s.byteAt a

/-- The words that the lines of `b` still to be moved set bits of. -/
def BitBltState.targets (b : BitBltState) (va : Long) : Prop :=
  ∃ j < b.linesLeft, ∃ k < b.arg.width.toNat, va = (bitBltTarget (skipLines j b) k).word

namespace State.BitBltLeaves
variable {s t u : State} {vas : Long → Prop}

theorem of_storesIn (hs : s.onlyWakeups) (h : s.StoresIn vas u) : s.BitBltLeaves vas u where
  frame := by rw [h.frame hs]
  bytes := h.bytes

theorem congr (h : s.BitBltLeaves vas t) (hu : u = { t with
    stack := u.stack, sp := u.sp, pc := u.pc, savedSP := u.savedSP, suspended := u.suspended, exception := u.exception }) :
    s.BitBltLeaves vas u where
  frame := by rw [hu, h.frame]
  bytes a ha := (show u.byteAt a = t.byteAt a by rw [hu]; rfl).trans (h.bytes a ha)

theorem takeException (h : s.BitBltLeaves vas t) (k : FaultKind) (va : Long) :
    s.BitBltLeaves vas (takeException (.fault k va) t) := h.congr rfl

variable (s vas) in
theorem push (w : Word) :
    Runs (s.BitBltLeaves vas) (push w) (Yields (fun _ => s.BitBltLeaves vas) (s.BitBltLeaves vas)) :=
  Runs.get fun _ ht => Yields.ite (fun _ _ _ => ht.congr rfl) fun _ _ _ => trivial

variable (s vas) in
theorem pushState (ptr line : Word) (record : List Word) : Runs (s.BitBltLeaves vas) (bitBltPushState ptr line record)
    (Yields (fun _ => s.BitBltLeaves vas) (s.BitBltLeaves vas)) :=
  Yields.bind (push s vas ptr) fun _ => Yields.bind (push s vas line) fun _ _ h => h.congr rfl

end State.BitBltLeaves

section Lines
variable {s : State} (hs : s.onlyWakeups) {vas : Long → Prop} {b : BitBltState}
include hs

theorem bitBltBits_storesOnly (n k : Nat) (h : ∀ j, k ≤ j → j < k + n → vas (bitBltTarget b j).word) :
    StoresOnly s vas (bitBltBits b n (bitBltOffset b k)) := by
  induction n generalizing k with
  | zero => exact .pure ()
  | succ n ih =>
    have hbit : StoresOnly s vas (bitBltBit b (bitBltOffset b k)) :=
      .bind (.readBit hs _ _) fun _ => .bind (.readBit hs _ _) fun _ => .writeBit hs (h k le_rfl (by omega)) _
    have hrest := ih (k + 1) fun j hj hn => h j (by omega) (by omega)
    rw [bitBltOffset_succ] at hrest
    exact .bind hbit fun _ => hrest

theorem bitBltLine_storesOnly (h : ∀ k < b.arg.width.toNat, vas (bitBltTarget b k).word) : StoresOnly s vas (bitBltLine b) := by
  have hbits := bitBltBits_storesOnly hs b.arg.width.toNat 0 fun j _ hj => h j (by omega)
  rw [bitBltOffset_zero] at hbits
  exact hbits

/-- A line: moved, or abandoned with the state it is to be started again from. -/
theorem bitBltItem_yields (ptr : Word) (record : List Word) (first : Bool) (h : ∀ k < b.arg.width.toNat, vas (bitBltTarget b k).word) :
    Runs (s.StoresIn vas) (bitBltItem ptr record first b) (Yields (fun _ => s.StoresIn vas) (s.BitBltLeaves vas)) := fun u hu => by
  have hline := bitBltLine_storesOnly hs h
  have hleaves := State.BitBltLeaves.of_storesIn hs hu
  have htrial := (bitBltLine_storesOnly (s := { u with turns := [] }) (vas := vas) (b := b) (by simp [State.onlyWakeups]) h) _ (.refl _ _)
  have hpush := State.BitBltLeaves.pushState s vas ptr b.line record u hleaves
  unfold bitBltItem
  cases ht : bitBltLine b { u with turns := [] } with
  | ok a v => exact Yields.mono hline (fun _ _ => id) (fun _ => .of_storesIn hs) u hu
  | error e v =>
    rw [ht] at htrial
    cases e with
    | exception e =>
      obtain ⟨hfault, -⟩ := htrial
      cases first with
      | true => exact ⟨hfault, hleaves⟩
      | false =>
        cases hp : bitBltPushState ptr b.line record u with
        | ok a w => rw [hp] at hpush; exact ⟨hfault, hpush.congr rfl⟩
        | error r w =>
          rw [hp] at hpush
          cases r with
          | exception r => exact hpush
          | stackError => trivial
          | refused r => trivial
    | stackError => trivial
    | refused r => trivial

omit hs in
theorem skipLines_lt_linesLeft {j : Nat} (hj : j ≤ b.linesLeft) (h : (skipLines j b).line < b.arg.height) : j < b.linesLeft :=
  lt_of_le_of_ne hj fun he => skipLines_linesLeft b (he ▸ h)

/-- The lines from line `j` on. -/
theorem bitBltLines_yields (ptr : Word) (record : List Word) (fuel : Nat) (first : Bool) {j : Nat} (hj : j ≤ b.linesLeft) :
    Runs (s.StoresIn b.targets) (bitBltLines ptr record fuel first (skipLines j b))
      (Yields (fun _ => s.BitBltLeaves b.targets) (s.BitBltLeaves b.targets)) := by
  induction fuel generalizing first j with
  | zero => exact Yields.pure fun _ => .of_storesIn hs
  | succ fuel ih =>
    refine Yields.ite (fun hline => ?_) fun _ => Yields.pure fun _ => .of_storesIn hs
    rw [skipLines_height] at hline
    have hlt := skipLines_lt_linesLeft hj hline
    have hitem := bitBltItem_yields hs (b := skipLines j b) (vas := b.targets) ptr record first fun k hk =>
      ⟨j, hlt, k, by rwa [skipLines_width] at hk, rfl⟩
    have hpoll : Runs (s.StoresIn b.targets) pollInterrupt (Yields (fun _ => s.StoresIn b.targets) (s.BitBltLeaves b.targets)) :=
      Yields.mono (StoresOnly.pollInterrupt hs) (fun _ _ => id) fun _ => .of_storesIn hs
    refine Yields.bind hitem fun _ => Yields.bind hpoll fun pending => Yields.ite (fun _ => ?_) fun _ => ?_
    · exact Runs.mono (fun u => State.BitBltLeaves.of_storesIn hs)
        (Yields.bind (State.BitBltLeaves.pushState s b.targets ptr _ record) fun _ u hu => hu.congr rfl)
    · rw [← skipLines_succ]
      exact ih false hlt

end Lines

/-! From the instruction to its lines. -/

section Entry
variable {s : State} {vas : Long → Prop} {p : Nat} {v : Option Suspension} (hs : s.onlyWakeups)
include hs

theorem State.StoresIn.forgotten {u : State} (h : (s.left p v).StoresIn vas u) :
    (s.left p none).StoresIn vas { u with suspended := none } where
  turned := by
    obtain ⟨n, hn⟩ := h.turned
    refine ⟨n, ?_⟩
    rw [State.takeTurns_left hs] at hn ⊢
    rw [hn]
    rfl
  pages := h.pages
  bytes := h.bytes
  unstored := h.unstored

/-- The record of a restart is the one it was suspended with, or not looked at. -/
theorem checkRestart_yields {α : Type} (start : State) (ptr : Word) (record : List Word) {m : Act α} {Q : α → State → Prop}
    {E : State → Prop} (hm : ∀ w, Runs ((s.left p w).StoresIn vas) m (Yields Q E)) :
    Runs ((s.left p v).StoresIn vas) (checkRestart start ptr record >>= fun _ => m) (Yields Q E) := fun u hu => by
  rcases checkRestart_cases start u ptr record with h | h | h
  · rw [bind_ok h]; exact hm v u hu
  · rw [bind_ok h]; exact hm none _ (hu.forgotten hs)
  · rw [bind_error h]; trivial

omit hs in
theorem minimalStack_yields {E : State → Prop} : Runs (s.StoresIn vas) minimalStack (Yields (fun _ => s.StoresIn vas) E) :=
  fun u hu => by
    by_cases h0 : u.sp = 0
    · rw [minimalStack_ok h0]; exact hu
    · simp [minimalStack, h0, Yields]

theorem bitBltRecord_yields {α : Type} (ptr : Word) {m : List Word → Act α} {Q : α → State → Prop} {E : State → Prop}
    (hE : ∀ u, s.StoresIn noWords u → E u) (hm : Runs (s.StoresIn noWords) (m (s.record ptr 12)) (Yields Q E)) :
    Runs (s.StoresIn noWords) (bitBltRecord ptr >>= m) (Yields Q E) := by
  have hrec : Runs (s.StoresIn noWords) (bitBltRecord ptr) (Yields (fun ws u => s.StoresIn noWords u ∧ ws = s.record ptr 12) E) :=
    Yields.ite (fun _ => Yields.refuse _) fun _ => Yields.mono (fetchRecord_yields hs ptr 12) (fun _ _ => id) hE
  exact Yields.bind hrec fun ws u ⟨hu, hws⟩ => hws ▸ hm u hu

/-- From `Setup` to the end, of all lines or of those that a restart still has to do. -/
theorem bitBltRun_yields (ptr : Word) (resume : BitBltState → BitBltState) :
    let b := resume (s.bitBltOf ptr)
    Runs (s.StoresIn noWords) (do
      let b ← bitBltSetup (s.record ptr 12)
      minimalStack
      bitBltLines ptr (s.record ptr 12) bitBltFuel true (resume b))
      (Yields (fun _ => s.BitBltLeaves b.targets) (s.BitBltLeaves b.targets)) := by
  intro b
  have hsetup : Runs (s.StoresIn noWords) (bitBltSetup (s.record ptr 12))
      (Yields (fun c u => s.StoresIn b.targets u ∧ resume c = b) (s.BitBltLeaves b.targets)) :=
    Yields.ite (fun _ => Yields.refuse _) fun _ => Runs.get fun u hu => Yields.pure fun w hw =>
      ⟨hw.mono fun _ => False.elim, by rw [hu.cfg hs]; rfl⟩
  refine Yields.bind hsetup fun c u ⟨hu, hc⟩ => Yields.bind minimalStack_yields (fun _ => ?_) u hu
  rw [hc]
  exact bitBltLines_yields hs ptr _ bitBltFuel true (j := 0) (Nat.zero_le _)

end Entry

theorem State.BitBltLeaves.of_left {s t : State} {vas : Long → Prop} {p : Nat} {v : Option Suspension}
    (h : (s.left p v).BitBltLeaves vas t) : s.BitBltLeaves vas t where
  frame := h.frame
  bytes := h.bytes

theorem pop_eq {s : State} (h : s.sp ≠ 0) : pop s = .ok (s.stack.getD (s.sp - 1) 0) (s.left (s.sp - 1) s.suspended) := by
  simp only [pop, act_bind, act_get, act_ite, if_neg h]
  rfl

theorem exec_bitblt_one {s : State} (h : s.sp = 1) :
    exec .bitblt s = complete (do
      let record ← bitBltRecord (s.stack.getD (s.sp - 1) 0)
      let b ← bitBltSetup record
      minimalStack
      bitBltLines (s.stack.getD (s.sp - 1) 0) record bitBltFuel true b) (s.left (s.sp - 1) s.suspended) :=
  complete_congr (((act_ite ..).trans (if_pos h)).trans (bind_ok (pop_eq (by omega))))

theorem exec_bitblt_more {s : State} (h0 : s.sp ≠ 0) (h1 : s.sp ≠ 1) :
    exec .bitblt s = complete (do
      let record ← bitBltRecord (s.stack.getD (s.sp - 1 - 1) 0)
      checkRestart s (s.stack.getD (s.sp - 1 - 1) 0) record
      let b ← bitBltSetup record
      minimalStack
      bitBltLines (s.stack.getD (s.sp - 1 - 1) 0) record bitBltFuel true (bitBltResume b (s.stack.getD (s.sp - 1) 0)))
      (s.left (s.sp - 1 - 1) s.suspended) := by
  have hsp : (s.left (s.sp - 1) s.suspended).sp ≠ 0 := show s.sp - 1 ≠ 0 by omega
  exact complete_congr (((act_ite ..).trans (if_neg h1)).trans ((bind_ok (pop_eq h0)).trans (bind_ok (pop_eq hsp))))

section Leaves
variable {s t : State} {b : BitBltState}

/-- The next state of an execution, first or again, that has popped its operands. -/
theorem leaves_of_complete {m : Act Unit} {p : Nat} {v : Option Suspension} (hm : Runs ((s.left p v).StoresIn noWords) m
    (Yields (fun _ => s.BitBltLeaves b.targets) (s.BitBltLeaves b.targets))) (h : complete m (s.left p v) = .next t) :
    s.BitBltLeaves b.targets t := by
  rcases Yields.complete hm (.refl _ _) h with hl | ⟨k, va, u, hu, rfl⟩
  · exact hl
  · exact hu.takeException k va

theorem leaves_of_record (hs : s.onlyWakeups) {p : Nat} {v : Option Suspension} {u : State} (h : (s.left p v).StoresIn noWords u) :
    s.BitBltLeaves b.targets u :=
  .of_left (.of_storesIn (hs.left p v) (h.mono fun _ => False.elim))

theorem bitBlt_leaves_first (hs : s.onlyWakeups) (h1 : s.sp = 1) (h : exec .bitblt s = .next t) :
    s.BitBltLeaves (s.bitBltOf (s.stack.getD (s.sp - 1) 0)).targets t := by
  have hrun := bitBltRun_yields (hs.left (s.sp - 1) s.suspended) (s.stack.getD (s.sp - 1) 0) id
  refine leaves_of_complete (bitBltRecord_yields (hs.left _ _) _ (fun _ => leaves_of_record hs) ?_) ((exec_bitblt_one h1).symm.trans h)
  exact Yields.mono hrun (fun _ _ => .of_left) fun _ => .of_left

theorem bitBlt_leaves_restart (hs : s.onlyWakeups) (h1 : s.sp ≠ 1) (h : exec .bitblt s = .next t) :
    s.BitBltLeaves (bitBltResume (s.bitBltOf (s.stack.getD (s.sp - 1 - 1) 0)) (s.stack.getD (s.sp - 1) 0)).targets t := by
  by_cases h0 : s.sp = 0
  · rw [exec_bitblt_empty h0] at h
    cases h
  have hrun (v : Option Suspension) := bitBltRun_yields (hs.left (s.sp - 1 - 1) v) (s.stack.getD (s.sp - 1 - 1) 0)
    (bitBltResume · (s.stack.getD (s.sp - 1) 0))
  refine leaves_of_complete (bitBltRecord_yields (hs.left _ _) _ (fun _ => leaves_of_record hs) ?_)
    ((exec_bitblt_more h0 h1).symm.trans h)
  exact checkRestart_yields hs s _ _ fun v => Yields.mono (hrun v) (fun _ _ => .of_left) fun _ => .of_left

end Leaves

/-- Settles O53: an execution is its accesses, those that store to its destination bits only, and a stack, `PC` and records of its own. -/
theorem bitBltFrame : Obligations.BitBltFrame := by
  unfold Obligations.BitBltFrame
  intro s t hs h top b
  suffices hl : s.BitBltLeaves b.targets t from
    ⟨hl.frame, fun a ha => hl.bytes a fun va ⟨j, hj, k, hk, hva⟩ => hva ▸ ha j hj k hk⟩
  by_cases h1 : s.sp = 1
  · rw [show b = _ from if_pos h1]
    exact bitBlt_leaves_first hs h1 h
  · rw [show b = _ from if_neg h1]
    exact bitBlt_leaves_restart hs h1 h

end Sys2Proof.Machine
end

section
/-! What TXTBLT changes, whether it ends, is suspended, is still scanning or is abandoned in a fault: O57 (47_bitblt_txtblt.md R604, R605,
R608; 60_exceptions.md R683). -/

namespace Sys2Proof.Machine

/-- `vas` has the words that a scan of `a` from `index` on stores to: for resolve the entries of `coord`, for display what the bits of the
destination lines lie in, as many lines as the font is high where its height is not stored to. -/
structure State.TxtCovers (s : State) (a : TxtBltArg) (index : Word) (vas : Long → Prop) : Prop where
  coord : a.function = .resolve → ∀ i : Word, i.toNat ≤ a.last.toNat → (index.toNat ≤ i.toNat ∨ a.last = 0xFFFF) →
    vas (a.coord + lengthen i)
  lines : a.function = .display → ∀ height : Word, (s.spared vas (a.font + 10) → height = s.wordAt (a.font + 10)) →
    ∀ n < height.toNat, ∀ o : Word, o.toNat < a.dstBpl.toNat → vas (bump (displayLineAt a n) (lengthenSigned o)).word

/-! One pass. -/

/-- The rest of a pass, once resolve has stored the position (R605). -/
def txtLook (a : TxtBltArg) (flagsIndex : Nat) (t : TxtState) : Act TxtStep := do
  let b ← packedByte a.text t.index
  let char := byteWord b
  let flags ← characterFlags a.font char flagsIndex
  if flags.stop then return .finish t 2
  else
    let s ← get
    if marginApplies s.cfg a.function then
      let printing ← printerWidth a.font char
      if a.margin < t.printPos + printing then return .finish t 1 else txtProcess a flags char t
    else txtProcess a flags char t

/-- A pass within `last`: resolve stores the position, then the character is looked at. -/
theorem txtPass_eq {a : TxtBltArg} {t : TxtState} (fi : Nat) (hpos : t.bitPos.toNat ≤ 32767) (hlast : t.index.toNat ≤ a.last.toNat) :
    txtPass a fi t = if a.function = .resolve then (do store (a.coord + lengthen t.index) t.bitPos; txtLook a fi t)
      else txtLook a fi t := by
  have hwithin : ¬ a.last < t.index := Nat.not_lt.2 hlast
  rw [txtPass, if_neg (Nat.not_lt.2 hpos), if_neg hwithin]
  rfl

section Pass
variable {s : State} (hs : s.onlyWakeups) {vas : Long → Prop} {a : TxtBltArg} {index : Word}
include hs

theorem characterFlags_storesOnly (font : Long) (char : Word) (fi : Nat) : StoresOnly s vas (characterFlags font char fi) :=
  .get fun t ht => by
    cases t.cfg.fontFormat with
    | packed => exact .bind (.readDbl hs _) fun _ => .bind (.packedByte hs _ _) fun _ => .pure _
    | other => exact fun _ _ => ht.freeUsed _

theorem spacingWidth_storesOnly (font : Long) (char : Word) : StoresOnly s vas (spacingWidth font char) :=
  .bind (.readDbl hs _) fun _ => .bind (.packedByte hs _ _) fun _ => .pure _

theorem printerWidth_storesOnly (font : Long) (char : Word) : StoresOnly s vas (printerWidth font char) :=
  .bind (.readDbl hs _) fun _ => .fetch hs _

theorem characterRaster_storesOnly (font : Long) (char : Word) : StoresOnly s vas (characterRaster font char) :=
  .bind (.readDbl hs _) fun _ => .bind (.fetch hs _) fun _ => .get fun _ _ => .pure _

theorem rasterBit_storesOnly (font : Long) (info : RasterInfo) (n : Word) : StoresOnly s vas (rasterBit font info n) :=
  .bind (.readDbl hs _) fun _ => .bind (.fetch hs _) fun _ => .pure _

theorem displayLine_storesOnly (font : Long) (info : RasterInfo) {dstBpl : Word} {dst : BitAddress} (n : Nat) (count offset : Word)
    (h : ∀ o : Word, o.toNat < dstBpl.toNat → vas (bump dst (lengthenSigned o)).word) :
    StoresOnly s vas (displayLine font info dstBpl dst n count offset) := by
  induction n generalizing count offset with
  | zero => exact .pure ()
  | succ n ih =>
    refine .bind (rasterBit_storesOnly hs font info count) fun _ => Yields.ite (fun _ => Yields.refuse _) fun hwide => ?_
    exact StoresOnly.bind (.readBit hs _ _) fun _ => .bind (.writeBit hs (h offset (Nat.not_le.1 hwide)) _) fun _ => ih _ _

theorem displayLines_storesOnly (info : RasterInfo) (width pos : Word) (m : Nat) {n : Nat} (count : Word)
    (h : ∀ i, n ≤ i → i < n + m → ∀ o : Word, o.toNat < a.dstBpl.toNat →
      vas (bump (displayLineAt a i) (lengthenSigned o)).word) :
    StoresOnly s vas (displayLines a.font info a.dstBpl width pos m (displayLineAt a n) count) := by
  induction m generalizing n count with
  | zero => exact .pure ()
  | succ m ih =>
    refine .bind (displayLine_storesOnly hs _ info width.toNat count pos (h n le_rfl (by omega))) fun _ => ?_
    exact ih (n := n + 1) (count + width) fun i hn hi => h i (by omega) (by omega)

variable (hc : s.TxtCovers a index vas)
include hc

theorem displayChar_storesOnly (hf : a.function = .display) (pos char : Word) : StoresOnly s vas (displayChar a pos char) := by
  have hwidth (info : RasterInfo) : StoresOnly s vas (displayWidth a.font char info) :=
    .bind (spacingWidth_storesOnly hs _ _) fun _ => .pure _
  refine .bind (characterRaster_storesOnly hs _ _) fun info => .bind (hwidth info) fun width => ?_
  refine Yields.bind (fetch_yields hs (a.font + 10)) fun height u ⟨hu, hh⟩ => ?_
  have hlines := displayLines_storesOnly hs info width (pos - boolWord info.leftKern) height.toNat (n := 0) 0 fun i _ hi =>
    hc.lines hf height hh i (by omega)
  exact hlines u hu

/-- A scan from `index` on is still within its characters, if the pass goes on. -/
def TxtStep.within (a : TxtBltArg) (index : Word) : TxtStep → Prop
  | .advance t => index.toNat ≤ t.index.toNat ∨ a.last = 0xFFFF
  | .finish _ _ => True

theorem txtProcess_yields (flags : FontFlags) (char : Word) {t : TxtState}
    (ht : index.toNat ≤ (t.index + 1).toNat ∨ a.last = 0xFFFF) : Runs (s.StoresIn vas) (txtProcess a flags char t)
    (Yields (fun step u => s.StoresIn vas u ∧ step.within a index) (s.StoresIn vas)) := by
  have hrest : Runs (s.StoresIn vas) (do
      let spacing ← spacingWidth a.font char
      let printing ← printerWidth a.font char
      return TxtStep.advance (txtAfter a flags.pad spacing printing t))
      (Yields (fun step u => s.StoresIn vas u ∧ step.within a index) (s.StoresIn vas)) :=
    Yields.bind (spacingWidth_storesOnly hs _ _) fun _ => Yields.bind (printerWidth_storesOnly hs _ _) fun _ =>
      Yields.pure fun _ hu => ⟨hu, ht⟩
  exact Yields.ite (fun hf => Yields.bind (displayChar_storesOnly hs hc hf _ _) fun _ => hrest) fun _ => hrest

theorem txtLook_yields (fi : Nat) {t : TxtState} (ht : index.toNat ≤ (t.index + 1).toNat ∨ a.last = 0xFFFF) :
    Runs (s.StoresIn vas) (txtLook a fi t)
      (Yields (fun step u => s.StoresIn vas u ∧ step.within a index) (s.StoresIn vas)) := by
  have hfinish (r : Word) : Runs (s.StoresIn vas) (pure (TxtStep.finish t r))
      (Yields (fun step u => s.StoresIn vas u ∧ step.within a index) (s.StoresIn vas)) := Yields.pure fun _ hu => ⟨hu, trivial⟩
  refine Yields.bind (StoresOnly.packedByte hs _ _) fun b => Yields.bind (characterFlags_storesOnly hs _ _ _) fun flags => ?_
  have hprocess := txtProcess_yields hs hc flags (byteWord b) ht
  refine Yields.ite (fun _ => hfinish 2) fun _ => Yields.get fun _ _ => Yields.ite (fun _ => ?_) fun _ => hprocess
  exact Yields.bind (printerWidth_storesOnly hs _ _) fun _ => Yields.ite (fun _ => hfinish 1) fun _ => hprocess

theorem txtPass_yields (fi : Nat) {t : TxtState} (ht : index.toNat ≤ t.index.toNat ∨ a.last = 0xFFFF) :
    Runs (s.StoresIn vas) (txtPass a fi t)
      (Yields (fun step u => s.StoresIn vas u ∧ step.within a index) (s.StoresIn vas)) := by
  refine Yields.ite (fun _ => Yields.refuse _) fun _ => Yields.ite (fun _ => Yields.pure fun _ hu => ⟨hu, trivial⟩) fun hlast => ?_
  have hlast : t.index.toNat ≤ a.last.toNat := Nat.not_lt.1 hlast
  have hnext : index.toNat ≤ (t.index + 1).toNat ∨ a.last = 0xFFFF := by bv_omega
  have hlook := txtLook_yields hs hc fi hnext
  exact Yields.ite (fun hf => Yields.bind (StoresOnly.store hs (hc.coord hf t.index hlast ht) _) fun _ => hlook) fun _ => hlook

end Pass

/-! The operands on the stack again, and the loop. -/

section Loop
variable {s : State} {P E : State → Prop}

/-- A word is pushed on those that were pushed on a state of `P`. -/
theorem push_yields (ws : List Word) (w : Word) :
    Runs (fun u => ∃ r, (P r ∧ ws.length ≤ r.stack.length) ∧ u = r.result 0 ws []) (push w)
    (Yields (fun _ u => ∃ r, (P r ∧ (ws ++ [w]).length ≤ r.stack.length) ∧ u = r.result 0 (ws ++ [w]) []) E) := by
  rintro _ ⟨r, ⟨hr, -⟩, rfl⟩
  by_cases hl : ws.length < r.stack.length
  · rw [push_result (by omega)]
    exact ⟨r, ⟨hr, by simpa using hl⟩, rfl⟩
  · simp [push, hl, Yields]

theorem txtPushState_yields (hP : ∀ u, P u → u.sp = 0) (t : TxtState) (data : Word) : Runs P (txtPushState t data)
    (Yields (fun _ u => ∃ r, (P r ∧ 5 ≤ r.stack.length) ∧ u = r.result 0 (t.words data) []) E) := by
  have hpush := Yields.bind (E := E) (push_yields (P := P) [] t.index) fun _ => Yields.bind (push_yields _ t.bitPos) fun _ =>
    Yields.bind (push_yields _ t.printPos) fun _ => Yields.bind (push_yields _ t.count) fun _ => push_yields _ data
  refine hpush.mono fun u hu => ⟨u, ⟨hu, Nat.zero_le _⟩, ?_⟩
  have h0 : u.holds 0 [] := ⟨hP u hu, by rw [hP u hu]; exact Nat.zero_le _, trivial⟩
  exact (State.result_of_holds h0).symm

end Loop

/-- `t` is `s` but for what a TXTBLT that is not abandoned may change, the words in `vas` among it; `PC` is past the instruction, or it is
suspended with the argument pointer on top. -/
structure State.TxtEnds (s : State) (vas : Long → Prop) (ptr : Word) (t : State) : Prop where
  frame : t = { s with
    stack := t.stack, sp := t.sp, pc := t.pc, wp := t.wp, map := t.map, mem := t.mem, turns := t.turns
    codeWrites := t.codeWrites, freeIndex := t.freeIndex, scan := t.scan, suspended := t.suspended }
  bytes : ∀ x, (∀ va, vas va → ¬ s.inWord va x) → t.byteAt x = s.byteAt x
  pc : t.pc = s.pc ∨ t.pc = s.savedPC ∧ ∃ i b p c : Word, t.holds 0 [i, b, p, c, ptr]

section Ends
variable {s r : State} {vas : Long → Prop} {ptr : Word} (hs : s.onlyWakeups) (h : s.StoresIn vas r)
include hs h

theorem State.TxtEnds.of_result (ws : List Word) : s.TxtEnds vas ptr (r.result 0 ws []) where
  frame := by rw [h.frame hs]; rfl
  bytes := h.bytes
  pc := .inl (show r.pc = s.pc by rw [h.frame hs])

theorem State.TxtEnds.of_scanning (scan : TxtScan) : s.TxtEnds vas ptr { r with scan := some scan } where
  frame := by rw [h.frame hs]
  bytes := h.bytes
  pc := .inl (show r.pc = s.pc by rw [h.frame hs])

theorem State.TxtEnds.of_suspended (h5 : 5 ≤ r.stack.length) (t : TxtState) (v : Option Suspension) :
    s.TxtEnds vas ptr { r.result 0 (t.words ptr) [] with pc := r.savedPC, suspended := v } where
  frame := by rw [h.frame hs]; rfl
  bytes := h.bytes
  pc := by
    have hholds : (r.result 0 (t.words ptr) []).holds 0 (t.words ptr) := State.holds_result [] (by simpa [TxtState.words] using h5)
    exact .inr ⟨show r.savedPC = s.savedPC by rw [h.frame hs], t.index, t.bitPos, t.printPos, t.count, hholds⟩

end Ends

/-- The scan from `t` on. -/
theorem txtLoop_yields {s : State} (hs : s.onlyWakeups) (h0 : s.sp = 0) {vas : Long → Prop} {ptr : Word} {record : List Word} {fi : Nat}
    {index : Word} (hc : s.TxtCovers (txtBltArg record) index vas) (fuel : Nat) {t : TxtState}
    (ht : index.toNat ≤ t.index.toNat ∨ (txtBltArg record).last = 0xFFFF) :
    Runs (s.StoresIn vas) (txtLoop ptr record fi fuel t) (Yields (fun _ u => s.TxtEnds vas ptr u) (s.StoresIn vas)) := by
  have hsp (u : State) (hu : s.StoresIn vas u) : u.sp = 0 := by rw [hu.frame hs]; exact h0
  induction fuel generalizing t with
  | zero => exact fun u hu => .of_scanning hs hu _
  | succ fuel ih =>
    refine Yields.bind (txtPass_yields hs hc fi ht) fun step u ⟨hu, hstep⟩ => ?_
    cases step with
    | finish t' result =>
      have hpush := txtPushState_yields (E := s.StoresIn vas) hsp t' result
      exact Yields.mono hpush (fun _ _ ⟨r, ⟨hr, _⟩, he⟩ => he ▸ .of_result hs hr _) (fun _ => id) u hu
    | advance t' =>
      refine Yields.bind (StoresOnly.pollInterrupt hs) (fun pending => Yields.ite (fun _ => ?_) fun _ => ih hstep) u hu
      exact Yields.bind (txtPushState_yields hsp t' ptr) fun _ _ ⟨r, ⟨hr, h5⟩, he⟩ => he ▸ .of_suspended hs hr h5 t' _

/-! From the instruction to its loop. -/

/-- The instruction from its record on, whatever it answers. -/
def txtRun (start : State) (ptr : Word) (t : TxtState) : Act Unit := do
  minimalStack
  if ptr &&& 0x000F ≠ 0 then refuse .txtBltArgument
  else
    let record ← fetchRecord ptr 13
    checkRestart start ptr record
    txtScan ptr record start.freeIndex t

/-- The operands as they are popped, whatever the length of the stack. -/
theorem exec_txtblt_run {s : State} (h : s.sp = 5) :
    let top (k : Nat) : Word := s.stack.getD (s.sp - 1 - k) 0
    exec .txtblt s = complete (txtRun s (top 0) ⟨top 4, top 3, top 2, top 1⟩) (s.left 0 s.suspended) := by
  intro top
  have hpop (m k : Nat) (hk : m + 1 + k = 5) : pop (s.left (m + 1) s.suspended) = .ok (top k) (s.left m s.suspended) := by
    have htop : top k = s.stack.getD m 0 := congrArg (s.stack.getD · 0) (show s.sp - 1 - k = m by omega)
    rw [pop_eq (Nat.succ_ne_zero m), htop]
    rfl
  have hs : s.left 5 s.suspended = s := by rw [State.left, ← h]
  have hrun := (bind_ok (f := fun ptr => do
    let count ← pop
    let printPos ← pop
    let bitPos ← pop
    let index ← pop
    txtRun s ptr ⟨index, bitPos, printPos, count⟩) (hpop 4 0 rfl)).trans <| (bind_ok (hpop 3 1 rfl)).trans <|
    (bind_ok (hpop 2 2 rfl)).trans <| (bind_ok (hpop 1 3 rfl)).trans (bind_ok (hpop 0 4 rfl))
  rw [hs] at hrun
  exact complete_congr hrun

/-- What an abandoned execution has left: the state but for its accesses and its operands. -/
def State.txtLeft (s : State) (vas : Long → Prop) (u : State) : Prop := ∃ v, (s.left 0 v).StoresIn vas u

section Run
variable {s : State} {vas : Long → Prop} {ptr : Word}

theorem State.TxtCovers.left {a : TxtBltArg} {index : Word} (h : s.TxtCovers a index vas) (v : Option Suspension) :
    (s.left 0 v).TxtCovers a index vas := ⟨h.coord, h.lines⟩

theorem State.TxtEnds.of_left {v : Option Suspension} {u : State} (h : (s.left 0 v).TxtEnds vas ptr u) :
    s.TxtEnds vas ptr u := ⟨h.frame, h.bytes, h.pc⟩

variable (hs : s.onlyWakeups)
include hs

theorem txtRun_yields {t : TxtState} (hc : s.TxtCovers (txtBltArg (s.record ptr 13)) t.index vas) (v : Option Suspension) :
    Runs ((s.left 0 v).StoresIn noWords) (txtRun s ptr t) (Yields (fun _ u => s.TxtEnds vas ptr u) (s.txtLeft vas)) := by
  refine Yields.bind minimalStack_yields fun _ => Yields.ite (fun _ => Yields.refuse _) fun _ => ?_
  have hrec : Runs ((s.left 0 v).StoresIn noWords) (fetchRecord ptr 13)
      (Yields (fun ws u => (s.left 0 v).StoresIn noWords u ∧ ws = s.record ptr 13) (s.txtLeft vas)) :=
    Yields.mono (fetchRecord_yields (hs.left 0 v) ptr 13) (fun _ _ => id) fun _ hu => ⟨v, hu.mono fun _ => False.elim⟩
  refine Yields.bind hrec fun ws u ⟨hu, hws⟩ => ?_
  subst hws
  refine checkRestart_yields hs s ptr _ (fun w => Yields.get fun r _ => ?_) u hu
  refine Yields.ite (fun _ => Yields.refuse _) fun _ => ?_
  have hloop := txtLoop_yields (ptr := ptr) (fi := s.freeIndex) (hs.left 0 w) rfl (hc.left w) txtBltFuel (.inl le_rfl)
  exact Yields.mono (Runs.mono (fun _ hr => hr.mono fun _ => False.elim) hloop)
    (fun _ _ => .of_left) fun _ hu => ⟨w, hu⟩

theorem exec_txtblt_ends {t : State} (h5 : s.sp = 5) (h : exec .txtblt s = .next t) :
    let top (k : Nat) : Word := s.stack.getD (s.sp - 1 - k) 0
    s.TxtCovers (txtBltArg (s.record (top 0) 13)) (top 4) vas →
    s.TxtEnds vas (top 0) t ∨ ∃ kind va u, s.txtLeft vas u ∧ t = takeException (.fault kind va) u := by
  intro top hc
  exact Yields.complete (txtRun_yields hs hc s.suspended) (.refl _ _) ((exec_txtblt_run h5).symm.trans h)

end Run

theorem State.txtLeft.frame {s u : State} {vas : Long → Prop} (hs : s.onlyWakeups) (h : s.txtLeft vas u) :
    u = { s with
      sp := 0, wp := u.wp, map := u.map, mem := u.mem, turns := u.turns, codeWrites := u.codeWrites, freeIndex := u.freeIndex
      suspended := u.suspended } := by
  obtain ⟨v, hu⟩ := h
  rw [hu.frame (hs.left 0 v)]
  rfl

/-- Every word. -/
def everyWord (_ : Long) : Prop := True

/-- Settles O57: of every byte, where the scan stores to no word that has it; the rest as the scan ends or is abandoned. -/
theorem txtBltFrame : Obligations.TxtBltFrame := by
  unfold Obligations.TxtBltFrame
  intro s t hs h top a
  by_cases h5 : s.sp = 5
  swap
  · rw [exec_txtblt_otherStack h5] at h
    cases h
  have hall : s.TxtCovers a (top 4) everyWord := ⟨fun _ _ _ _ => trivial, fun _ _ _ _ _ _ _ => trivial⟩
  have hbytes (x : Nat) (hc : s.TxtCovers a (top 4) fun va => ¬ s.inWord va x ∧
      (a.function = .display → s.realAddress va ≠ s.realAddress (a.font + 10))) : t.byteAt x = s.byteAt x := by
    rcases exec_txtblt_ends hs h5 h hc with hends | ⟨kind, va, u, ⟨v, hu⟩, rfl⟩
    · exact hends.bytes x fun va hva => hva.1
    · exact hu.bytes x fun va hva => hva.1
  have hx (x : Nat) (hcoord : a.function = .resolve → ∀ i : Word, i.toNat ≤ a.last.toNat →
        ((top 4).toNat ≤ i.toNat ∨ a.last = 0xFFFF) → ¬ s.inWord (a.coord + i.setWidth 32) x)
      (hlines : a.function = .display → ∀ n < (s.wordAt (a.font + 10)).toNat, ∀ o : Word, o.toNat < a.dstBpl.toNat →
        let va := (bump (displayLineAt a n) (lengthenSigned o)).word
        s.realAddress va ≠ s.realAddress (a.font + 10) ∧ ¬ s.inWord va x) : t.byteAt x = s.byteAt x := by
    refine hbytes x ⟨fun hf i hi hin => ⟨hcoord hf i hi hin, by simp [hf]⟩, fun hf height hh n hn o ho => ?_⟩
    rw [hh fun va hva => hva.2 hf] at hn
    exact ⟨(hlines hf n hn o ho).2, fun _ => (hlines hf n hn o ho).1⟩
  rcases exec_txtblt_ends hs h5 h hall with hends | ⟨kind, va, u, hu, rfl⟩
  · refine ⟨?_, hx, .inr ⟨?_, hends.pc⟩⟩ <;> rw [hends.frame]
  · have hframe := hu.frame hs
    refine ⟨?_, hx, .inl ⟨⟨kind, va, rfl⟩, ?_⟩⟩
    · rw [hframe]; rfl
    · rw [hframe]; exact ⟨rfl, rfl, rfl, rfl⟩

end Sys2Proof.Machine
end

section
/-! SUPPORT. One pass of TXTBLT in the format and the resolve function, with no device acting: what it reads, what it ends in, and how the
loop goes on from there (47_bitblt_txtblt.md R602, R605, R607). -/

namespace Sys2Proof.Machine

/-! Loads from a state in which only words of `vas` have been stored to. -/

/-- A load at `va` succeeds, and nothing is stored to its word. -/
def State.loads (s : State) (vas : Long → Prop) (va : Long) : Prop := s.readable va ∧ s.spared vas va

/-- What holds after stores to `vas` only, and is kept by loads and by a use of the open font format. -/
structure State.Reading (s : State) (vas : Long → Prop) (P : State → Prop) : Prop where
  stores : ∀ u, P u → s.StoresIn vas u
  touch : ∀ u va, P u → u.accessible va .read → P (u.touch va .read)
  free : ∀ u n, P u → P { u with freeIndex := n }

theorem State.Reading.storesIn (s : State) (vas : Long → Prop) : s.Reading vas (s.StoresIn vas) :=
  ⟨fun _ => id, fun _ _ h => h.touch, fun _ _ h => h.freeUsed _⟩

/-- The word at `vb` besides. -/
theorem State.Reading.withWord (s : State) (vas : Long → Prop) (vb : Long) (w : Word) :
    s.Reading vas fun u => s.StoresIn vas u ∧ u.wordAt vb = w where
  stores _ h := h.1
  touch _ _ h ha := ⟨h.1.touch ha, (State.wordAt_touch ha vb).trans h.2⟩
  free _ _ h := ⟨h.1.freeUsed _, h.2⟩

namespace State.Reading
variable {s : State} {vas : Long → Prop} {P : State → Prop} (hP : s.Reading vas P) (hu : s.undisturbed)
include hP hu

theorem undisturbed {u : State} (h : P u) : u.undisturbed := by
  rw [(hP.stores u h).memoryOnly_of_undisturbed hu]
  exact hu

theorem cfg {u : State} (h : P u) : u.cfg = s.cfg := (hP.stores u h).cfg (.of_undisturbed hu)

theorem fetch {va : Long} (h : s.loads vas va) : Runs P (fetch va) (Answers (s.wordAt va) P) := fun u hPu => by
  have hstores := hP.stores u hPu
  have hr := (hstores.readable (.of_undisturbed hu)).2 h.1
  exact ⟨_, by rw [fetch_ok (hP.undisturbed hu hPu) hr, hstores.wordAt h.2], hP.touch u va hPu hr.accessible⟩

theorem readDbl {va : Long} (h0 : s.loads vas va) (h1 : s.loads vas (va + 1)) : Runs P (readDbl va) (Answers (s.longAt va) P) :=
  .bind (hP.fetch hu h0) <| .bind (hP.fetch hu h1) <| .pure _

theorem packedByte {base : Long} {i : Word} (h : s.loads vas (base + lengthen (i >>> 1))) :
    Runs P (packedByte base i) (Answers (s.packedByteAt base i) P) :=
  .bind (hP.fetch hu h) <| .pure _

theorem pollInterrupt : Runs P pollInterrupt (Answers (interruptPending s) P) := fun u h => by
  have hu' := hP.undisturbed hu h
  have hp : interruptPending u = interruptPending s := by rw [(hP.stores u h).memoryOnly_of_undisturbed hu]; rfl
  exact ⟨u, by rw [pollInterrupt_apply, State.testOmitted_undisturbed hu', hu'.turn, hp]; rfl, h⟩

end State.Reading

theorem State.StoresIn.reads {s u : State} {vas : Long → Prop} (hs : s.onlyWakeups) (h : s.StoresIn vas u) {ws : List Long}
    (hr : s.readableAll ws) : s.StoresIn vas (u.reads ws) := by
  induction ws generalizing u with
  | nil => exact h
  | cons va ws ih =>
    obtain ⟨hva, hws⟩ := State.readableAll_cons.1 hr
    exact ih (h.touch ((h.readable hs).2 hva).accessible) hws

/-! What the pass of one character reads. -/

/-- The words of `a`'s font and text that the pass at `index` reads can be loaded, those of an array only if it looks there. -/
structure State.Scannable (s : State) (vas : Long → Prop) (a : TxtBltArg) (t : TxtState) : Prop where
  font : ∀ k < 11, s.loads vas (a.font + BitVec.ofNat 32 k)
  text : s.loads vas (a.text + lengthen (t.index >>> 1))
  flags : s.cfg.fontFormat = .packed → s.loads vas (s.longAt (a.font + 6) + lengthen ((s.characterAt a t.index).char >>> 1))
  printing : (fontFlags (s.characterAt a t.index).flags).stop = false →
    s.loads vas (s.longAt (a.font + 4) + lengthen (s.characterAt a t.index).char)
  spacing : s.endsAt a t (s.characterAt a t.index) = false →
    s.loads vas (s.longAt (a.font + 2) + lengthen ((s.characterAt a t.index).char >>> 1))

/-- What a pass that does not display ends in, at a character within `last`. -/
def State.passOutcome (s : State) (a : TxtBltArg) (t : TxtState) : TxtStep :=
  if s.endsAt a t (s.characterAt a t.index) then
    .finish t (if (fontFlags (s.characterAt a t.index).flags).stop then 2 else 1)
  else .advance (s.afterPass a t)

section Outcome
variable {s : State} {a : TxtBltArg} {t : TxtState}

theorem State.passOutcome_stop (h : (fontFlags (s.characterAt a t.index).flags).stop = true) : s.passOutcome a t = .finish t 2 := by
  simp [State.passOutcome, State.endsAt, h]

theorem State.passOutcome_margin (h : (fontFlags (s.characterAt a t.index).flags).stop = false)
    (hm : marginApplies s.cfg a.function = true) (hover : a.margin < t.printPos + (s.characterAt a t.index).printing) :
    s.passOutcome a t = .finish t 1 := by
  simp [State.passOutcome, State.endsAt, h, hm, hover]

theorem State.passOutcome_goesOn (h : s.endsAt a t (s.characterAt a t.index) = false) : s.passOutcome a t = .advance (s.afterPass a t) := by
  simp [State.passOutcome, h]

end Outcome

section Look
variable {s : State} {vas : Long → Prop} {P : State → Prop} (hP : s.Reading vas P) (hu : s.undisturbed) {a : TxtBltArg} {t : TxtState}
  (h : s.Scannable vas a t)
include hP hu h

theorem fontLong_loads (k : Nat) (hk : k + 1 < 11) : Runs P (readDbl (a.font + BitVec.ofNat 32 k))
    (Answers (s.longAt (a.font + BitVec.ofNat 32 k)) P) := by
  refine hP.readDbl hu (h.font k (by omega)) ?_
  have hnext := h.font (k + 1) hk
  rwa [BitVec.ofNat_add, ← BitVec.add_assoc] at hnext

theorem characterFlags_loads : Runs P (characterFlags a.font (s.characterAt a t.index).char s.freeIndex)
    (Answers (fontFlags (s.characterAt a t.index).flags) P) := by
  have hflags : (s.characterAt a t.index).flags = s.flagsByteAt a.font (s.characterAt a t.index).char := rfl
  rw [hflags, State.flagsByteAt]
  refine .get fun u hPu => ?_
  have hc := hP.cfg hu hPu
  rw [← hc]
  cases hf : u.cfg.fontFormat with
  | packed => exact .bind (fontLong_loads hP hu h 6 (by decide)) <| .bind (hP.packedByte hu (h.flags (hc ▸ hf))) <| .pure _
  | other => exact fun _ _ => ⟨_, rfl, hP.free u _ hPu⟩

theorem printerWidth_loads (hs : (fontFlags (s.characterAt a t.index).flags).stop = false) :
    Runs P (printerWidth a.font (s.characterAt a t.index).char) (Answers (s.characterAt a t.index).printing P) :=
  .bind (fontLong_loads hP hu h 4 (by decide)) <| hP.fetch hu (h.printing hs)

theorem spacingWidth_loads (hs : s.endsAt a t (s.characterAt a t.index) = false) :
    Runs P (spacingWidth a.font (s.characterAt a t.index).char) (Answers (s.characterAt a t.index).spacing P) :=
  .bind (fontLong_loads hP hu h 2 (by decide)) <| .bind (hP.packedByte hu (h.spacing hs)) <| .pure _

theorem txtProcess_loads (hf : a.function ≠ .display) (hs : s.endsAt a t (s.characterAt a t.index) = false) :
    Runs P (txtProcess a (fontFlags (s.characterAt a t.index).flags) (s.characterAt a t.index).char t)
      (Answers (.advance (s.afterPass a t)) P) := by
  have hstop : (fontFlags (s.characterAt a t.index).flags).stop = false := (Bool.or_eq_false_iff.1 hs).1
  exact .neg hf <| .bind (spacingWidth_loads hP hu h hs) <| .bind (printerWidth_loads hP hu h hstop) <| .pure _

theorem txtLook_loads (hf : a.function ≠ .display) : Runs P (txtLook a s.freeIndex t) (Answers (s.passOutcome a t) P) := by
  have hprocess (hgoes : s.endsAt a t (s.characterAt a t.index) = false) := txtProcess_loads hP hu h hf hgoes
  refine .bind (hP.packedByte hu h.text) <| .bind (characterFlags_loads hP hu h) ?_
  cases hstop : (fontFlags (s.characterAt a t.index).flags).stop with
  | true =>
    rw [State.passOutcome_stop hstop]
    exact .pos rfl <| .pure _
  | false =>
    refine .neg Bool.false_ne_true <| .get fun u hPu => ?_
    rw [hP.cfg hu hPu]
    by_cases hm : marginApplies s.cfg a.function = true
    · refine .pos hm <| .bind (printerWidth_loads hP hu h hstop) ?_
      by_cases hover : a.margin < t.printPos + (s.characterAt a t.index).printing
      · rw [State.passOutcome_margin hstop hm hover]
        exact .pos hover <| .pure _
      · have hgoes : s.endsAt a t (s.characterAt a t.index) = false := by
          rw [State.endsAt, hstop, decide_eq_false hover, Bool.and_false, Bool.or_false]
        rw [State.passOutcome_goesOn hgoes]
        exact .neg hover (hprocess hgoes)
    · have hgoes : s.endsAt a t (s.characterAt a t.index) = false := by
        rw [State.endsAt, hstop, Bool.eq_false_of_not_eq_true hm, Bool.false_and, Bool.or_false]
      rw [State.passOutcome_goesOn hgoes]
      exact .neg hm (hprocess hgoes)

end Look

theorem txtPass_looks {a : TxtBltArg} {t : TxtState} {fi : Nat} {P P' : State → Prop} {Q : EStateM.Result Raise State TxtStep → Prop}
    (hpos : t.bitPos.toNat ≤ 32767) (hlast : t.index.toNat ≤ a.last.toNat)
    (hstore : a.function = .resolve → Runs P (store (a.coord + lengthen t.index) t.bitPos) (Answers () P'))
    (hnone : a.function ≠ .resolve → ∀ u, P u → P' u) (h : Runs P' (txtLook a fi t) Q) : Runs P (txtPass a fi t) Q := by
  rw [txtPass_eq fi hpos hlast]
  by_cases hf : a.function = .resolve
  · exact .pos hf <| .bind (hstore hf) h
  · exact .neg hf <| h.mono (hnone hf)

/-! The loop, from a pass that ends the scan or goes on. -/

section Loop
variable {s : State} {vas : Long → Prop} {P P' : State → Prop} {ptr : Word} {record : List Word} {fi fuel : Nat} {t t' : TxtState}

theorem txtLoop_advances (hP' : s.Reading vas P') (hu : s.undisturbed)
    (hpass : Runs P (txtPass (txtBltArg record) fi t) (Answers (.advance t') P'))
    (hp : interruptPending s = false) {Q : EStateM.Result Raise State Unit → Prop} (h : Runs P' (txtLoop ptr record fi fuel t') Q) :
    Runs P (txtLoop ptr record fi (fuel + 1) t) Q :=
  .bind hpass <| .bind (hP'.pollInterrupt hu) <| .neg (by simp [hp]) h

variable (hP' : s.Reading vas P') (hu : s.undisturbed) (h0 : s.sp = 0) (h5 : 5 ≤ s.stack.length)
include hP' hu h0 h5

theorem State.Reading.stackFree {u : State} (h : P' u) : u.sp = 0 ∧ 5 ≤ u.stack.length := by
  rw [(hP'.stores u h).memoryOnly_of_undisturbed hu]
  exact ⟨h0, h5⟩

theorem txtLoop_finishes {result : Word} (hpass : Runs P (txtPass (txtBltArg record) fi t) (Answers (.finish t' result) P')) :
    Runs P (txtLoop ptr record fi (fuel + 1) t) (Answers () fun w => ∃ u, P' u ∧ w = u.result 0 (t'.words result) []) :=
  .bind hpass fun u hPu => by
    obtain ⟨hsp, hlen⟩ := hP'.stackFree hu h0 h5 hPu
    exact ⟨_, txtPushState_ok hsp hlen t' result, u, hPu, rfl⟩

theorem txtLoop_suspended (hpass : Runs P (txtPass (txtBltArg record) fi t) (Answers (.advance t') P'))
    (hp : interruptPending s = true) : Runs P (txtLoop ptr record fi (fuel + 1) t) (Answers () fun w => ∃ u, P' u ∧ w =
      { u.result 0 (t'.words ptr) [] with pc := u.savedPC, suspended := some ⟨u.savedPC, t'.words ptr, ptr, record⟩ }) :=
  .bind hpass <| .bind (hP'.pollInterrupt hu) <| .pos hp fun u hPu => by
    obtain ⟨hsp, hlen⟩ := hP'.stackFree hu h0 h5 hPu
    exact ⟨_, txtSuspend_ok hsp hlen t' ptr record, u, hPu, rfl⟩

end Loop

/-! From the instruction to its loop. -/

section Start
variable {s : State} {index bitPos printPos count ptr : Word} (hu : s.undisturbed) (hr : s.readableAll (s.recordAddresses ptr 13))
include hu hr

/-- The state at the start of the loop. -/
def State.atScan (s : State) (ptr : Word) : State := (s.reads (s.recordAddresses ptr 13)).popped (s.suspensionLeft ptr)

theorem State.atScan_storesIn : (s.popped (s.suspensionLeft ptr)).StoresIn noWords (s.atScan ptr) := by
  have hw : (s.popped (s.suspensionLeft ptr)).onlyWakeups := .of_undisturbed hu
  rw [State.atScan, ← State.reads_popped]
  exact State.StoresIn.reads hw (.refl _ _) hr

theorem exec_txtblt_atScan (h : s.holds 0 [index, bitPos, printPos, count, ptr])
    (hl : s.txtBltLegal ptr ⟨index, bitPos, printPos, count⟩) (hres : s.restartable ptr (s.record ptr 13)) :
    exec .txtblt s = complete (txtLoop ptr (s.record ptr 13) s.freeIndex txtBltFuel ⟨index, bitPos, printPos, count⟩)
      (s.atScan ptr) := by
  obtain ⟨ha, he, hm⟩ := hl
  have hrec : fetchRecord ptr 13 (s.popped s.suspended) =
      .ok (s.record ptr 13) ((s.reads (s.recordAddresses ptr 13)).popped s.suspended) := by
    have hp : (s.popped s.suspended).undisturbed := hu
    have hreads := fetchRecord_turned (.of_undisturbed hp) 0 (s := s.popped s.suspended) hr
    rwa [State.takeTurns_undisturbed hp, State.takeTurns_undisturbed (hp.reads _), State.reads_popped] at hreads
  have hsame := ((Accessed.refl s).reads hr).sameOperands
  rw [exec_txtblt_operands h, State.atScan]
  generalize s.reads (s.recordAddresses ptr 13) = u at *
  have hsame' : s.SameOperands { u.popped (s.suspensionLeft ptr) with freeIndex := s.freeIndex } := { hsame with }
  have hscan : txtScan ptr (s.record ptr 13) s.freeIndex ⟨index, bitPos, printPos, count⟩ (u.popped (s.suspensionLeft ptr)) =
      txtLoop ptr (s.record ptr 13) s.freeIndex txtBltFuel ⟨index, bitPos, printPos, count⟩ (u.popped (s.suspensionLeft ptr)) := by
    rw [txtScan_apply, hsame'.txtBltMemoryError, if_neg (by simp [he, hm])]
  exact complete_congr <| ((act_ite ..).trans (if_neg (not_not.2 ha))).trans <| (bind_ok hrec).trans <|
    (bind_ok (checkRestart_ok (s := s) (u := u.popped _) rfl hres)).trans hscan

end Start

end Sys2Proof.Machine
end

section
/-! The ends of TXTBLT in the format and the resolve function, and its suspension after a first character: O55
(47_bitblt_txtblt.md R602, R605, R607, R609). -/

namespace Sys2Proof.Machine

/-! One character. -/

section Character
variable {s : State} {vas : Long → Prop} {a : TxtBltArg} {t : TxtState}

theorem State.Scannable.of_words (h : ∀ va ∈ s.characterWords a t.index, s.loads vas va) : s.Scannable vas a t where
  font _ hk := h _ (s.fontWord_mem a t.index hk)
  text := h _ (s.characterWord_mem a t.index (.head _))
  spacing _ := h _ (s.characterWord_mem a t.index (.tail _ (.head _)))
  printing _ := h _ (s.characterWord_mem a t.index (.tail _ (.tail _ (.head _))))
  flags _ := h _ (s.characterWord_mem a t.index (.tail _ (.tail _ (.tail _ (.head _)))))

theorem State.endsAt_eq_false (hstop : (s.characterAt a t.index).flags.getLsbD 6 = false)
    (h : s.cfg.txtbltMarginAll = true ∨ a.function = .format →
      (t.printPos + (s.characterAt a t.index).printing).toNat ≤ a.margin.toNat) :
    s.endsAt a t (s.characterAt a t.index) = false := by
  have hs : (fontFlags (s.characterAt a t.index).flags).stop = false := hstop
  have hm : marginApplies s.cfg a.function = true → ¬ a.margin < t.printPos + (s.characterAt a t.index).printing := by
    intro hm
    exact Nat.not_lt.2 (h (by simpa [marginApplies] using hm))
  rw [State.endsAt, hs, Bool.false_or, Bool.and_eq_false_imp]
  exact fun ha => decide_eq_false (hm ha)

/-- The operands after the pass, as words on the stack. -/
theorem State.afterPass_words (hf : justifies a.function = decide (a.function ≠ .format)) (data : Word) :
    (s.afterPass a t).words data = s.passOperands a t data := by
  cases hpad : (s.characterAt a t.index).flags.getLsbD 7 with
  | false =>
    simp only [State.afterPass, State.passOperands, TxtState.words, txtAfter, CharacterView.after, fontFlags, hpad]
    simp
  | true =>
    simp only [State.afterPass, State.passOperands, TxtState.words, txtAfter, CharacterView.after, fontFlags, hpad, padState, hf,
      BitVec.add_assoc]
    by_cases hfn : a.function = .format <;> simp [hfn]

end Character

/-! What a pass of resolve stores. -/

section Store
variable {s : State} {vas : Long → Prop} {va : Long} (hu : s.undisturbed) (hs : s.storable va)
include hu hs

theorem store_stores (hva : vas va) (w : Word) : Runs (s.StoresIn vas) (store va w) (Answers () (s.StoresIn vas)) :=
  fun u h => by
    have hst := (h.storable (.of_undisturbed hu)).2 hs
    exact ⟨_, store_ok w ((State.Reading.storesIn s vas).undisturbed hu h) hst, h.storeWord hva hst.1 w⟩

theorem store_storesOnly (hw : Memory.wf s.mem = true) (w : Word) : Runs (s.StoresIn noWords) (store va w)
    (Answers () fun u => s.StoresIn (Eq va) u ∧ u.wordAt va = w) := fun u h => by
  have hst := (h.storable (.of_undisturbed hu)).2 hs
  have hmem : Memory.wf u.mem = true := by rw [(h.unstored fun _ => id).1]; exact hw
  exact ⟨_, store_ok w ((State.Reading.storesIn s noWords).undisturbed hu h) hst,
    (h.mono fun _ => False.elim).storeWord rfl hst.1 w, State.wordAt_storeWord_same hmem w hst.1⟩

end Store

/-! The instruction, from what its first pass ends in. -/

theorem State.MemoryOnly.result_popped {s u : State} {v : Option Suspension} (h : (s.popped v).MemoryOnly u) (ws : List Word) :
    u.result 0 ws [] = { s.result 0 ws [] with
      map := u.map, mem := u.mem, codeWrites := u.codeWrites, freeIndex := u.freeIndex, suspended := v } := by
  rw [h]
  rfl

section FirstPass
variable {s : State} {index bitPos printPos count ptr : Word} {vas : Long → Prop} {P : State → Prop} {t : TxtState}
  (hu : s.undisturbed) (hr : s.readableAll (s.recordAddresses ptr 13)) (h : s.holds 0 [index, bitPos, printPos, count, ptr])
  (hl : s.txtBltLegal ptr ⟨index, bitPos, printPos, count⟩) (hres : s.restartable ptr (s.record ptr 13))
  (hP : (s.popped (s.suspensionLeft ptr)).Reading vas P)
include hu hr h hl hres hP

/-- The first pass ends the scan. -/
theorem exec_txtblt_finishes {result : Word} (hpass : Runs ((s.popped (s.suspensionLeft ptr)).StoresIn noWords)
    (txtPass (txtBltArg (s.record ptr 13)) s.freeIndex ⟨index, bitPos, printPos, count⟩) (Answers (.finish t result) P)) :
    ∃ u, P u ∧ exec .txtblt s = .next (u.result 0 (t.words result) []) ∧
      (s.popped (s.suspensionLeft ptr)).MemoryOnly u := by
  have hu' : (s.popped (s.suspensionLeft ptr)).undisturbed := hu
  have h5 : 5 ≤ s.stack.length := State.holds_bound h
  obtain ⟨w, hm, u, hPu, rfl⟩ := txtLoop_finishes hP hu' rfl h5 hpass _ (State.atScan_storesIn hu hr)
  exact ⟨u, hPu, (exec_txtblt_atScan hu hr h hl hres).trans (complete_ok hm), (hP.stores u hPu).memoryOnly_of_undisturbed hu'⟩

/-- The first pass goes on, and an interrupt is pending. -/
theorem exec_txtblt_suspended (hpass : Runs ((s.popped (s.suspensionLeft ptr)).StoresIn noWords)
    (txtPass (txtBltArg (s.record ptr 13)) s.freeIndex ⟨index, bitPos, printPos, count⟩) (Answers (.advance t) P))
    (hp : interruptPending s = true) :
    ∃ u, P u ∧ exec .txtblt s = .next { u.result 0 (t.words ptr) [] with
        pc := s.savedPC, suspended := some ⟨s.savedPC, t.words ptr, ptr, s.record ptr 13⟩ } ∧
      (s.popped (s.suspensionLeft ptr)).MemoryOnly u := by
  have hu' : (s.popped (s.suspensionLeft ptr)).undisturbed := hu
  have h5 : 5 ≤ s.stack.length := State.holds_bound h
  obtain ⟨w, hm, u, hPu, rfl⟩ := txtLoop_suspended hP hu' rfl h5 hpass hp _ (State.atScan_storesIn hu hr)
  have hm' := (hP.stores u hPu).memoryOnly_of_undisturbed hu'
  have hpc : u.savedPC = s.savedPC := by rw [hm']; rfl
  refine ⟨u, hPu, (exec_txtblt_atScan hu hr h hl hres).trans ((complete_ok hm).trans ?_), hm'⟩
  rw [hpc]

/-- The first pass was that of the last character. -/
theorem exec_txtblt_lastCharacter (hpass : Runs ((s.popped (s.suspensionLeft ptr)).StoresIn noWords)
    (txtPass (txtBltArg (s.record ptr 13)) s.freeIndex ⟨index, bitPos, printPos, count⟩) (Answers (.advance t) P))
    (hp : interruptPending s = false) (hlast : (txtBltArg (s.record ptr 13)).last < t.index) (hpos : t.bitPos.toNat ≤ 32767) :
    ∃ u, P u ∧ exec .txtblt s = .next (u.result 0 (t.words 0) []) ∧
      (s.popped (s.suspensionLeft ptr)).MemoryOnly u := by
  have hu' : (s.popped (s.suspensionLeft ptr)).undisturbed := hu
  have h5 : 5 ≤ s.stack.length := State.holds_bound h
  have hloop := txtLoop_finishes (fuel := 65535) (ptr := ptr) hP hu' rfl h5 (txtPass_finish (fi := s.freeIndex) hpos hlast)
  obtain ⟨w, hm, u, hPu, rfl⟩ := txtLoop_advances hP hu' hpass hp hloop _ (State.atScan_storesIn hu hr)
  exact ⟨u, hPu, (exec_txtblt_atScan hu hr h hl hres).trans (complete_ok hm), (hP.stores u hPu).memoryOnly_of_undisturbed hu'⟩

/-! What is observed of it. -/

/-- The instruction completes with the words `ws` on the stack. -/
def State.txtBltEnds (s : State) (ptr : Word) (ws : List Word) (t : State) : Prop := exec .txtblt s = .next t ∧
  t = { s.result 0 ws [] with
    map := t.map, mem := t.mem, codeWrites := t.codeWrites, freeIndex := t.freeIndex, suspended := s.suspensionLeft ptr }

/-- The instruction is suspended with the operands `ws` and the argument pointer on the stack. -/
def State.txtBltSuspends (s : State) (ptr : Word) (ws : List Word) (t : State) : Prop := exec .txtblt s = .next t ∧
  t = { s.result 0 (ws ++ [ptr]) [] with
    map := t.map, mem := t.mem, codeWrites := t.codeWrites, freeIndex := t.freeIndex, pc := s.savedPC
    suspended := some ⟨s.savedPC, ws ++ [ptr], ptr, s.record ptr 13⟩ }

/-- `D` holds of every state that a scan may end in with its words in memory as `u` has them. -/
def State.determines (P D : State → Prop) : Prop :=
  ∀ u ws pc v, P u → D { u.result 0 ws [] with pc := pc, suspended := v }

section Outcomes
variable {D : State → Prop} (hD : State.determines P D)
include hD

theorem txtBlt_ends_of_finish {result : Word} (hpass : Runs ((s.popped (s.suspensionLeft ptr)).StoresIn noWords)
    (txtPass (txtBltArg (s.record ptr 13)) s.freeIndex ⟨index, bitPos, printPos, count⟩) (Answers (.finish t result) P)) :
    ∃ u, s.txtBltEnds ptr (t.words result) u ∧ D u := by
  obtain ⟨u, hPu, hexec, hm⟩ := exec_txtblt_finishes hu hr h hl hres hP hpass
  exact ⟨_, ⟨hexec, hm.result_popped _⟩, hD u (t.words _) u.pc u.suspended hPu⟩

theorem txtBlt_suspends_of_advance (hpass : Runs ((s.popped (s.suspensionLeft ptr)).StoresIn noWords)
    (txtPass (txtBltArg (s.record ptr 13)) s.freeIndex ⟨index, bitPos, printPos, count⟩) (Answers (.advance t) P))
    (hp : interruptPending s = true) {ws : List Word} (hws : t.words ptr = ws ++ [ptr]) :
    ∃ u, s.txtBltSuspends ptr ws u ∧ D u := by
  obtain ⟨u, hPu, hexec, hm⟩ := exec_txtblt_suspended hu hr h hl hres hP hpass hp
  rw [hws] at hexec
  refine ⟨_, ⟨hexec, ?_⟩, hD u _ _ _ hPu⟩
  rw [hm.result_popped]

theorem txtBlt_ends_of_last (hpass : Runs ((s.popped (s.suspensionLeft ptr)).StoresIn noWords)
    (txtPass (txtBltArg (s.record ptr 13)) s.freeIndex ⟨index, bitPos, printPos, count⟩) (Answers (.advance t) P))
    (hp : interruptPending s = false) (hlast : (txtBltArg (s.record ptr 13)).last < t.index) (hpos : t.bitPos.toNat ≤ 32767) :
    ∃ u, s.txtBltEnds ptr (t.words 0) u ∧ D u := by
  obtain ⟨u, hPu, hexec, hm⟩ := exec_txtblt_lastCharacter hu hr h hl hres hP hpass hp hlast hpos
  exact ⟨_, ⟨hexec, hm.result_popped _⟩, hD u (t.words _) u.pc u.suspended hPu⟩

/-- The character at the index: a stop character, at the margin, or processed. -/
theorem txtBlt_looks (hf : justifies (txtBltArg (s.record ptr 13)).function = decide ((txtBltArg (s.record ptr 13)).function ≠ .format))
    (hpass : Runs ((s.popped (s.suspensionLeft ptr)).StoresIn noWords)
      (txtPass (txtBltArg (s.record ptr 13)) s.freeIndex ⟨index, bitPos, printPos, count⟩)
      (Answers (s.passOutcome (txtBltArg (s.record ptr 13)) ⟨index, bitPos, printPos, count⟩) P)) :
    let a := txtBltArg (s.record ptr 13)
    let v := s.characterAt a index
    let stop := v.flags.getLsbD 6
    let same : List Word := [index, bitPos, printPos, count]
    let next := v.after a index bitPos printPos count
    let goesOn : Prop := s.cfg.txtbltMarginAll = true ∨ a.function = .format → (printPos + v.printing).toNat ≤ a.margin.toNat
    (stop = true → ∃ t, s.txtBltEnds ptr (same ++ [2]) t ∧ D t) ∧
    (stop = false → ¬ goesOn → ∃ t, s.txtBltEnds ptr (same ++ [1]) t ∧ D t) ∧
    (stop = false → goesOn →
      (interruptPending s = true → ∃ t, s.txtBltSuspends ptr next t ∧ D t) ∧
      (interruptPending s = false → index = a.last → index ≠ 0xFFFF → (next.getD 1 0).toNat ≤ 32767 →
        ∃ t, s.txtBltEnds ptr (next ++ [0]) t ∧ D t)) := by
  intro a v stop same next goesOn
  have hwords (data : Word) : (s.afterPass a ⟨index, bitPos, printPos, count⟩).words data = next ++ [data] := s.afterPass_words hf data
  refine ⟨fun hstop => ?stop, fun hstop hends => ?margin, fun hstop hgoes => ?goes⟩
  case stop =>
    have houtcome : s.passOutcome a ⟨index, bitPos, printPos, count⟩ = _ := State.passOutcome_stop hstop
    rw [houtcome] at hpass
    exact txtBlt_ends_of_finish hu hr h hl hres hP hD hpass
  case margin =>
    obtain ⟨hm, hover⟩ := Classical.not_imp.1 hends
    have houtcome : s.passOutcome a ⟨index, bitPos, printPos, count⟩ = _ :=
      State.passOutcome_margin hstop (by simpa [marginApplies] using hm) (Nat.not_le.1 hover)
    rw [houtcome] at hpass
    exact txtBlt_ends_of_finish hu hr h hl hres hP hD hpass
  case goes =>
    have houtcome : s.passOutcome a ⟨index, bitPos, printPos, count⟩ = _ :=
      State.passOutcome_goesOn (State.endsAt_eq_false hstop hgoes)
    rw [houtcome] at hpass
    refine ⟨fun hp => txtBlt_suspends_of_advance hu hr h hl hres hP hD hpass hp (hwords ptr), fun hp hlast hmax hpos => ?_⟩
    have hindex : a.last < index + 1 := by rw [← hlast]; bv_omega
    have hbit := congrArg (fun ws : List Word => (ws.getD 1 0).toNat) (hwords 0)
    have hends := txtBlt_ends_of_last hu hr h hl hres hP hD hpass hp hindex (hbit.le.trans hpos)
    rwa [hwords] at hends

end Outcomes

end FirstPass

/-! The first pass of each function. -/

section Functions
variable {s : State} {vas : Long → Prop} {a : TxtBltArg} {t : TxtState} {v : Option Suspension}

theorem State.passOutcome_popped : (s.popped v).passOutcome a t = s.passOutcome a t := rfl

theorem State.characterWords_popped (index : Word) : (s.popped v).characterWords a index = s.characterWords a index := rfl

variable (hu : s.undisturbed) (hpos : t.bitPos.toNat ≤ 32767) (hlast : t.index.toNat ≤ a.last.toNat)
  (hr : ∀ va ∈ s.characterWords a t.index, s.readable va)
include hu hpos hlast hr

theorem txtPass_format (hf : a.function = .format) : Runs ((s.popped v).StoresIn noWords) (txtPass a s.freeIndex t)
    (Answers (s.passOutcome a t) ((s.popped v).StoresIn noWords)) := by
  have hu' : (s.popped v).undisturbed := hu
  have hscan : (s.popped v).Scannable noWords a t := .of_words fun va hva =>
    ⟨hr va (by rwa [State.characterWords_popped] at hva), State.spared_noWords _ _⟩
  have hlook := txtLook_loads (State.Reading.storesIn _ _) hu' hscan (by simp [hf])
  rw [State.passOutcome_popped] at hlook
  exact txtPass_looks hpos hlast (by simp [hf]) (fun _ _ => id) hlook

theorem txtPass_resolve (hf : a.function = .resolve) (hwf : Memory.wf s.mem = true) (hs : s.storable (a.coord + lengthen t.index))
    (hd : ∀ va ∈ s.characterWords a t.index, s.realAddress va ≠ s.realAddress (a.coord + lengthen t.index)) :
    Runs ((s.popped v).StoresIn noWords) (txtPass a s.freeIndex t) (Answers (s.passOutcome a t) fun u =>
      (s.popped v).StoresIn (Eq (a.coord + lengthen t.index)) u ∧ u.wordAt (a.coord + lengthen t.index) = t.bitPos) := by
  have hu' : (s.popped v).undisturbed := hu
  have hscan : (s.popped v).Scannable (Eq (a.coord + lengthen t.index)) a t := .of_words fun va hva =>
    ⟨hr va (by rwa [State.characterWords_popped] at hva), by
      rintro _ rfl
      exact (hd va (by rwa [State.characterWords_popped] at hva)).symm⟩
  have hlook := txtLook_loads (State.Reading.withWord _ _ (a.coord + lengthen t.index) t.bitPos) hu' hscan (by simp [hf])
  rw [State.passOutcome_popped] at hlook
  exact txtPass_looks hpos hlast (fun _ => store_storesOnly hu' hs hwf _) (by simp [hf]) hlook

end Functions

/-- Settles O55: each case is what the first pass ends in, resolve after the store of the position. -/
theorem txtBltFormatAndResolve : Obligations.TxtBltFormatAndResolve := by
  unfold Obligations.TxtBltFormatAndResolve
  intro s index bitPos printPos count ptr hu h hw hrec hl hres hpacked a v looks stop same next fits goesOn ends suspends
    storesNothing storesCoord hpos
  let t : TxtState := ⟨index, bitPos, printPos, count⟩
  have reads {va : Long} (ho : s.isOverhead va = false) : s.readable va := ⟨(hw va).1, ho⟩
  have hr : s.readableAll (s.recordAddresses ptr 13) := fun va hva => reads (hrec va hva)
  refine ⟨fun hf => ?format, fun hf hwf hs hd => ?resolve⟩
  case format =>
    have hP := State.Reading.storesIn (s.popped (s.suspensionLeft ptr)) noWords
    have hD : State.determines ((s.popped (s.suspensionLeft ptr)).StoresIn noWords) storesNothing :=
      fun u _ _ _ hPu => hPu.unstored fun _ => id
    have hlooks (hc : looks) := txtBlt_looks hu hr h hl hres hP hD (by rw [hf]; rfl)
      (txtPass_format (t := t) hu hpos hc.1 (fun va hva => reads (hc.2 va hva)) hf)
    refine ⟨fun hlast => ?_, fun hc => (hlooks hc).1, fun hc hstop hfits => (hlooks hc).2.1 hstop fun hg => hfits (hg (.inr hf)),
      fun hc hstop hfits => (hlooks hc).2.2 hstop fun _ => hfits⟩
    exact txtBlt_ends_of_finish hu hr h hl hres hP hD (txtPass_finish (t := t) hpos hlast)
  case resolve =>
    have hP := State.Reading.withWord (s.popped (s.suspensionLeft ptr)) (Eq (a.coord + lengthen index)) (a.coord + lengthen index) bitPos
    have hD : State.determines (fun u => (s.popped (s.suspensionLeft ptr)).StoresIn (Eq (a.coord + lengthen index)) u ∧
        u.wordAt (a.coord + lengthen index) = bitPos) storesCoord := fun u _ _ _ hPu =>
      ⟨hPu.2, fun x hx => hPu.1.bytes x fun va hva => hva ▸ hx⟩
    have hlooks (hc : looks) := txtBlt_looks hu hr h hl hres hP hD (by rw [hf]; rfl)
      (txtPass_resolve (t := t) hu hpos hc.1 (fun va hva => reads (hc.2 va hva)) hf hwf hs hd)
    exact ⟨fun hc => (hlooks hc).1, fun hc => (hlooks hc).2.1, fun hc => (hlooks hc).2.2⟩

end Sys2Proof.Machine
end

section
/-! SUPPORT. The states that a scan of TXTBLT comes to: what a legal argument says of the words that they read and store to, and how far
their positions go (47_bitblt_txtblt.md R604, R605; log 39). -/

namespace Sys2Proof.Machine

/-! Operands apart. -/

theorem meets_word {r : WordRange} {vb : Long} (h : r.meets ⟨vb, 1⟩ = false) {k : Nat} (hk : k < r.count) :
    r.first + BitVec.ofNat 32 k ≠ vb := by
  rintro rfl
  simp [WordRange.meets] at h
  have := Nat.mod_le k 4294967296
  omega

theorem operandsMeet_pairwise {os : List (List OperandPart)} (h : operandsMeet os = false) :
    os.Pairwise fun o o' => ∀ p ∈ o, ∀ q ∈ o', p.words.meets q.words = false := by
  induction os with
  | nil => exact .nil
  | cons o os ih =>
    simp only [operandsMeet, Bool.or_eq_false_iff, List.any_eq_false] at h
    refine .cons (fun o' ho' p hp q hq => ?_) (ih h.2)
    have hmeet := h.1 o' ho'
    simp only [List.any_eq_true, not_exists, not_and, Bool.not_eq_true] at hmeet
    exact hmeet p hp q hq

/-- A state that the scan from `t` on comes to, at a character within `last`. -/
def State.looksIn (s : State) (a : TxtBltArg) (t u : TxtState) : Prop := u ∈ s.txtStates a txtBltFuel t ∧ u.index.toNat ≤ a.last.toNat

section Apart
variable {s : State} {ptr : Word} {a : TxtBltArg} {t u u' : TxtState}

/-- The font and the text that a scan of resolve reads are not what it stores to. -/
theorem State.coord_apart (h : s.txtBltMemoryError ptr a t = false) (hf : a.function = .resolve) (hu : s.looksIn a t u)
    (hu' : s.looksIn a t u') {p : OperandPart} (hp : p = fontRecordPart a ∨ p ∈ s.fontParts a u ∨ p = textPart a u) :
    p.words.meets ⟨a.coord + lengthen u'.index, 1⟩ = false := by
  have hlooked {w : TxtState} (hw : s.looksIn a t w) : w ∈ (s.txtStates a txtBltFuel t).filter fun u => decide (u.index ≤ a.last) :=
    List.mem_filter.2 ⟨hw.1, decide_eq_true hw.2⟩
  have hu := hlooked hu
  have hu' := hlooked hu'
  simp only [State.txtBltMemoryError, Bool.or_eq_false_iff] at h
  generalize (s.txtStates a txtBltFuel t).filter _ = looked at h hu hu'
  have hpairs := operandsMeet_pairwise h.1
  simp only [List.pairwise_cons, hf, if_true] at hpairs
  obtain ⟨-, hfont, htext, -⟩ := hpairs
  have hcoord : wordPart a.coord (lengthen u'.index) ∈ looked.map fun u => wordPart a.coord (lengthen u.index) :=
    List.mem_map_of_mem hu'
  suffices hmeets : p.words.meets (wordPart a.coord (lengthen u'.index)).words = false from hmeets
  rcases hp with hp | hp | hp
  · exact hfont _ (by simp) p (by simp [hp]) _ hcoord
  · exact hfont _ (by simp) p (List.mem_cons_of_mem _ (List.mem_flatMap.2 ⟨u, hu, hp⟩)) _ hcoord
  · exact htext _ (by simp) p (hp ▸ List.mem_map_of_mem hu) _ hcoord

end Apart

/-! A scan with every page mapped. -/

/-- The words that a scan of `a` from `t` on stores to. -/
def State.scanStores (s : State) (a : TxtBltArg) (t : TxtState) (va : Long) : Prop :=
  a.function = .resolve ∧ ∃ u, s.looksIn a t u ∧ va = a.coord + lengthen u.index

section Mapped
variable {s : State} {a : TxtBltArg} {t u : TxtState} (hm : ∀ p, s.mapped p = true)
include hm

theorem State.passesAt_iff :
    s.passesAt a u = true ↔ u.index.toNat ≤ a.last.toNat ∧ s.endsAt a u (s.characterAt a u.index) = false := by
  simp [State.passesAt, State.processesAt, State.seesFlags, State.seesCharacter, hm, BitVec.le_def]

theorem State.flagsPart_mem (hu : u.index.toNat ≤ a.last.toNat) (hf : s.cfg.fontFormat = .packed) :
    wordPart (s.longAt (a.font + 6)) (lengthen ((s.characterAt a u.index).char >>> 1)) ∈ s.fontParts a u := by
  simp [State.fontParts, State.seesCharacter, State.flagsParts, hm, hf, BitVec.le_def, hu]

theorem State.printingPart_mem (hu : u.index.toNat ≤ a.last.toNat) (hs : (fontFlags (s.characterAt a u.index).flags).stop = false) :
    s.printingPart a (s.characterAt a u.index) ∈ s.fontParts a u := by
  simp [State.fontParts, State.seesFlags, State.seesCharacter, hm, BitVec.le_def, hu, hs]

theorem State.spacingPart_mem (hu : u.index.toNat ≤ a.last.toNat) (hs : s.endsAt a u (s.characterAt a u.index) = false) :
    s.spacingPart a (s.characterAt a u.index) ∈ s.fontParts a u := by
  simp [State.fontParts, State.processesAt, State.seesFlags, State.seesCharacter, hm, BitVec.le_def, hu, hs]

end Mapped

section Scan
variable {s : State} {ptr : Word} {a : TxtBltArg} {t u : TxtState}

/-- A legal argument's scan can read what each of its passes looks at. -/
theorem State.looksIn.scannable (hm : ∀ p, s.mapped p = true) (hl : s.txtBltMemoryError ptr a t = false)
    (hinj : a.function = .resolve → ∀ va vb, s.realAddress va = s.realAddress vb → va = vb)
    (hu : s.looksIn a t u) (hr : ∀ va ∈ s.characterWords a u.index, s.readable va) : s.Scannable (s.scanStores a t) a u := by
  have hspared {va : Long} {p : OperandPart} {k : Nat} (hp : p = fontRecordPart a ∨ p ∈ s.fontParts a u ∨ p = textPart a u)
      (hk : k < p.words.count) (hva : p.words.first + BitVec.ofNat 32 k = va) : s.spared (s.scanStores a t) va := by
    rintro _ ⟨hf, u', hu', rfl⟩ heq
    exact meets_word (State.coord_apart hl hf hu hu' hp) hk (hva.trans (hinj hf _ _ heq).symm)
  have hfont (k : Nat) (hk : k < 11) : s.spared (s.scanStores a t) (a.font + BitVec.ofNat 32 k) :=
    hspared (p := fontRecordPart a) (k := k) (.inl rfl) hk rfl
  have hword {base n : Long} (hp : wordPart base n ∈ s.fontParts a u ∨ wordPart base n = textPart a u) :
      s.spared (s.scanStores a t) (base + n) :=
    hspared (p := wordPart base n) (k := 0) (.inr hp) Nat.one_pos (BitVec.add_zero (base + n))
  exact
    { font := fun k hk => ⟨hr _ (s.fontWord_mem a u.index hk), hfont k hk⟩
      text := ⟨hr _ (s.characterWord_mem a u.index (.head _)), hword (.inr rfl)⟩
      spacing := fun hs => ⟨hr _ (s.characterWord_mem a u.index (.tail _ (.head _))),
        hword (.inl (State.spacingPart_mem hm hu.2 hs))⟩
      printing := fun hs => ⟨hr _ (s.characterWord_mem a u.index (.tail _ (.tail _ (.head _)))),
        hword (.inl (State.printingPart_mem hm hu.2 hs))⟩
      flags := fun hf => ⟨hr _ (s.characterWord_mem a u.index (.tail _ (.tail _ (.tail _ (.head _))))),
        hword (.inl (State.flagsPart_mem hm hu.2 hf))⟩ }

/-- The states that the scan comes to after its first pass. -/
theorem State.txtStates_succ (hm : ∀ p, s.mapped p = true) (n : Nat) : s.txtStates a (n + 1) t =
    t :: if t.index.toNat ≤ a.last.toNat ∧ s.endsAt a t (s.characterAt a t.index) = false then s.txtStates a n (s.afterPass a t)
      else [] := by
  have hpasses := State.passesAt_iff hm (a := a) (u := t)
  rw [State.txtStates]
  by_cases hp : s.passesAt a t = true
  · rw [if_pos hp, if_pos (hpasses.1 hp)]; rfl
  · rw [if_neg hp, if_neg (mt hpasses.2 hp)]

/-- What holds of the first state, and of the next one with each, holds of all that the scan comes to. -/
theorem State.txtStates_induct (hm : ∀ p, s.mapped p = true) {I : TxtState → Prop}
    (hstep : ∀ t, I t → t.index.toNat ≤ a.last.toNat → I (s.afterPass a t)) (n : Nat) (ht : I t) :
    ∀ u ∈ s.txtStates a n t, I u := by
  induction n generalizing t with
  | zero => exact fun u hu => (List.not_mem_nil hu).elim
  | succ n ih =>
    rw [State.txtStates_succ hm]
    intro u hu
    rcases List.mem_cons.1 hu with rfl | hu
    · exact ht
    · split at hu
      · exact ih (hstep t ht (by tauto)) u hu
      · exact (List.not_mem_nil hu).elim

theorem State.txtStates_index (hm : ∀ p, s.mapped p = true) (n : Nat) :
    ∀ u ∈ s.txtStates a n t, t.index.toNat ≤ u.index.toNat ∨ a.last = 0xFFFF := by
  have hstep (u : TxtState) (hu : t.index.toNat ≤ u.index.toNat ∨ a.last = 0xFFFF) (hlast : u.index.toNat ≤ a.last.toNat) :
      t.index.toNat ≤ (s.afterPass a u).index.toNat ∨ a.last = 0xFFFF := by
    have hindex : (s.afterPass a u).index = u.index + 1 := rfl
    rw [hindex]
    bv_omega
  exact State.txtStates_induct hm hstep n (.inl le_rfl)

/-- A character moves the bit position by at most 256 and `space`. -/
theorem State.afterPass_bitPos_le (s : State) (a : TxtBltArg) (t : TxtState) :
    (s.afterPass a t).bitPos.toNat ≤ t.bitPos.toNat + (256 + a.space.toNat) := by
  have hspacing : (s.characterAt a t.index).spacing.toNat < 256 := by
    show (BitVec.setWidth 16 _ : Word).toNat < 256
    rw [BitVec.toNat_setWidth]
    exact (Nat.mod_le _ _).trans_lt (BitVec.isLt _)
  simp only [State.afterPass, txtAfter, padState]
  cases (fontFlags (s.characterAt a t.index).flags).pad with
  | false => simp only [Bool.false_eq_true, if_false]; bv_omega
  | true =>
    cases justifies a.function with
    | false => simp only [Bool.false_eq_true, if_false, if_true]; bv_omega
    | true => simp only [if_true]; split <;> bv_omega

theorem State.txtStates_bitPos (hm : ∀ p, s.mapped p = true) (hlast : a.last ≠ 0xFFFF)
    (h : t.bitPos.toNat + (256 + a.space.toNat) * (a.last.toNat + 1 - t.index.toNat) ≤ 32767) (n : Nat) :
    ∀ u ∈ s.txtStates a n t, u.bitPos.toNat ≤ 32767 := by
  have hstep (u : TxtState) (hu : u.bitPos.toNat + (256 + a.space.toNat) * (a.last.toNat + 1 - u.index.toNat) ≤ 32767)
      (hi : u.index.toNat ≤ a.last.toNat) : (s.afterPass a u).bitPos.toNat +
        (256 + a.space.toNat) * (a.last.toNat + 1 - (s.afterPass a u).index.toNat) ≤ 32767 := by
    have hindex : (s.afterPass a u).index.toNat = u.index.toNat + 1 := by
      have : (s.afterPass a u).index = u.index + 1 := rfl
      bv_omega
    have hleft : a.last.toNat + 1 - u.index.toNat = a.last.toNat + 1 - (u.index.toNat + 1) + 1 := by omega
    have hbit := s.afterPass_bitPos_le a u
    rw [hleft, Nat.mul_succ] at hu
    rw [hindex]
    omega
  intro u hu
  have := State.txtStates_induct hm hstep n h u hu
  omega

end Scan

end Sys2Proof.Machine
end

section
/-! TXTBLT in the format and the resolve function from its first character to its end, and a fault at the first character: O54
(47_bitblt_txtblt.md R605, R606; 60_exceptions.md R683, R688). -/

namespace Sys2Proof.Machine

/-! The scan. -/

/-- The state `t` of a scan is one whose pass is made: its position is in range, its words can be read, and its entry be stored to. -/
structure State.PassReady (s : State) (vas : Long → Prop) (a : TxtBltArg) (t : TxtState) : Prop where
  bitPos : t.bitPos.toNat ≤ 32767
  scannable : t.index.toNat ≤ a.last.toNat → s.Scannable vas a t
  entry : t.index.toNat ≤ a.last.toNat → a.function = .resolve →
    vas (a.coord + lengthen t.index) ∧ s.storable (a.coord + lengthen t.index)

/-- What a completed scan answers, from a state `u` that it has come to: a result of at most 2 with the operands, or more to scan. -/
def scanCompletes (ptr : Word) (record : List Word) (fi : Nat) (u w : State) : Prop :=
  (∃ (t : TxtState) (r : Word), r.toNat ≤ 2 ∧ w = u.result 0 (t.words r) []) ∨
    (txtBltArg record).last = 0xFFFF ∧ ∃ t, w = { u with scan := some ⟨ptr, record, t, fi⟩ }

section Scan
variable {s : State} {v : Option Suspension} {vas : Long → Prop}

theorem State.Scannable.popped {a : TxtBltArg} {t : TxtState} (h : s.Scannable vas a t) : (s.popped v).Scannable vas a t :=
  ⟨h.font, h.text, h.flags, h.printing, h.spacing⟩

theorem txtPass_ready {a : TxtBltArg} {t : TxtState} (hu : s.undisturbed) (hf : a.function ≠ .display) (h : s.PassReady vas a t)
    (hlast : t.index.toNat ≤ a.last.toNat) : Runs ((s.popped v).StoresIn vas) (txtPass a s.freeIndex t)
    (Answers (s.passOutcome a t) ((s.popped v).StoresIn vas)) := by
  have hu' : (s.popped v).undisturbed := hu
  have hlook := txtLook_loads (State.Reading.storesIn _ _) hu' ((h.scannable hlast).popped (v := v)) hf
  rw [State.passOutcome_popped] at hlook
  refine txtPass_looks h.bitPos hlast (fun hr => ?_) (fun _ _ => id) hlook
  obtain ⟨hva, hst⟩ := h.entry hlast hr
  exact store_stores hu' hst hva _

/-- The scan from `t` on: either its passes suffice or its last index is the largest there is. -/
theorem txtLoop_completes (hq : s.quiet) (h5 : 5 ≤ s.stack.length) (hm : ∀ p, s.mapped p = true) {ptr : Word} {record : List Word}
    (hf : (txtBltArg record).function ≠ .display) (n : Nat) {t : TxtState}
    (hn : (txtBltArg record).last = 0xFFFF ∨ (txtBltArg record).last.toNat + 1 - t.index.toNat < n)
    (h : ∀ u ∈ s.txtStates (txtBltArg record) n t, s.PassReady vas (txtBltArg record) u) :
    Runs ((s.popped v).StoresIn vas) (txtLoop ptr record s.freeIndex n t)
      (Answers () fun w => ∃ u, (s.popped v).StoresIn vas u ∧ scanCompletes ptr record s.freeIndex u w) := by
  have hP := State.Reading.storesIn (s.popped v) vas
  have hu' : (s.popped v).undisturbed := hq.2
  induction n generalizing t with
  | zero => exact fun u hu => ⟨_, rfl, u, hu, .inr ⟨hn.resolve_right (Nat.not_lt_zero _), t, rfl⟩⟩
  | succ n ih =>
    have finishes {r : Word} (hr : r.toNat ≤ 2) (hpass : Runs ((s.popped v).StoresIn vas) (txtPass (txtBltArg record) s.freeIndex t)
        (Answers (.finish t r) ((s.popped v).StoresIn vas))) :
        Runs ((s.popped v).StoresIn vas) (txtLoop ptr record s.freeIndex (n + 1) t)
          (Answers () fun w => ∃ u, (s.popped v).StoresIn vas u ∧ scanCompletes ptr record s.freeIndex u w) := fun w hw => by
      obtain ⟨x, hx, u, hu, rfl⟩ := txtLoop_finishes hP hu' rfl h5 (fuel := n) (ptr := ptr) hpass w hw
      exact ⟨_, hx, u, hu, .inl ⟨t, r, hr, rfl⟩⟩
    rw [State.txtStates_succ hm] at h
    have hready := h t List.mem_cons_self
    by_cases hlast : t.index.toNat ≤ (txtBltArg record).last.toNat
    swap
    · exact finishes (r := 0) (by decide) (txtPass_finish hready.bitPos (Nat.not_le.1 hlast))
    have hpass := txtPass_ready (v := v) hq.2 hf hready hlast
    cases hends : s.endsAt (txtBltArg record) t (s.characterAt (txtBltArg record) t.index) with
    | true =>
      rw [State.passOutcome, if_pos hends] at hpass
      exact finishes (by split <;> decide) hpass
    | false =>
      rw [State.passOutcome_goesOn hends] at hpass
      rw [if_pos ⟨hlast, hends⟩] at h
      have hnext : (txtBltArg record).last = 0xFFFF ∨
          (txtBltArg record).last.toNat + 1 - (s.afterPass (txtBltArg record) t).index.toNat < n := by
        have hindex : (s.afterPass (txtBltArg record) t).index = t.index + 1 := rfl
        rw [hindex]
        bv_omega
      exact txtLoop_advances hP hu' hpass hq.1 (ih hnext fun u hu => h u (List.mem_cons_of_mem _ hu))

end Scan

/-! The instruction. -/

section Completes
variable {s : State} {index bitPos printPos count ptr : Word} (hq : s.quiet)
  (h : s.holds 0 [index, bitPos, printPos, count, ptr]) (hw : ∀ va, s.writable va)
  (hc : s.clear (s.scanWords ptr ⟨index, bitPos, printPos, count⟩)) (hl : s.txtBltLegal ptr ⟨index, bitPos, printPos, count⟩)
  (hres : s.restartable ptr (s.record ptr 13))
include hw

theorem State.mapped_of_writable (p : OperandPart) : s.mapped p = true := by
  rw [State.mapped, (hw _).1.1]
  rfl

theorem State.positionsFit.bitPos_le {a : TxtBltArg} {t : TxtState} (h : s.positionsFit a t) :
    ∀ u ∈ s.txtStates a txtBltFuel t, u.bitPos.toNat ≤ 32767 := by
  rcases h with ⟨-, h⟩ | ⟨hlast, h⟩
  · exact h
  · exact State.txtStates_bitPos (State.mapped_of_writable hw) hlast h _

include hc hl in
theorem State.txtStates_passReady
    (hfit : s.positionsFit (txtBltArg (s.record ptr 13)) ⟨index, bitPos, printPos, count⟩)
    (hr : (txtBltArg (s.record ptr 13)).function = .resolve → (∀ va vb, s.realAddress va = s.realAddress vb → va = vb) ∧
      ∀ i : Word, i.toNat ≤ (txtBltArg (s.record ptr 13)).last.toNat →
        (index.toNat ≤ i.toNat ∨ (txtBltArg (s.record ptr 13)).last = 0xFFFF) →
        s.storable ((txtBltArg (s.record ptr 13)).coord + i.setWidth 32)) :
    ∀ u ∈ s.txtStates (txtBltArg (s.record ptr 13)) txtBltFuel ⟨index, bitPos, printPos, count⟩,
      s.PassReady (s.scanStores (txtBltArg (s.record ptr 13)) ⟨index, bitPos, printPos, count⟩) (txtBltArg (s.record ptr 13)) u := by
  obtain ⟨-, -, hmem⟩ := hl
  have hm := State.mapped_of_writable hw
  intro u hu
  have hreads (hlast : u.index.toNat ≤ (txtBltArg (s.record ptr 13)).last.toNat) :
      ∀ va ∈ s.characterWords (txtBltArg (s.record ptr 13)) u.index, s.readable va := fun va hva =>
    ⟨(hw va).1, hc va (List.mem_append_right _ (List.mem_flatMap.2 ⟨u, List.mem_filter.2 ⟨hu, decide_eq_true hlast⟩, hva⟩))⟩
  exact
    { bitPos := hfit.bitPos_le hw u hu
      scannable := fun hlast => State.looksIn.scannable hm hmem (fun hf => (hr hf).1) ⟨hu, hlast⟩ (hreads hlast)
      entry := fun hlast hf => ⟨⟨hf, u, ⟨hu, hlast⟩, rfl⟩, (hr hf).2 u.index hlast (State.txtStates_index hm _ u hu)⟩ }

include hq h hc hl hres in
theorem txtBlt_completes (hfit : s.positionsFit (txtBltArg (s.record ptr 13)) ⟨index, bitPos, printPos, count⟩)
    (hf : (txtBltArg (s.record ptr 13)).function ≠ .display)
    (hr : (txtBltArg (s.record ptr 13)).function = .resolve → (∀ va vb, s.realAddress va = s.realAddress vb → va = vb) ∧
      ∀ i : Word, i.toNat ≤ (txtBltArg (s.record ptr 13)).last.toNat →
        (index.toNat ≤ i.toNat ∨ (txtBltArg (s.record ptr 13)).last = 0xFFFF) →
        s.storable ((txtBltArg (s.record ptr 13)).coord + i.setWidth 32)) :
    ∃ u w, (s.popped (s.suspensionLeft ptr)).MemoryOnly u ∧ exec .txtblt s = .next w ∧
      scanCompletes ptr (s.record ptr 13) s.freeIndex u w := by
  have hu' : (s.popped (s.suspensionLeft ptr)).undisturbed := hq.2
  have hread : s.readableAll (s.recordAddresses ptr 13) := fun va hva => ⟨(hw va).1, hc va (List.mem_append_left _ hva)⟩
  have hn : (txtBltArg (s.record ptr 13)).last = 0xFFFF ∨ (txtBltArg (s.record ptr 13)).last.toNat + 1 - index.toNat < txtBltFuel := by
    have := (txtBltArg (s.record ptr 13)).last.isLt
    simp only [txtBltFuel]
    omega
  have hloop := txtLoop_completes (v := s.suspensionLeft ptr) (ptr := ptr) hq (State.holds_bound h) (State.mapped_of_writable hw) hf
    txtBltFuel hn (State.txtStates_passReady hw hc hl hfit hr)
  obtain ⟨w, hm, u, hu, hw'⟩ := hloop _ ((State.atScan_storesIn hq.2 hread).mono fun _ => False.elim)
  exact ⟨u, w, hu.memoryOnly_of_undisturbed hu', (exec_txtblt_atScan hq.2 hread h hl hres).trans (complete_ok hm), hw'⟩

end Completes

/-! A fault at the first character. -/

section Faults
variable {s : State} {index bitPos printPos count ptr : Word} (hu : s.undisturbed)
  (h : s.holds 0 [index, bitPos, printPos, count, ptr]) (hr : s.readableAll (s.recordAddresses ptr 13))
  (hl : s.txtBltLegal ptr ⟨index, bitPos, printPos, count⟩) (hres : s.restartable ptr (s.record ptr 13))
include hu h hr hl hres

/-- The first pass is abandoned. -/
theorem exec_txtblt_faults {e : Exception} {u : State} (hpass : txtPass (txtBltArg (s.record ptr 13)) s.freeIndex
      ⟨index, bitPos, printPos, count⟩ (s.atScan ptr) = .error (.exception e) u) :
    exec .txtblt s = .next (takeException e u) :=
  (exec_txtblt_atScan hu hr h hl hres).trans (complete_exception (bind_error hpass))

end Faults

section Fault
variable {a : TxtBltArg} {t : TxtState} {u w : State} {e : Exception} (fi : Nat) (hpos : t.bitPos.toNat ≤ 32767)
  (hlast : t.index.toNat ≤ a.last.toNat)

theorem txtLook_faults (h : fetch (a.text + lengthen (t.index >>> 1)) u = .error (.exception e) u) :
    txtLook a fi t u = .error (.exception e) u := bind_error (bind_error h)

include hpos hlast

theorem txtPass_text_faults (hf : a.function ≠ .resolve) (h : fetch (a.text + lengthen (t.index >>> 1)) u = .error (.exception e) u) :
    txtPass a fi t u = .error (.exception e) u := by
  rw [txtPass_eq fi hpos hlast, if_neg hf, txtLook_faults fi h]

theorem txtPass_store_faults (hf : a.function = .resolve)
    (h : store (a.coord + lengthen t.index) t.bitPos u = .error (.exception e) u) : txtPass a fi t u = .error (.exception e) u := by
  rw [txtPass_eq fi hpos hlast, if_pos hf, bind_error h]

theorem txtPass_stored_faults (hf : a.function = .resolve) (hs : store (a.coord + lengthen t.index) t.bitPos u = .ok () w)
    (h : fetch (a.text + lengthen (t.index >>> 1)) w = .error (.exception e) w) : txtPass a fi t u = .error (.exception e) w := by
  rw [txtPass_eq fi hpos hlast, if_pos hf, bind_ok hs, txtLook_faults fi h]

end Fault

section TakeException
variable {u : State} {v : Option Suspension} (k : FaultKind) (va : Long)

theorem takeException_popped : takeException (.fault k va) (u.popped v) = takeException (.fault k va) { u with suspended := v } := rfl

/-- A word stored with the operands popped, once the operands are on the stack again. -/
theorem takeException_popped_storeWord (vb : Long) (w : Word) : takeException (.fault k va) ((u.popped v).storeWord vb w) =
    takeException (.fault k va) (({ u with suspended := v } : State).storeWord vb w) := by
  have hstore : (u.popped v).storeWord vb w = (u.popped v).withMemory (({ u with suspended := v } : State).storeWord vb w) :=
    State.storeWord_withMemory (s := u.popped v) (u := { u with suspended := v }) rfl rfl vb w
  rw [hstore, State.MemoryOnly.storeWord { u with suspended := v } vb w]
  rfl

end TakeException

/-- Settles O54: the scan by induction on its bound, its passes made in the states that `txtStates` lists; a fault of the first pass. -/
theorem txtBltCompletes : Obligations.TxtBltCompletes := by
  unfold Obligations.TxtBltCompletes
  refine ⟨?completes, ?faults⟩
  case completes =>
    intro s index bitPos printPos count ptr hq h hw hc hl hres a hfit hf hr
    have h5 : 5 ≤ s.stack.length := State.holds_bound h
    obtain ⟨u, w, hm, hexec, hw'⟩ := txtBlt_completes hq h hw hc hl hres hfit hf fun hf => (hr hf).2
    refine ⟨w, hexec, ?_⟩
    rcases hw' with ⟨t, r, hr, rfl⟩ | ⟨hlast, t, rfl⟩
    · have hholds : (u.result 0 (t.words r) []).holds 0 (t.words r) :=
        State.holds_result [] (by rw [hm]; exact h5)
      refine ⟨?_, .inl ⟨t.index, t.bitPos, t.printPos, t.count, r, hholds, ?_, hr, ?_⟩⟩ <;> rw [hm] <;> rfl
    · refine ⟨?_, .inr ⟨hlast, ?_, t, rfl⟩⟩ <;> rw [hm] <;> rfl
  case faults =>
    intro s index bitPos printPos count ptr hu h hsp hr hl hres a text entry t hpos hlast
    have hu' : (s.popped (s.suspensionLeft ptr)).undisturbed := hu
    have hX := State.atScan_storesIn hu hr
    have huX := (State.Reading.storesIn _ _).undisturbed hu' hX
    have hvacant {u : State} {vas : Long → Prop} (hs : (s.popped (s.suspensionLeft ptr)).StoresIn vas u) {va : Long}
        (hv : (s.entryOf va).isVacant = true) : (u.entryOf va).isVacant = true := (hs.pages _).2.1.trans hv
    have hexec {k : FaultKind} {va : Long} {u : State} := exec_txtblt_faults hu h hr hl hres (e := .fault k va) (u := u)
    refine ⟨fun hf hv => ?text, fun hf => ⟨fun hv => ?vacant, fun hv hp => ?locked, fun hs hv => ?stored⟩⟩
    case text =>
      exact (hexec (txtPass_text_faults _ hpos hlast hf (fetch_vacant huX (hvacant hX hv)))).trans
        (congrArg _ (takeException_popped _ _))
    case vacant =>
      exact (hexec (txtPass_store_faults _ hpos hlast hf (store_vacant _ huX (hvacant hX hv)))).trans
        (congrArg _ (takeException_popped _ _))
    case locked =>
      have hv' : ((s.atScan ptr).entryOf entry).isVacant = false := (hX.pages _).2.1.trans hv
      have hp' : ((s.atScan ptr).entryOf entry).isProtected = true := (hX.pages _).2.2.trans hp
      exact (hexec (txtPass_store_faults _ hpos hlast hf (store_protected _ huX hv' hp'))).trans
        (congrArg _ (takeException_popped _ _))
    case stored =>
      have hs' : (s.atScan ptr).storable entry := (hX.storable (.of_undisturbed hu')).2 hs
      have hstored := (hX.mono (vas' := Eq entry) fun _ => False.elim).storeWord rfl hs'.1 bitPos
      have huS := (State.Reading.storesIn _ _).undisturbed hu' hstored
      exact (hexec (txtPass_stored_faults _ hpos hlast hf (store_ok _ huX hs') (fetch_vacant huS (hvacant hstored hv)))).trans
        (congrArg _ (takeException_popped_storeWord _ _ _ _))

end Sys2Proof.Machine
end
